-- ==== Sys2Proof/Word.lean ====
section
/-! DEFINITION. The words of the part: a byte of a port window, a 24-bit measurement sample, the 32-bit phase. -/

namespace Sys2Proof

/-- One byte of a port window, a plan image or a Marker Bus transaction. -/
abbrev Byte := BitVec 8

/-- One signed 24-bit ADC sample (00_scope.md, Conventions). -/
abbrev Sample := BitVec 24

/-- One value of the 32-bit phase accumulator (R48). -/
abbrev Phase := BitVec 32

end Sys2Proof
end

