-- ==== Sys2Proof/Syntax.lean ====
section
/-! DEFINITION. The commands of the part: one constructor of `Instr` per row of spec/opcode_table.json. -/

namespace Sys2Proof

/-- The two host ports (10_station_and_line_ports.md). -/
inductive PortId where
  | station
  | line
  deriving DecidableEq, Repr

/-- The two nests (R23). -/
inductive NestId where
  | a
  | b
  deriving DecidableEq, Repr

/-- When the owning block takes a request whose code is written: in the moment that follows the write, with no event
between, or at a later REQUEST_TAKEN (R170; assumption log 2). -/
inductive Taking where
  | atOnce
  | later
  deriving DecidableEq, Repr

/-- How a write transaction that starts no request comes to its end: whole, broken off in the middle of a byte (R168, R169), or as
the rest of a transaction that began before or during a hold and ends after the release, whatever it carries (R188). -/
inductive WriteEnd where
  | whole
  | broken
  | interrupted
  deriving DecidableEq, Repr

/-- What holds the part in reset (R186). -/
inductive HoldCause where
  | supply
  | pin
  deriving DecidableEq, Repr

/-- What else the pins show at a release: the ambient strap (R187), and of each port whether a transaction of it is under way
(R188). -/
structure ReleasePins where
  ambient       : Bool
  stationInside : Bool
  lineInside    : Bool
  deriving DecidableEq, Repr

/-- How a probe ends on the Marker Bus: no acknowledge, or the four bytes of the ability page (R149, R183). -/
inductive ProbeResult where
  | nak
  | page (version formats maxPages kind : Byte)
  deriving DecidableEq, Repr

/-- How a page transaction ends on the Marker Bus: no acknowledge, or the reply byte (R157, R183). -/
inductive PageResult where
  | nak
  | reply (b : Byte)
  deriving DecidableEq, Repr

/-- The requests that have a code (R180, Request codes and parameters). -/
inductive Request where
  | planOpen | planData | planClose | planActivate | planRevoke
  | calibrate | chainCheck | serialBase | closeShift | markerStart | stationReset
  | loadUnit | releaseNest | lineEvent
  | startNest | abortNest | reprint
  | readNest | readPoints | readAccounts | readShift | readMarker | readUnitTable
  | readEvents | setMask | identify | abandon
  deriving DecidableEq, Repr

/-- The commands. A request row is the write transaction of its code on port `p`, with `params` written to the
parameter area from byte 0 in the same transaction (empty: the area stands as it is), followed by the taking of the
request when `t` is `atOnce`. Such a transaction, its CS fall or start condition with it, lies whole after the last release: one
that a hold has interrupted starts no request, and comes as `parameterAreaWrite` (R188; assumption log 38). The other rows are the events of the part, with what comes from outside as operands. -/
inductive Instr where
  | planOpen (p : PortId) (params : List Byte) (t : Taking)
  | planData (p : PortId) (params : List Byte) (t : Taking)
  | planClose (p : PortId) (params : List Byte) (t : Taking)
  | planActivate (p : PortId) (params : List Byte) (t : Taking)
  | planRevoke (p : PortId) (params : List Byte) (t : Taking)
  | calibrate (p : PortId) (params : List Byte) (t : Taking)
  | chainCheck (p : PortId) (params : List Byte) (t : Taking)
  | serialBase (p : PortId) (params : List Byte) (t : Taking)
  | closeShift (p : PortId) (params : List Byte) (t : Taking)
  | markerStart (p : PortId) (params : List Byte) (t : Taking)
  | stationReset (p : PortId) (params : List Byte) (t : Taking)
  | loadUnit (p : PortId) (params : List Byte) (t : Taking)
  | releaseNest (p : PortId) (params : List Byte) (t : Taking)
  | lineEvent (p : PortId) (params : List Byte) (t : Taking)
  | startNest (p : PortId) (params : List Byte) (t : Taking)
  | abortNest (p : PortId) (params : List Byte) (t : Taking)
  | reprint (p : PortId) (params : List Byte) (t : Taking)
  | readNest (p : PortId) (params : List Byte) (t : Taking)
  | readPoints (p : PortId) (params : List Byte) (t : Taking)
  | readAccounts (p : PortId) (params : List Byte) (t : Taking)
  | readShift (p : PortId) (params : List Byte) (t : Taking)
  | readMarker (p : PortId) (params : List Byte) (t : Taking)
  | readUnitTable (p : PortId) (params : List Byte) (t : Taking)
  | readEvents (p : PortId) (params : List Byte) (t : Taking)
  | setMask (p : PortId) (params : List Byte) (t : Taking)
  | identify (p : PortId) (params : List Byte) (t : Taking)
  | abandon (p : PortId) (params : List Byte)
  | unknownRequest (p : PortId) (code : Byte) (params : List Byte)
  /-- A transaction that is no request's write: access byte (looked at on the Station Port alone), start offset, data bytes, and
  how it ended (R168, R169, R188). -/
  | parameterAreaWrite (p : PortId) (access start : Byte) (data : List Byte) (fate : WriteEnd)
  | checksComplete
  | burstTimerExpiry
  | linePinChange (line : Fin 8) (level : Bool)
  | debounceExpiry (line : Fin 8)
  | windowBegin
  /-- The samples taken during the window, one pair for each sample instant: measurement input, ambient input (R63). -/
  | windowEnd (samples : List (Sample × Sample))
  | holdoffEnd
  | runOutFadeOut
  | lastFadeOutSample
  | analysisCompletion
  | probeEnd (result : ProbeResult)
  | retryWaitEnd (device : Fin 4)
  | pageTransactionEnd (result : PageResult)
  | busyWaitEnd
  | labelTimerExpiry
  | resetHold (cause : HoldCause)
  /-- `cause` has gone; when it was the last, the straps are sampled and the transactions under way are lost (R186 to R188). -/
  | resetRelease (cause : HoldCause) (addressStraps : BitVec 2) (pins : ReleasePins)
  | requestTaken (p : PortId)
  deriving DecidableEq, Repr

end Sys2Proof
end

