-- ==== Sys2Proof/Decode.lean ====
section
/-! DEFINITION. The command a word spells. The part has no instruction words, and no row of spec/opcode_table.json has bits, so
no word spells a command (assumption log 26). -/

namespace Sys2Proof

/-- The command that the low `nbits` bits of `w` spell: none, for every word (assumption log 26). -/
def decodeTableWord (_ _ : Nat) : Option Instr := none

end Sys2Proof
end

