-- ==== Sys2Proof/Config.lean ====
section
/-! DEFINITION. What is fixed for the part: the constants of 00_scope.md, and the free values of the model. -/

namespace Sys2Proof.Config

/-- The value bytes of absent reply fields whose absence a mark shows (R180: "by a presence mark of its own layout").
The spec states no value for them: a free value, drawn by State's counter (assumption log 9). -/
opaque unstatedByte : Nat → Byte

/-- What the 4 bytes of D show for a D of 2 to the power 32 or more, which they cannot hold (R137, R184). The spec states no
value there: a free value (assumption log 39). -/
opaque endedPastField : Nat → BitVec 32

/-- Full scale of a sample (00_scope.md). -/
def fullScale : Nat := 8388607

/-- The sample rate in centihertz (00_scope.md). -/
def sampleRate : Nat := 4800000

/-- Samples of a ramp (R51), and the shortest settle (R52). -/
def rampSamples : Nat := 480

/-- Sample periods in one millisecond (R68). -/
def samplesPerMs : Nat := 48

/-- Part number and silicon revision reported by IDENTIFY (R179). -/
def partNumber : Nat := 0x4620

/-- Silicon revision (R179). -/
def siliconRevision : Nat := 1

/-- Base of the Line Port target address (R169). -/
def lineAddressBase : Nat := 0x58

end Sys2Proof.Config
end

