-- ==== Sys2Proof/Machine/Bytes.lean ====
section
/-! DEFINITION. Byte order and field encodings: every multi-byte field is little-endian (R180). -/

namespace Sys2Proof.Machine
open Sys2Proof

/-! ### Reading -/

/-- The byte at `i` as a number; the callers stay inside the list. -/
def u8At (l : List Byte) (i : Nat) : Nat := (l.getD i 0).toNat

/-- A 2-byte field at `i` (R180). -/
def u16At (l : List Byte) (i : Nat) : Nat := u8At l i + 256 * u8At l (i + 1)

/-- A 4-byte field at `i` (R180). -/
def u32At (l : List Byte) (i : Nat) : Nat := u16At l i + 65536 * u16At l (i + 2)

/-- A signed 2-byte field at `i` (R180). -/
def s16At (l : List Byte) (i : Nat) : Int := (BitVec.ofNat 16 (u16At l i)).toInt

/-! ### Writing -/

/-- The `k` bytes of `n`, least significant first (R180). -/
def le : Nat → Nat → List Byte
  | 0, _ => []
  | k + 1, n => BitVec.ofNat 8 n :: le k (n / 256)

/-- One byte. -/
def byte (n : Nat) : List Byte := le 1 n

/-- A signed 2-byte field (R180). -/
def leSigned (v : Int) : List Byte := le 2 (BitVec.ofInt 16 v).toNat

/-- A flag in one byte. -/
def flag (b : Bool) : List Byte := byte b.toNat

/-- A level or ratio; absent is 8000h (R180). -/
def leLevel : Option Int → List Byte
  | some v => leSigned v
  | none => le 2 0x8000

/-- A serial in a reply; absent is 0 (R180). -/
def leSerial (v : Option Nat) : List Byte := le 3 (v.getD 0)

/-- A plan id with its presence byte (R180). -/
def lePlanId : Option (BitVec 32) → List Byte
  | some v => byte 1 ++ le 4 v.toNat
  | none => byte 0 ++ le 4 0

/-- A yield in basis points; absent is FFFFh (R180). -/
def leYield (v : Option Nat) : List Byte := le 2 (v.getD 0xFFFF)

/-- A 2-byte field whose absence is FFFFh (R184, R185). -/
def leWordOrFFFF (v : Option Nat) : List Byte := le 2 (v.getD 0xFFFF)

/-- An index or count in one byte; absent is FFh (R180). -/
def byteOrFF (v : Option Nat) : List Byte := byte (v.getD 0xFF)

/-- A 32-bit account or counter (R180). -/
def leCount (v : BitVec 32) : List Byte := le 4 v.toNat

/-! ### The two 64-byte areas of a port window -/

/-- `bs` written from byte `i` upward; a byte past the end of the area is not written (R167). -/
def writeBytes (v : Vector Byte 64) : Nat → List Byte → Vector Byte 64
  | _, [] => v
  | i, b :: bs => writeBytes (v.setIfInBounds i b) (i + 1) bs

end Sys2Proof.Machine
end

