-- ==== Sys2Proof/Machine/State.lean ====
section
/-! DEFINITION. Everything the spec gives the part to hold, block by block, the outcomes, and the state after reset. -/

namespace Sys2Proof.Machine
open Sys2Proof

/-- Why the part stops with a fault. It has no constructor: no rule of the spec stops the part (every command answers a
next state), so nothing raises a fault. Safe: nothing is hidden behind one. -/
inductive Fault where
  deriving DecidableEq, Repr

/-- Why a command has no meaning. -/
inductive Refusal where
  /-- Raised by an arm of `exec` whose command has no meaning in the model yet; no arm raises it now. Safe: the run stops. -/
  | notModelled (mnemonic : String)
  deriving DecidableEq, Repr

/-- The reply statuses (R180). -/
inductive Status where
  | ok | unknownRequest | notOnThisPort | badParam | state | noPlan | planPending | unverified | notCalibrated
  | fixture | serialUnset | unknownSerial | inUse | boundToLine | noHistory | queueFull | abandoned | clamped
  deriving DecidableEq, Repr

/-! ### Ports (R167 to R178) -/

/-- The states of a request slot (R170). -/
inductive SlotState where
  | idle | running | done | refused
  deriving DecidableEq, Repr

/-- The request in a RUNNING slot: its copy of the parameter area, and whether its block has taken it (R170, R172). -/
structure RunningRequest where
  request : Request
  params  : Vector Byte 64
  taken   : Bool
  deriving DecidableEq, Repr

/-- One port: its window, its slot, its latched events (R167, R170, R174, R175, R177). -/
structure Port where
  slot       : SlotState
  lastCode   : Byte
  sequence   : BitVec 8
  params     : Vector Byte 64
  reply      : Vector Byte 64
  running    : Option RunningRequest
  events     : BitVec 16
  unverified : Bool
  mask       : BitVec 32
  /-- Where a read addressed without an offset byte continues (R169, R188). -/
  readOffset : Nat
  /-- A transaction that a hold has interrupted is still under way: CS has not fallen anew, no start condition has come (R188). -/
  lost       : Bool
  deriving DecidableEq, Repr

/-! ### Plans (R1 to R22, R47) -/

/-- The measures a curve judges (R4). -/
inductive Measure where
  | spl | rel | thd | rnb
  deriving DecidableEq, Repr

/-- The conditions of a curve (R4, R99). -/
inductive Condition where
  | failAbove | failAtOrAbove | failBelow | failAtOrBelow
  deriving DecidableEq, Repr

/-- A breakpoint of a limit curve (R4). -/
structure Breakpoint where
  freq  : Nat
  limit : Int
  deriving DecidableEq, Repr

/-- A limit curve (R4). -/
structure Curve where
  measure     : Measure
  condition   : Condition
  reason      : Nat
  breakpoints : List Breakpoint
  deriving DecidableEq, Repr

/-- A sweep segment (R3). -/
structure Segment where
  start     : Nat
  stop      : Nat
  perOctave : Nat
  drive     : Int
  settle    : Nat
  window    : Nat
  harmonics : Nat
  guard     : Bool
  deriving DecidableEq, Repr

/-- The SWEEP section (R3). -/
structure Sweep where
  segments    : List Segment
  stopOnFail  : Bool
  reference   : Option Nat
  minResponse : Int
  deriving DecidableEq, Repr

/-- A bin and its priority (R5). -/
structure BinEntry where
  bin      : Nat
  priority : Nat
  deriving DecidableEq, Repr

/-- The BINS section: the entries of codes 1 to 14, in code order, and the RETEST bin (R5). -/
structure Bins where
  entries   : List BinEntry
  retestBin : Nat
  deriving DecidableEq, Repr

/-- The GUARD section (R6). -/
structure Guard where
  threshold : Int
  retries   : Nat
  holdoffMs : Nat
  overload  : Nat
  deriving DecidableEq, Repr

/-- The POLICY section (R6). -/
structure Policy where
  maxAttempts  : Nat
  windowLength : Nat
  failLimit    : Nat
  alarm        : Nat
  deriving DecidableEq, Repr

/-- The roles of marking devices (R7). -/
inductive Role where
  | label | reject
  deriving DecidableEq, Repr

/-- One entry of the plan's device table (R7). -/
structure DevicePlan where
  address : Nat
  role    : Role
  deriving DecidableEq, Repr

/-- The MARKER section (R7). -/
structure MarkerPlan where
  devices     : List DevicePlan
  preferences : List Nat
  timeout     : Nat
  deriving DecidableEq, Repr

/-- The input functions of event lines (R8, R41). -/
inductive InputFunction where
  | present (n : NestId) | clamp (n : NestId) | start (n : NestId) | doorClosed | stop
  deriving DecidableEq, Repr

/-- The output functions of event lines (R8, R45). -/
inductive OutputFunction where
  | busy (n : NestId) | pass (n : NestId) | fail (n : NestId) | unverified | yieldLow
  deriving DecidableEq, Repr

/-- What the line map gives a line (R8, R41). -/
inductive LineFunction where
  | unused
  | input (f : InputFunction)
  | output (f : OutputFunction)
  deriving DecidableEq, Repr

/-- The contents of a checked plan (R1 to R8). -/
structure PlanContent where
  id     : BitVec 32
  sweep  : Sweep
  limits : List Curve
  bins   : Bins
  guard  : Guard
  policy : Policy
  marker : Option MarkerPlan
  lines  : Option (List LineFunction)
  deriving DecidableEq, Repr

/-- An entry of the point list (R47). -/
structure PointEntry where
  index     : Nat
  freq      : Nat
  segment   : Nat
  inc       : Phase
  amp       : Nat
  settle    : Nat
  cEff      : Nat
  harmonics : Nat
  guard     : Bool
  deriving DecidableEq, Repr

/-- A plan that passed PLAN CLOSE, with its point list; its image stands in the staging area (R16). -/
structure StagedPlan where
  content : PlanContent
  points  : List PointEntry
  deriving DecidableEq, Repr

/-- The active plan store (R9, R20). -/
structure ActivePlan where
  image   : List Byte
  content : PlanContent
  points  : List PointEntry
  deriving DecidableEq, Repr

/-- The states of the Plan Loader (R9). -/
inductive LoaderState where
  | idle | receiving | checking | staged | pending
  deriving DecidableEq, Repr

/-- The Plan Loader (R9). -/
structure Loader where
  state        : LoaderState
  staging      : List Byte
  writePtr     : Nat
  declared     : Nat
  /-- The burst timeout given at PLAN OPEN, in units of 100 ms (R10). -/
  timeout      : Nat
  overrun      : Bool
  burstRunning : Bool
  staged       : Option StagedPlan
  active       : Option ActivePlan
  deriving DecidableEq, Repr

/-! ### Event lines (R41 to R45) -/

/-- One event line: its function, the pin level applied from outside, its debounced level (absent: undetermined) and
whether its debounce timer runs (R42). -/
structure Line where
  function  : LineFunction
  pin       : Bool
  debounced : Option Bool
  timer     : Bool
  deriving DecidableEq, Repr

/-- The eight lines and the virtual levels of the six level functions (R43). -/
structure Lines where
  line     : Vector Line 8
  presentA : Bool
  presentB : Bool
  clampA   : Bool
  clampB   : Bool
  door     : Bool
  stop     : Bool
  deriving DecidableEq, Repr

/-! ### Nest records (R23, R93, R100) -/

/-- The states of a nest (R23). -/
inductive NestState where
  | empty | loaded | waiting | measuring | analysing | labelWait | done
  deriving DecidableEq, Repr

/-- The kind of unit in a nest (R23). -/
inductive UnitKind where
  | production | reference
  deriving DecidableEq, Repr

/-- The statuses of a point record (R93). -/
inductive PointStatus where
  | valid | noisy | overload | noSignal | skipped
  deriving DecidableEq, Repr

/-- A point record (R93). -/
structure PointRecord where
  index    : Nat
  freq     : Nat
  status   : PointStatus
  attempts : Nat
  spl      : Option Int
  thd      : Option Int
  rnb      : Option Int
  rel      : Option Int
  deriving DecidableEq, Repr

/-- The reference state of a test (R100). -/
inductive RefState where
  | none | awaited | valid | notValid
  deriving DecidableEq, Repr

/-- The verdicts (R107). -/
inductive Verdict where
  | pass | fail | retest
  deriving DecidableEq, Repr

/-- A worst-margin record (R106). -/
structure Worst where
  margin    : Int
  point     : Nat
  saturated : Bool
  deriving DecidableEq, Repr

/-- A refused START: its status and subcode (R23, R27). -/
structure StartRefusal where
  status  : Status
  subcode : Nat
  deriving DecidableEq, Repr

/-- A nest record (R23, R100). -/
structure Nest where
  state         : NestState
  kind          : Option UnitKind
  serial        : Option Nat
  attempt       : Option Nat
  tag           : BitVec 16
  slots         : List (Option PointRecord)
  /-- For each curve, the point indices it has judged (R100). -/
  judged        : List (List Nat)
  refState      : RefState
  /-- Reason codes detected, without repeats (R100). -/
  detected      : List Nat
  failList      : List Nat
  overflow      : Nat
  causeNoisy    : Bool
  causeOverload : Bool
  verdict       : Option Verdict
  bin           : Option Nat
  worst         : List (Option Worst)
  ticket        : Option (BitVec 16)
  lastRefusal   : Option StartRefusal
  deriving DecidableEq, Repr

/-! ### The measurement chain (R36 to R40, R49) -/

/-- Who may claim the chain (R36). -/
inductive Claimant where
  | nest (n : NestId)
  | check
  deriving DecidableEq, Repr

/-- The chain queue, the holder, and the progress of a CHAIN CHECK (R36, R39). -/
structure Chain where
  queue    : List Claimant
  holder   : Option Claimant
  checkTag : BitVec 16
  /-- Lfs of the check's first and second point, once taken. -/
  checkA   : Option Int
  checkB   : Option Int
  /-- The check's fade-out has ended. -/
  checkFaded : Bool
  deriving DecidableEq, Repr

/-- The modes of the Tone Generator (R49). -/
inductive GenMode where
  | silent | settle | window | holdoff | runOut | fadeOut
  deriving DecidableEq, Repr

/-- The Tone Generator (R48, R49). -/
structure Generator where
  mode         : GenMode
  acc          : Phase
  inc          : Phase
  amp          : Nat
  ramp         : Nat
  cursor       : Nat
  samples      : Nat
  wraps        : Nat
  stopMark     : Bool
  claimant     : Option Claimant
  tag          : BitVec 16
  /-- The value in the accumulator was left by a wrap (R48). -/
  postWrap     : Bool
  /-- Samples of the window under way that have been played (R54). -/
  windowPlayed : Nat
  /-- The output sample last passed to the stimulus DAC (R48). -/
  dac          : Int
  deriving DecidableEq, Repr

/-! ### Capture and analysis (R61, R67, R73, R77) -/

/-- The two capture halves (R61). -/
inductive HalfId where
  | zero | one
  deriving DecidableEq, Repr

/-- The states of a capture half (R61). -/
inductive HalfState where
  | free | filling | queued | inAnalysis
  deriving DecidableEq, Repr

/-- A capture half (R61). `input` is the measurement input recorded. -/
structure Half where
  state     : HalfState
  claimant  : Claimant
  tag       : BitVec 16
  input     : NestId
  point     : Nat
  freq      : Nat
  inc       : Phase
  cEff      : Nat
  harmonics : Nat
  guard     : Bool
  p0        : Phase
  length    : Nat
  attempt   : Nat
  micOffset : Option Int
  samples   : List (Int × Phase)
  peak      : Nat
  ambient   : Nat
  deriving DecidableEq, Repr

/-- A calibration record (R73). -/
structure Calibration where
  micA    : Int
  micB    : Int
  ambient : Int
  deriving DecidableEq, Repr

/-- The Capture Unit (R61, R67, R73). -/
structure Capture where
  half0   : Half
  half1   : Half
  attempt : Nat
  /-- Sample periods left of the holdoff; absent: stopped (R68). -/
  holdoff : Option Nat
  active  : Option Calibration
  pending : Option Calibration
  deriving DecidableEq, Repr

/-- The Analysis Engine (R77): BUSY exactly while it has a half under analysis. -/
structure Engine where
  under    : Option HalfId
  /-- The analysis input queue (R70, R77). -/
  queue    : List HalfId
  inPhase  : List Int
  quad     : List Int
  residual : Rat
  deriving DecidableEq, Repr

/-! ### Unit Table (R115, R120, R128) -/

/-- An entry of the retest list (R120). -/
structure RetestEntry where
  serial   : Nat
  attempts : Nat
  verdict  : Verdict
  bin      : Nat
  deriving DecidableEq, Repr

/-- The last reference outcome, when present (R128). -/
inductive RefOutcome where
  | granted | notQualified | failed
  deriving DecidableEq, Repr

/-- The Unit Table (R115). A qualification that is not QUALIFIED is WITHDRAWN. -/
structure UnitTable where
  serialCounter : Nat
  retest        : List RetestEntry
  listSequence  : BitVec 16
  heldA         : Option RetestEntry
  heldB         : Option RetestEntry
  remaining     : Nat
  qualifiedA    : Bool
  qualifiedB    : Bool
  lastReference : Option RefOutcome
  failCount     : Nat
  deriving DecidableEq, Repr

/-! ### Yield Accounts (R132, R138, R143) -/

/-- The thirty counts of R132. -/
structure Counts where
  issued           : BitVec 32
  firstPass        : BitVec 32
  retestPass       : BitVec 32
  finalFail        : BitVec 32
  expired          : BitVec 32
  releasedUntested : BitVec 32
  aborted          : BitVec 32
  failVerdicts     : BitVec 32
  retestVerdicts   : BitVec 32
  guardHits        : BitVec 32
  noisyPoints      : BitVec 32
  overloadPoints   : BitVec 32
  bins             : Vector (BitVec 32) 16
  refTests         : BitVec 32
  refPass          : BitVec 32
  deriving DecidableEq, Repr

/-- The kinds of completion entries (R138). -/
inductive Completion where
  | firstPass | retestPass | finalFail | expired
  deriving DecidableEq, Repr

/-- An entry of the outcome ring (R138). -/
structure RingEntry where
  serial : Nat
  kind   : Completion
  deriving DecidableEq, Repr

/-- Why a shift closed (R143). -/
inductive CloseReason where
  | requested | planChange
  deriving DecidableEq, Repr

/-- A shift record (R143). -/
structure ShiftRecord where
  number     : Nat
  reason     : CloseReason
  planId     : Option (BitVec 32)
  deltas     : Counts
  firstYield : Option Nat
  finalYield : Option Nat
  deriving DecidableEq, Repr

/-- The Yield Accounts (R132). The ring and the shift records stand oldest first. -/
structure Accounts where
  counts   : Counts
  ring     : List RingEntry
  ringSeq  : BitVec 16
  baseline : Counts
  shifts   : List ShiftRecord
  shift    : Nat
  deriving DecidableEq, Repr

/-! ### Marker Controller (R146, R147, R153, R163) -/

/-- The states of a marking device (R147). -/
inductive DeviceState where
  | down | negotiating | ready | fault
  deriving DecidableEq, Repr

/-- Why a marking device is in FAULT (R147). -/
inductive DeviceFault where
  | absent | badVersion | noCommonFormat
  deriving DecidableEq, Repr

/-- The ability page of a device (R147, R183). -/
structure Abilities where
  version  : Byte
  formats  : Byte
  maxPages : Byte
  kind     : Byte
  deriving DecidableEq, Repr

/-- A label job (R153). `fails` is its verdict: clear for PASS, set for FAIL. -/
structure Job where
  ticket   : Option (BitVec 16)
  serial   : Nat
  nest     : NestId
  fails    : Bool
  bin      : Nat
  attempt  : Nat
  shift    : Nat
  planId   : BitVec 32
  role     : Role
  reprint  : Bool
  restarts : Nat
  margins  : List (Option Int)
  deriving DecidableEq, Repr

/-- An entry of the device table (R147). -/
structure Device where
  address   : Nat
  role      : Role
  state     : DeviceState
  cause     : Option DeviceFault
  abilities : Option Abilities
  resolved  : Option Nat
  toggle    : Bool
  naks      : Nat
  retryWait : Bool
  history   : Option Job
  deriving DecidableEq, Repr

/-- The head progress (R146). The label timer holds the timeout it was started with, in seconds. -/
structure Head where
  bound    : Option Nat
  page     : Nat
  busyWait : Bool
  timer    : Option Nat
  deriving DecidableEq, Repr

/-- Why a job failed (R163). -/
inductive JobFault where
  | noDevice | deviceReject | restartLimit | timeout
  deriving DecidableEq, Repr

/-- The last failed job (R163). -/
structure FailedJob where
  job    : Job
  cause  : JobFault
  device : Option Nat
  page   : Nat
  deriving DecidableEq, Repr

/-- What a Marker Bus transaction sends (R149, R157): nothing but the read of a probe, or a control byte and eight
payload bytes. -/
inductive BusWork where
  | probe
  | page (control : Byte) (payload : List Byte)
  deriving DecidableEq, Repr

/-- What becomes of a transaction's outcome: it acts in full; it acts on the device alone, its job having failed at the
label timer (R161); or it is discarded (R148, R151). -/
inductive Fate where
  | live | deviceOnly | discarded
  deriving DecidableEq, Repr

/-- The transaction under way on the Marker Bus (R146, R152). -/
structure Transaction where
  device : Nat
  work   : BusWork
  fate   : Fate
  deriving DecidableEq, Repr

/-- A nest in LABEL_WAIT with its job (R155). -/
structure WaitingJob where
  nest : NestId
  job  : Job
  deriving DecidableEq, Repr

/-- The Marker Controller (R146). The bus is IDLE exactly while no transaction is under way. -/
structure Marker where
  devices    : List Device
  queue      : List Job
  waitList   : List WaitingJob
  head       : Head
  ticket     : BitVec 16
  enqueued   : BitVec 32
  done       : BitVec 32
  failed     : BitVec 32
  dropped    : BitVec 32
  lastFailed : Option FailedJob
  bus        : Option Transaction
  deriving DecidableEq, Repr

/-! ### The whole part -/

/-- The causes that hold the part in reset (R186). -/
structure Hold where
  supply : Bool
  pin    : Bool
  deriving DecidableEq, Repr

/-- The straps as sampled at the last release (R187). -/
structure Straps where
  address : BitVec 2
  ambient : Bool
  deriving DecidableEq, Repr

/-- The state of the part, with the queue of waiting commands and the model's counter of unstated bytes. -/
structure State where
  hold      : Hold
  straps    : Straps
  station   : Port
  line      : Port
  loader    : Loader
  lines     : Lines
  nestA     : Nest
  nestB     : Nest
  chain     : Chain
  gen       : Generator
  capture   : Capture
  engine    : Engine
  units     : UnitTable
  accounts  : Accounts
  marker    : Marker
  freeCount : Nat
  pending   : List Instr
  deriving DecidableEq, Repr

/-! ### Values after reset -/

/-- A port after power-on and the external reset (R167, R174, R177, R187). Event bit 15 is RESET. -/
def Port.reset : Port where
  slot := .idle
  lastCode := 0
  sequence := 0
  params := Vector.replicate 64 0
  reply := Vector.replicate 64 0
  running := none
  events := 0x8000
  unverified := true
  mask := 0xFFFFFFFF
  readOffset := 0
  lost := false

/-- The loader after power-on (R9). -/
def Loader.reset : Loader where
  state := .idle
  staging := []
  writePtr := 0
  declared := 0
  timeout := 0
  overrun := false
  burstRunning := false
  staged := none
  active := none

/-- A line after power-on: UNUSED (R41). The pin level is the outside's (assumption log 10). -/
def Line.reset : Line where
  function := .unused
  pin := false
  debounced := none
  timer := false

/-- The event lines after power-on: all UNUSED, virtual levels at their defaults (R41, R43). -/
def Lines.reset : Lines where
  line := Vector.replicate 8 Line.reset
  presentA := true
  presentB := true
  clampA := true
  clampB := true
  door := true
  stop := false

/-- A nest record after any reset (R23, R100). It shows no curves until its next grant, also after a STATION RESET that keeps a
plan (DESIGN CHOICE, assumption log 36). -/
def Nest.reset : Nest where
  state := .empty
  kind := none
  serial := none
  attempt := none
  tag := 0
  slots := []
  judged := []
  refState := .none
  detected := []
  failList := []
  overflow := 0
  causeNoisy := false
  causeOverload := false
  verdict := none
  bin := none
  worst := []
  ticket := none
  lastRefusal := none

/-- The chain after any reset (R35, R36, R39). -/
def Chain.reset : Chain where
  queue := []
  holder := none
  checkTag := 0
  checkA := none
  checkB := none
  checkFaded := false

/-- The generator after any reset (R49). R49 gives the tag no value while no claimant is served; the model takes 0 (DESIGN CHOICE,
assumption log 10). -/
def Generator.reset : Generator where
  mode := .silent
  acc := 0
  inc := 0
  amp := 0
  ramp := 0
  cursor := 0
  samples := 0
  wraps := 0
  stopMark := false
  claimant := none
  tag := 0
  postWrap := false
  windowPlayed := 0
  dac := 0

/-- A capture half after any reset: FREE, both peaks 0 (R61); the fields that mean nothing are 0 (assumption log 10). -/
def Half.reset : Half where
  state := .free
  claimant := .check
  tag := 0
  input := .a
  point := 0
  freq := 0
  inc := 0
  cEff := 0
  harmonics := 0
  guard := false
  p0 := 0
  length := 0
  attempt := 1
  micOffset := none
  samples := []
  peak := 0
  ambient := 0

/-- The Capture Unit after power-on (R61, R67, R73). -/
def Capture.reset : Capture where
  half0 := Half.reset
  half1 := Half.reset
  attempt := 1
  holdoff := none
  active := none
  pending := none

/-- The Analysis Engine after any reset (R77). -/
def Engine.reset : Engine where
  under := none
  queue := []
  inPhase := List.replicate 12 0
  quad := List.replicate 12 0
  residual := 0

/-- The Unit Table after power-on (R115). -/
def UnitTable.reset : UnitTable where
  serialCounter := 0
  retest := []
  listSequence := 0
  heldA := none
  heldB := none
  remaining := 0
  qualifiedA := false
  qualifiedB := false
  lastReference := none
  failCount := 0

/-- All counts 0 (R132). -/
def Counts.zero : Counts where
  issued := 0
  firstPass := 0
  retestPass := 0
  finalFail := 0
  expired := 0
  releasedUntested := 0
  aborted := 0
  failVerdicts := 0
  retestVerdicts := 0
  guardHits := 0
  noisyPoints := 0
  overloadPoints := 0
  bins := Vector.replicate 16 0
  refTests := 0
  refPass := 0

/-- The Yield Accounts after any reset (R132). -/
def Accounts.reset : Accounts where
  counts := Counts.zero
  ring := []
  ringSeq := 0
  baseline := Counts.zero
  shifts := []
  shift := 1

/-- The head progress with nothing in it (R146). -/
def Head.clear : Head where
  bound := none
  page := 0
  busyWait := false
  timer := none

/-- The Marker Controller after power-on (R146). -/
def Marker.reset : Marker where
  devices := []
  queue := []
  waitList := []
  head := Head.clear
  ticket := 0
  enqueued := 0
  done := 0
  failed := 0
  dropped := 0
  lastFailed := none
  bus := none

/-- The part right after a release from reset, with the straps sampled there (R187). -/
def State.powerOn (straps : Straps) : State where
  hold := ⟨false, false⟩
  straps := straps
  station := Port.reset
  line := Port.reset
  loader := Loader.reset
  lines := Lines.reset
  nestA := Nest.reset
  nestB := Nest.reset
  chain := Chain.reset
  gen := Generator.reset
  capture := Capture.reset
  engine := Engine.reset
  units := UnitTable.reset
  accounts := Accounts.reset
  marker := Marker.reset
  freeCount := 0
  pending := []

/-- The machine right after reset; both straps groups read 0 (DESIGN CHOICE, assumption log 10). -/
def State.reset : State := State.powerOn ⟨0, false⟩

end Sys2Proof.Machine
end

