-- ==== Sys2Proof/Machine/Ops.lean ====
section
/-! DEFINITION. The named operations every meaning goes through: reading and changing one port, one nest, one capture
half, one device or one block of the part. -/

namespace Sys2Proof.Machine
open Sys2Proof

/-- The part is held in reset while any cause stands (R186). -/
def State.held (s : State) : Bool := s.hold.supply || s.hold.pin

/-- The outcome of a command that acts by `f`: while the part is held in reset no request and no event reaches a block
(R186); otherwise the next state is `f s`. -/
def unlessHeld (f : State → State) (s : State) : Host.Outcome State Fault Refusal :=
  .next (if s.held then s else f s)

/-! ### Ports -/

/-- The other nest. -/
def otherNest : NestId → NestId
  | .a => .b
  | .b => .a

/-- Port `p`. -/
def State.port (p : PortId) (s : State) : Port :=
  match p with
  | .station => s.station
  | .line => s.line

/-- Change port `p` by `f`. -/
def State.modPort (p : PortId) (f : Port → Port) (s : State) : State :=
  match p with
  | .station => { s with station := f s.station }
  | .line => { s with line := f s.line }

/-! ### Nests -/

/-- Nest record `n`. -/
def State.nest (n : NestId) (s : State) : Nest :=
  match n with
  | .a => s.nestA
  | .b => s.nestB

/-- Change nest record `n` by `f`. -/
def State.modNest (n : NestId) (f : Nest → Nest) (s : State) : State :=
  match n with
  | .a => { s with nestA := f s.nestA }
  | .b => { s with nestB := f s.nestB }

/-- A nest under test: WAITING, MEASURING or ANALYSING (R32). -/
def NestState.inTest : NestState → Bool
  | .waiting | .measuring | .analysing => true
  | .empty | .loaded | .labelWait | .done => false

/-- The unit fields cleared and the state EMPTY (R24). -/
def Nest.emptied (n : Nest) : Nest :=
  { n with state := .empty, kind := none, serial := none, attempt := none }

/-! ### Capture halves -/

/-- Capture half `h`. -/
def State.half (h : HalfId) (s : State) : Half :=
  match h with
  | .zero => s.capture.half0
  | .one => s.capture.half1

/-- Change capture half `h` by `f`. -/
def State.modHalf (h : HalfId) (f : Half → Half) (s : State) : State :=
  match h with
  | .zero => { s with capture := { s.capture with half0 := f s.capture.half0 } }
  | .one => { s with capture := { s.capture with half1 := f s.capture.half1 } }

/-- The FREE half a window goes into: half 0 when both are FREE (R62). -/
def State.freeHalf (s : State) : Option HalfId :=
  if s.capture.half0.state = .free then some .zero
  else if s.capture.half1.state = .free then some .one
  else none

/-- The half that is FILLING, if a window is under way (R63). -/
def State.fillingHalf (s : State) : Option HalfId :=
  if s.capture.half0.state = .filling then some .zero
  else if s.capture.half1.state = .filling then some .one
  else none

/-- A half becomes FREE and leaves the analysis input queue (R62). -/
def State.freeOne (h : HalfId) (s : State) : State :=
  let s := s.modHalf h fun x => { x with state := .free }
  { s with engine := { s.engine with queue := s.engine.queue.filter (· ≠ h) } }

/-- The sweep tag or chain-check tag current for a claimant (R25, R39). -/
def State.tagOf (c : Claimant) (s : State) : BitVec 16 :=
  match c with
  | .nest n => (s.nest n).tag
  | .check => s.chain.checkTag

/-- Whether a half holds an outstanding window of `c` under its current tag (R29, R82). -/
def Half.outstandingFor (c : Claimant) (tag : BitVec 16) (h : Half) : Bool :=
  h.state ≠ .free && h.claimant = c && h.tag = tag

/-- The number of outstanding windows of nest `n` (R82). -/
def State.outstanding (n : NestId) (s : State) : Nat :=
  (s.capture.half0.outstandingFor (.nest n) (s.nest n).tag).toNat +
  (s.capture.half1.outstandingFor (.nest n) (s.nest n).tag).toNat

/-! ### The active plan -/

/-- The contents of the active plan, when a plan is active (R9). -/
def State.plan (s : State) : Option PlanContent := s.loader.active.map (·.content)

/-- The active plan's verification window length; 0 while no plan is active (R115). -/
def State.windowLength (s : State) : Nat :=
  match s.plan with
  | some c => c.policy.windowLength
  | none => 0

/-- The station is verified while the remaining count is at least 1 (R126). -/
def State.verified (s : State) : Bool := decide (1 ≤ s.units.remaining)

/-- The outgoing plan is in use (R18). -/
def State.planInUse (s : State) : Bool :=
  s.nestA.state.inTest || s.nestB.state.inTest || s.chain.holder = some .check

/-! ### Unstated bytes -/

/-- `n` unstated bytes of the reply being formed, from place `i` on (assumption log 9). -/
def State.unstated (s : State) (i n : Nat) : List Byte :=
  (List.range n).map fun k => Config.unstatedByte (s.freeCount + i + k)

/-- Move the counter past the unstated bytes of one reply (assumption log 9). -/
def State.spendUnstated (n : Nat) (s : State) : State := { s with freeCount := s.freeCount + n }

end Sys2Proof.Machine
end

