-- ==== Sys2Proof/Machine/Flags.lean ====
section
/-! DEFINITION. Latched events, the attention outputs, the STATION_VERIFIED status (R174 to R177), and the withdrawal of
verification (R129). -/

namespace Sys2Proof.Machine
open Sys2Proof

/-- The latched events (R174). -/
inductive Event where
  | nestDone (n : NestId)
  | planStaged | planRejected | planTimeout | planActivated
  | chainFault | referenceFailed | suspectFixture | labelFailed | markerFault
  | yieldLow | startRefused | collision | requestDone | reset
  deriving DecidableEq, Repr

/-- The bit of an event in the event word (R180). -/
def eventBit : Event → Nat
  | .nestDone .a => 0
  | .nestDone .b => 1
  | .planStaged => 2
  | .planRejected => 3
  | .planTimeout => 4
  | .planActivated => 5
  | .chainFault => 6
  | .referenceFailed => 7
  | .suspectFixture => 8
  | .labelFailed => 9
  | .markerFault => 10
  | .yieldLow => 11
  | .startRefused => 12
  | .collision => 13
  | .requestDone => 14
  | .reset => 15

/-- The event set with `e` in it (R174). -/
def Port.latch (e : Event) (q : Port) : Port :=
  { q with events := q.events ||| (1#16 <<< eventBit e) }

/-- Latch an event in one port's set (R174). -/
def State.latchOn (p : PortId) (e : Event) (s : State) : State := s.modPort p (Port.latch e)

/-- Latch an event in both ports' sets (R174). -/
def State.latchBoth (e : Event) (s : State) : State := (s.latchOn .station e).latchOn .line e

/-- A port's attention output: asserted while an unmasked event is latched (R177), released while the part is held
(R186). -/
def State.attention (p : PortId) (s : State) : Bool :=
  !s.held && ((s.port p).events.setWidth 32 &&& ~~~(s.port p).mask) != 0

/-- The station has become unverified: both unverified marks are set (R175). -/
def State.markUnverified (s : State) : State :=
  { s with station := { s.station with unverified := true }, line := { s.line with unverified := true } }

/-- A withdrawal of verification (R129). -/
def State.withdraw (s : State) : State :=
  { s with units := { s.units with remaining := 0, qualifiedA := false, qualifiedB := false } }.markUnverified

/-- What READ EVENTS reports as STATION_VERIFIED (R175). -/
def State.reportedVerified (p : PortId) (s : State) : Bool := !(s.port p).unverified && s.verified

end Sys2Proof.Machine
end

