-- ==== Sys2Proof/Machine/Operands.lean ====
section
/-! DEFINITION. The codes of requests, statuses, states and functions (R180, R182), the ports a request belongs to
(R173), and the reply to a request (R170, R180). -/

namespace Sys2Proof.Machine
open Sys2Proof

/-- The code of a request (R180). -/
def requestCode : Request → Byte
  | .planOpen => 0x10
  | .planData => 0x11
  | .planClose => 0x12
  | .planActivate => 0x13
  | .planRevoke => 0x14
  | .calibrate => 0x18
  | .chainCheck => 0x19
  | .serialBase => 0x1A
  | .closeShift => 0x1B
  | .markerStart => 0x1C
  | .stationReset => 0x1F
  | .loadUnit => 0x20
  | .releaseNest => 0x21
  | .lineEvent => 0x22
  | .startNest => 0x30
  | .abortNest => 0x31
  | .reprint => 0x32
  | .readNest => 0x40
  | .readPoints => 0x41
  | .readAccounts => 0x42
  | .readShift => 0x43
  | .readMarker => 0x44
  | .readUnitTable => 0x45
  | .readEvents => 0x48
  | .setMask => 0x49
  | .identify => 0x4A
  | .abandon => 0x7F

/-- Every request that has a code (R180). -/
def allRequests : List Request :=
  [.planOpen, .planData, .planClose, .planActivate, .planRevoke, .calibrate, .chainCheck, .serialBase, .closeShift,
   .markerStart, .stationReset, .loadUnit, .releaseNest, .lineEvent, .startNest, .abortNest, .reprint, .readNest,
   .readPoints, .readAccounts, .readShift, .readMarker, .readUnitTable, .readEvents, .setMask, .identify, .abandon]

/-- The request a code names, if any (R170, R180). -/
def requestOf (code : Byte) : Option Request := allRequests.find? fun r => requestCode r = code

/-- Whether a request belongs to port `p` (R173). -/
def onPort (p : PortId) : Request → Bool
  | .planOpen | .planData | .planClose | .planActivate | .planRevoke | .calibrate | .chainCheck | .serialBase
  | .closeShift | .markerStart | .stationReset => p = .station
  | .loadUnit | .releaseNest | .lineEvent => p = .line
  | .startNest | .abortNest | .reprint | .readNest | .readPoints | .readAccounts | .readShift | .readMarker
  | .readUnitTable | .readEvents | .setMask | .identify | .abandon => true

/-- The code of a status (R180). -/
def statusCode : Status → Nat
  | .ok => 0
  | .unknownRequest => 1
  | .notOnThisPort => 2
  | .badParam => 3
  | .state => 4
  | .noPlan => 5
  | .planPending => 6
  | .unverified => 7
  | .notCalibrated => 8
  | .fixture => 9
  | .serialUnset => 10
  | .unknownSerial => 11
  | .inUse => 12
  | .boundToLine => 13
  | .noHistory => 14
  | .queueFull => 15
  | .abandoned => 16
  | .clamped => 17

/-- A success status leaves the slot DONE, every other REFUSED (R170). -/
def Status.succeeds : Status → Bool
  | .ok | .clamped | .abandoned => true
  | .unknownRequest | .notOnThisPort | .badParam | .state | .noPlan | .planPending | .unverified | .notCalibrated
  | .fixture | .serialUnset | .unknownSerial | .inUse | .boundToLine | .noHistory | .queueFull => false

/-- The code of a nest state (R180). -/
def nestStateCode : NestState → Nat
  | .empty => 0
  | .loaded => 1
  | .waiting => 2
  | .measuring => 3
  | .analysing => 4
  | .labelWait => 5
  | .done => 6

/-- The code of a loader state (R180). -/
def loaderStateCode : LoaderState → Nat
  | .idle => 0
  | .receiving => 1
  | .checking => 2
  | .staged => 3
  | .pending => 4

/-- The code of a slot state (R180). -/
def slotCode : SlotState → Nat
  | .idle => 0
  | .running => 1
  | .done => 2
  | .refused => 3

/-- The nest a selector names: 1 for A, 2 for B (R180). -/
def nestOf (v : Nat) : Option NestId :=
  if v = 1 then some .a else if v = 2 then some .b else none

/-- The line function code of an input function (R182). -/
def inputCode : InputFunction → Nat
  | .present .a => 0x01
  | .present .b => 0x02
  | .clamp .a => 0x03
  | .clamp .b => 0x04
  | .start .a => 0x05
  | .start .b => 0x06
  | .doorClosed => 0x07
  | .stop => 0x08

/-- The line function code of an output function (R182). -/
def outputCode : OutputFunction → Nat
  | .busy .a => 0x11
  | .busy .b => 0x12
  | .pass .a => 0x13
  | .pass .b => 0x14
  | .fail .a => 0x15
  | .fail .b => 0x16
  | .unverified => 0x17
  | .yieldLow => 0x18

/-- The input functions (R41). -/
def allInputs : List InputFunction :=
  [.present .a, .present .b, .clamp .a, .clamp .b, .start .a, .start .b, .doorClosed, .stop]

/-- The output functions (R45). -/
def allOutputs : List OutputFunction :=
  [.busy .a, .busy .b, .pass .a, .pass .b, .fail .a, .fail .b, .unverified, .yieldLow]

/-- The input function a code names, if any (R182). -/
def inputOf (v : Nat) : Option InputFunction := allInputs.find? fun f => inputCode f = v

/-- The line function a code names, if any (R182). -/
def lineFunctionOf (v : Nat) : Option LineFunction :=
  if v = 0 then some .unused
  else match inputOf v with
    | some f => some (.input f)
    | none => (allOutputs.find? fun f => outputCode f = v).map .output

/-! ### Answering a request -/

/-- The reply header (R180): code, sequence, status, subcode, body length. -/
def replyHeader (code : Byte) (sequence : BitVec 8) (st : Status) (sub length : Nat) : List Byte :=
  [code, sequence] ++ byte (statusCode st) ++ byte sub ++ byte length

/-- The port writes the reply header and body and the slot leaves RUNNING (R170). Bytes of the reply area past the body
stand as they were (assumption log 12). -/
def Port.answered (st : Status) (sub : Nat) (body : List Byte) (slot : SlotState) (q : Port) : Port :=
  { q with
    reply := writeBytes q.reply 0 (replyHeader q.lastCode q.sequence st sub body.length ++ body)
    slot := slot
    running := none }

/-- The slot state a status leads to (R170). -/
def Status.slot (st : Status) : SlotState := if st.succeeds then .done else .refused

/-- Answer the request of port `p` (R170). -/
def State.answer (p : PortId) (st : Status) (sub : Nat) (body : List Byte) (s : State) : State :=
  s.modPort p (Port.answered st sub body st.slot)

/-- Answer a long request at its completion: REQUEST_DONE is latched on its port (R174). -/
def State.answerLate (p : PortId) (st : Status) (sub : Nat) (body : List Byte) (s : State) : State :=
  (s.answer p st sub body).latchOn p .requestDone

/-- Answer with OK and `body`. -/
def State.ok (p : PortId) (body : List Byte) (s : State) : State := s.answer p .ok 0 body

/-- Refuse with `st`, subcode `sub` and an empty body (R173). -/
def State.refuse (p : PortId) (st : Status) (sub : Nat) (s : State) : State := s.answer p st sub []

/-- Whether `r` is the request that a block has taken and not yet answered on port `p` (R170). -/
def State.runs (p : PortId) (r : Request) (s : State) : Bool :=
  match (s.port p).running with
  | some q => decide (q.request = r) && q.taken
  | none => false

end Sys2Proof.Machine
end

