-- ==== Sys2Proof/Machine/Accounts.lean ====
section
/-! DEFINITION. The Yield Accounts: counts, the outcome ring and the yield alarm, yields, and shift closes (R132 to
R143). -/

namespace Sys2Proof.Machine
open Sys2Proof

/-- Change the counts of R132 by `f`. -/
def State.count (f : Counts → Counts) (s : State) : State :=
  { s with accounts := { s.accounts with counts := f s.accounts.counts } }

/-! Each increment is in 32-bit arithmetic, so a count passes from its maximum to 0 (R132). -/

/-- `issued` (R133). -/
def Counts.addIssued (c : Counts) : Counts := { c with issued := c.issued + 1 }

/-- `released_untested` (R133). -/
def Counts.addReleased (c : Counts) : Counts := { c with releasedUntested := c.releasedUntested + 1 }

/-- `expired`, increased by `n` (R133). -/
def Counts.addExpired (n : Nat) (c : Counts) : Counts := { c with expired := c.expired + BitVec.ofNat 32 n }

/-- `aborted` (R135). -/
def Counts.addAborted (c : Counts) : Counts := { c with aborted := c.aborted + 1 }

/-- `guard_hits` (R72, R135). -/
def Counts.addGuardHit (c : Counts) : Counts := { c with guardHits := c.guardHits + 1 }

/-- `noisy_points` (R72, R135). -/
def Counts.addNoisy (c : Counts) : Counts := { c with noisyPoints := c.noisyPoints + 1 }

/-- `overload_points` (R72, R135). -/
def Counts.addOverload (c : Counts) : Counts := { c with overloadPoints := c.overloadPoints + 1 }

/-- The per-bin count of `bin` (R134). -/
def Counts.addBin (bin : Nat) (c : Counts) : Counts :=
  { c with bins := c.bins.setIfInBounds bin ((c.bins.toList.getD bin 0) + 1) }

/-- A reference verdict (R134). -/
def Counts.addReference (pass : Bool) (c : Counts) : Counts :=
  { c with refTests := c.refTests + 1, refPass := if pass then c.refPass + 1 else c.refPass }

/-- The outcome classes of a production verdict (R109). -/
inductive OutcomeClass where
  | firstPass | retestPass | finalFail | retestPending
  deriving DecidableEq, Repr

/-- The counts of a production verdict (R134). -/
def Counts.addVerdict (o : OutcomeClass) (v : Verdict) (bin : Nat) (c : Counts) : Counts :=
  let c := c.addBin bin
  match o with
  | .firstPass => { c with firstPass := c.firstPass + 1 }
  | .retestPass => { c with retestPass := c.retestPass + 1 }
  | .finalFail => { c with finalFail := c.finalFail + 1, failVerdicts := c.failVerdicts + 1 }
  | .retestPending =>
    match v with
    | .retest => { c with retestVerdicts := c.retestVerdicts + 1 }
    | .pass | .fail => { c with failVerdicts := c.failVerdicts + 1 }

/-! ### Yields (R137) -/

/-- D, the units that have come to an end: an exact sum (R137; 00_scope.md, Rounding). -/
def Counts.ended (c : Counts) : Nat :=
  c.firstPass.toNat + c.retestPass.toNat + c.finalFail.toNat + c.expired.toNat

/-- D in the 4 bytes that a reply gives it (R184): itself where it fits, else a free value (assumption log 39). -/
def Counts.endedField (c : Counts) : BitVec 32 :=
  if c.ended < 2 ^ 32 then BitVec.ofNat 32 c.ended else Config.endedPastField c.ended

/-- 10,000 × n / D floored; absent when D is 0 (R137). -/
def yieldOf (n d : Nat) : Option Nat := if d = 0 then none else some (10000 * n / d)

/-- The first-pass yield (R137). -/
def Counts.firstYield (c : Counts) : Option Nat := yieldOf c.firstPass.toNat c.ended

/-- The final yield (R137). -/
def Counts.finalYield (c : Counts) : Option Nat := yieldOf (c.firstPass.toNat + c.retestPass.toNat) c.ended

/-! ### The outcome ring and the yield alarm (R138, R139) -/

/-- FIRST_PASS entries of the ring (R139, R144). -/
def State.ringFirstPass (s : State) : Nat := s.accounts.ring.countP fun e => e.kind = .firstPass

/-- The limit count of the yield alarm; absent while no plan is active (R139, R144). -/
def State.alarmLimit (s : State) : Option Nat := s.plan.map fun c => c.policy.alarm * 64 / 10000

/-- The yield alarm condition (R139). -/
def State.yieldAlarm (s : State) : Bool :=
  match s.alarmLimit with
  | some limit => decide (s.accounts.ring.length = 64) && decide (s.ringFirstPass < limit)
  | none => false

/-- The last `n` of a list: what stands after the oldest entries of a ring have been removed. -/
def keepLast {α : Type} (n : Nat) (l : List α) : List α := l.drop (l.length - n)

/-- A completion entry joins the ring, the oldest leaving when it holds 64; the alarm is judged once, after both, and
YIELD_LOW is latched when the condition becomes true (R138, R139). -/
def State.addRing (e : RingEntry) (s : State) : State :=
  let t := { s with accounts := { s.accounts with ring := keepLast 64 (s.accounts.ring ++ [e]), ringSeq := s.accounts.ringSeq + 1 } }
  if !s.yieldAlarm && t.yieldAlarm then t.latchBoth .yieldLow else t

/-- A serial expires by eviction or by an untested release that is not returned (R133, R138). -/
def State.expire (serial : Nat) (s : State) : State :=
  (s.count (Counts.addExpired 1)).addRing ⟨serial, .expired⟩

/-! ### Shifts (R140 to R143) -/

/-- Each count less its baseline, modulo 2 to the power 32 (R140). -/
def Counts.minus (c b : Counts) : Counts where
  issued := c.issued - b.issued
  firstPass := c.firstPass - b.firstPass
  retestPass := c.retestPass - b.retestPass
  finalFail := c.finalFail - b.finalFail
  expired := c.expired - b.expired
  releasedUntested := c.releasedUntested - b.releasedUntested
  aborted := c.aborted - b.aborted
  failVerdicts := c.failVerdicts - b.failVerdicts
  retestVerdicts := c.retestVerdicts - b.retestVerdicts
  guardHits := c.guardHits - b.guardHits
  noisyPoints := c.noisyPoints - b.noisyPoints
  overloadPoints := c.overloadPoints - b.overloadPoints
  bins := Vector.zipWith (· - ·) c.bins b.bins
  refTests := c.refTests - b.refTests
  refPass := c.refPass - b.refPass

/-- The shift number after `n`: 65,535 is followed by 1 (R140). -/
def nextShift (n : Nat) : Nat := if n = 65535 then 1 else n + 1

/-- The record a close makes (R143). -/
def State.shiftRecord (reason : CloseReason) (s : State) : ShiftRecord :=
  let deltas := s.accounts.counts.minus s.accounts.baseline
  { number := s.accounts.shift, reason, planId := s.plan.map (·.id), deltas,
    firstYield := deltas.firstYield, finalYield := deltas.finalYield }

/-- A shift close (R143). -/
def State.closeShift (reason : CloseReason) (s : State) : State :=
  { s with accounts := { s.accounts with
      shifts := keepLast 8 (s.accounts.shifts ++ [s.shiftRecord reason])
      baseline := s.accounts.counts
      shift := nextShift s.accounts.shift } }

/-- Whether a nest holds an unsettled production unit (R136). -/
def Nest.unsettled (n : Nest) : Bool :=
  n.kind = some .production && (n.state = .loaded || n.state.inTest)

/-- Production units unsettled in nests (R136, R144). -/
def State.unsettledUnits (s : State) : Nat := s.nestA.unsettled.toNat + s.nestB.unsettled.toNat

end Sys2Proof.Machine
end

