-- ==== Sys2Proof/Machine/Units.lean ====
section
/-! DEFINITION. The Unit Table: the serial counter, the retest list, held entries, untested releases, and verification
(R115 to R131). -/

namespace Sys2Proof.Machine
open Sys2Proof

/-- Change the Unit Table by `f`. -/
def State.modUnits (f : UnitTable → UnitTable) (s : State) : State := { s with units := f s.units }

/-- The held entry of nest `n` (R119). -/
def UnitTable.held (n : NestId) (u : UnitTable) : Option RetestEntry :=
  match n with
  | .a => u.heldA
  | .b => u.heldB

/-- Set the held entry of nest `n` (R119). -/
def UnitTable.setHeld (n : NestId) (e : Option RetestEntry) (u : UnitTable) : UnitTable :=
  match n with
  | .a => { u with heldA := e }
  | .b => { u with heldB := e }

/-- The reference qualification of nest `n`: QUALIFIED or not (R128). -/
def UnitTable.qualified (n : NestId) (u : UnitTable) : Bool :=
  match n with
  | .a => u.qualifiedA
  | .b => u.qualifiedB

/-- Nest `n` becomes QUALIFIED (R128). -/
def UnitTable.qualify (n : NestId) (u : UnitTable) : UnitTable :=
  match n with
  | .a => { u with qualifiedA := true }
  | .b => { u with qualifiedB := true }

/-! ### The serial counter (R116) -/

/-- The serials held by the nests, in held entries and in the retest list (R116). -/
def State.serialsInUse (s : State) : List Nat :=
  s.nestA.serial.toList ++ s.nestB.serial.toList ++
  (s.units.heldA.map (·.serial)).toList ++ (s.units.heldB.map (·.serial)).toList ++
  s.units.retest.map (·.serial)

/-- The value after `v`: 16,777,215 is followed by 0 (R116). -/
def nextSerial (v : Nat) : Nat := if v = 16777215 then 0 else v + 1

/-- The first candidate from `v` on that is held nowhere; 0 when the counter runs out first (R116). -/
def passOver (inUse : List Nat) : Nat → Nat → Nat
  | 0, v => v
  | k + 1, v => if v ≠ 0 ∧ v ∈ inUse then passOver inUse k (nextSerial v) else v

/-- The serial a NEW load would be issued; 0 when none is issued (R116). Each value passed over is a different one of
the serials in use, so as many steps as there are serials in use suffice. -/
def State.candidate (s : State) : Nat :=
  passOver s.serialsInUse (s.serialsInUse.length + 1) s.units.serialCounter

/-! ### The retest list (R120 to R124) -/

/-- The list sequence advances by one (R121). -/
def UnitTable.bump (u : UnitTable) : UnitTable := { u with listSequence := u.listSequence + 1 }

/-- The oldest entry is evicted when the list holds 32, and expires (R122). -/
def State.evictIfFull (s : State) : State :=
  if s.units.retest.length < 32 then s
  else
    match s.units.retest with
    | [] => s
    | e :: rest => (s.modUnits fun u => UnitTable.bump { u with retest := rest }).expire e.serial

/-- An entry joins at the young end, after an eviction when the list is full (R121, R122). -/
def State.insertRetest (e : RetestEntry) (s : State) : State :=
  s.evictIfFull.modUnits fun u => UnitTable.bump { u with retest := u.retest ++ [e] }

/-- The entry of `serial` is taken out of the list (R119, R121). -/
def UnitTable.takeEntry (serial : Nat) (u : UnitTable) : UnitTable :=
  UnitTable.bump { u with retest := u.retest.filter fun e => e.serial ≠ serial }

/-- Whether `e` may return to the list: its attempts made are below the active plan's maximum (R21, R123). No held
entry can exist before a plan is active; the entry is kept then (assumption log 25). -/
def State.mayReturn (e : RetestEntry) (s : State) : Bool :=
  match s.plan with
  | some c => decide (e.attempts < c.policy.maxAttempts)
  | none => true

/-- What the Unit Table does with the unit of nest `n` at an untested release (R31, R123). The nest record itself is
emptied by the caller. -/
def State.giveBack (n : NestId) (s : State) : State :=
  let nest := s.nest n
  if nest.kind ≠ some .production then s
  else if nest.attempt = some 1 then s.count Counts.addReleased
  else
    match s.units.held n with
    | none => s
    | some e =>
      let s := s.modUnits (UnitTable.setHeld n none)
      if s.mayReturn e then s.insertRetest e else s.expire e.serial

/-- An untested release of nest `n`: the unit goes back to the table and the nest enters EMPTY (R31, R34). -/
def State.releaseUntested (n : NestId) (s : State) : State :=
  (s.giveBack n).modNest n Nest.emptied

/-- Activation empties the list: every entry expires, with no ring entry, and the sequence advances once (R124, R133,
R138). -/
def State.emptyRetest (s : State) : State :=
  (s.count (Counts.addExpired s.units.retest.length)).modUnits fun u => UnitTable.bump { u with retest := [] }

/-! ### Verification (R126 to R130) -/

/-- An accepted production START spends one unit while the window length is above 0 (R28, R127). -/
def State.spendVerification (s : State) : State :=
  if s.windowLength = 0 then s
  else
    let s := s.modUnits fun u => { u with remaining := u.remaining - 1 }
    if s.verified then s else s.markUnverified

/-- A reference unit's verdict in nest `n` (R128). -/
def State.referenceVerdict (n : NestId) (v : Verdict) (s : State) : State :=
  match v with
  | .pass =>
    if s.units.qualified n then s.modUnits fun u => { u with remaining := s.windowLength, lastReference := some .granted }
    else s.modUnits fun u => { u with lastReference := some .notQualified }
  | .fail | .retest => (s.modUnits fun u => { u with lastReference := some .failed }).latchBoth .referenceFailed

/-- The consecutive-fail count takes a production verdict; at the limit verification is withdrawn, SUSPECT_FIXTURE is
latched and the count returns to 0 (R130). -/
def State.countFails (v : Verdict) (s : State) : State :=
  let limit := match s.plan with
    | some c => c.policy.failLimit
    | none => 0
  match v with
  | .pass => s.modUnits fun u => { u with failCount := 0 }
  | .retest => s
  | .fail =>
    if limit = 0 then s.modUnits fun u => { u with failCount := 0 }
    else if s.units.failCount + 1 < limit then s.modUnits fun u => { u with failCount := u.failCount + 1 }
    else (s.withdraw.latchBoth .suspectFixture).modUnits fun u => { u with failCount := 0 }

end Sys2Proof.Machine
end

