-- ==== Sys2Proof/Machine/Marker.lean ====
section
/-! DEFINITION. The Marker Controller: the device table, negotiation, the label queue, the head job and the work of the
bus (R146 to R165). -/

namespace Sys2Proof.Machine
open Sys2Proof

/-- Change the Marker Controller by `f`. -/
def State.modMarker (f : Marker → Marker) (s : State) : State := { s with marker := f s.marker }

/-- Change the device at table index `d` by `f`. -/
def Marker.modDevice (d : Nat) (f : Device → Device) (m : Marker) : Marker := { m with devices := m.devices.modify d f }

/-- Change the head progress by `f`. -/
def Marker.modHead (f : Head → Head) (m : Marker) : Marker := { m with head := f m.head }

/-! ### Label formats and pages (R153, R157, R183) -/

/-- A margin as a page sends it: 8000h when absent, −32,768 sent as −32,767 (R183). -/
def marginSent : Option Int → List Byte
  | some v => leSigned (max v (-32767))
  | none => le 2 0x8000

/-- The eight payload bytes of a page (R183). -/
def pagePayload (j : Job) (page : Nat) : List Byte :=
  if page = 0 then
    le 3 j.serial ++ byte (j.fails.toNat + 2 * j.reprint.toNat) ++ byte j.bin ++ le 3 0
  else if page = 1 then
    byte j.attempt ++ byte (match j.nest with | .a => 1 | .b => 2) ++ le 2 j.shift ++ le 2 j.planId.toNat ++
    le 2 (j.ticket.getD 0).toNat
  else (j.margins.map marginSent).flatten

/-- The control byte of a page (R183): page index, more-follows mark, toggle. -/
def controlByte (page format : Nat) (toggle : Bool) : Byte :=
  BitVec.ofNat 8 (page + 4 * (decide (page + 1 < format)).toNat + 8 * toggle.toNat)

/-! ### The work of the bus (R152) -/

/-- The table index of the first device that has a pending probe (R152). -/
def Marker.pendingProbe (m : Marker) : Option Nat :=
  m.devices.findIdx? fun d => d.state = .negotiating && !d.retryWait

/-- The page transaction that is ready: the head job bound to a READY device with its BUSY wait stopped (R152, R157). A
device that is READY has its resolved format, which is also its number of pages (R150, R153). -/
def Marker.readyPage (m : Marker) : Option Transaction :=
  match m.queue, m.head.bound with
  | job :: _, some i =>
    match m.devices[i]? with
    | some d =>
      if d.state = .ready ∧ m.head.busyWait = false then
        some ⟨i, .page (controlByte m.head.page (d.resolved.getD 0) d.toggle) (pagePayload job m.head.page), .live⟩
      else none
    | none => none
  | _, _ => none

/-- On an IDLE bus the first ready work begins: a pending probe, else the head job's next page (R152). -/
def State.startBus (s : State) : State :=
  match s.marker.bus with
  | some _ => s
  | none =>
    match s.marker.pendingProbe with
    | some i => s.modMarker fun m => { m with bus := some ⟨i, .probe, .live⟩ }
    | none => s.modMarker fun m => { m with bus := m.readyPage }

/-- The outcome of the transaction under way with device `d`, if there is one, will be discarded (R148, R151). -/
def Marker.discardWith (d : Nat) (m : Marker) : Marker :=
  { m with bus := m.bus.map fun t => if t.device = d then { t with fate := .discarded } else t }

/-! ### Negotiation (R148 to R151) -/

/-- A device at its negotiation start (R148). -/
def Device.negotiate (d : Device) : Device :=
  { d with state := .negotiating, cause := none, abilities := none, resolved := none, naks := 0, retryWait := false }

/-- The head job waits from page 0 when the device it is bound to is renegotiated (R148, R160). -/
def Marker.restartHeadOn (d : Nat) (m : Marker) : Marker :=
  if m.head.bound = some d then m.modHead fun h => { h with page := 0, busyWait := false } else m

/-- A negotiation of device `d` starts (R148). -/
def Marker.negotiate (d : Nat) (m : Marker) : Marker :=
  ((m.discardWith d).modDevice d Device.negotiate).restartHeadOn d

/-- A negotiation of every device of the table starts (R148, R151). -/
def Marker.negotiateAll (m : Marker) : Marker := (List.range m.devices.length).foldl (fun m d => m.negotiate d) m

/-- The pages of a format (R150). -/
def formatPages (f : Nat) : Nat := f

/-- The resolved format: the first of the preference list that the device supports within its page limit (R150). -/
def resolveFormat (prefs : List Nat) (formats maxPages : Byte) : Option Nat :=
  prefs.find? fun f => formats.getLsbD (f - 1) && decide (formatPages f ≤ maxPages.toNat)

/-- The active plan's format preference list (R7). -/
def State.preferences (s : State) : List Nat :=
  match s.plan with
  | some c => (c.marker.map (·.preferences)).getD []
  | none => []

/-- The active plan's label timeout (R7), when the plan has a MARKER section. -/
def State.labelTimeout (s : State) : Option Nat :=
  match s.plan with
  | some c => c.marker.map (·.timeout)
  | none => none

/-! ### The label queue and its head (R155, R156, R162, R163) -/

/-- A job enters the label queue with the next ticket (R155). -/
def Marker.append (j : Job) (m : Marker) : Marker :=
  { m with ticket := m.ticket + 1, queue := m.queue ++ [{ j with ticket := some (m.ticket + 1) }], enqueued := m.enqueued + 1 }

/-- The oldest waiting nest's job enters the queue: its nest takes the ticket and enters DONE (R30, R155). -/
def State.admitWaiting (s : State) : State :=
  match s.marker.waitList with
  | [] => s
  | w :: rest =>
    let s := s.modMarker fun m => Marker.append w.job { m with waitList := rest }
    s.modNest w.nest fun n => { n with state := .done, ticket := some s.marker.ticket }

/-- The head job leaves the queue and the head progress is cleared; the place goes to the oldest waiting nest (R155, R162,
R163). -/
def State.dropHead (s : State) : State :=
  (s.modMarker fun m => { m with queue := m.queue.tail, head := Head.clear }).admitWaiting

/-- The head job fails with `cause` (R163), up to the making of the next head. -/
def State.failHead (cause : JobFault) (s : State) : State :=
  match s.marker.queue with
  | [] => s
  | j :: _ =>
    ((s.modMarker fun m =>
        { m with failed := m.failed + 1, lastFailed := some ⟨j, cause, m.head.bound, m.head.page⟩ }).latchBoth
      .labelFailed).dropHead

/-- The first READY device of a role, in table order (R156). -/
def Marker.readyDevice (r : Role) (m : Marker) : Option Nat :=
  m.devices.findIdx? fun d => d.role = r && d.state = .ready

/-- Whether a device of a role stands in the table (R156). -/
def Marker.hasRole (r : Role) (m : Marker) : Bool := m.devices.any fun d => d.role = r

/-- The job in front becomes head: its label timer starts, and it binds to a READY device of its role, waits, or fails with
NO_DEVICE, when the next job becomes head at the same event (R156). The first argument bounds the jobs visited. -/
def State.makeHead : Nat → State → State
  | 0, s => s
  | k + 1, s =>
    match s.marker.queue with
    | [] => s
    | j :: _ =>
      let s := s.modMarker (Marker.modHead fun _ => { bound := none, page := 0, busyWait := false, timer := s.labelTimeout })
      if s.marker.hasRole j.role then
        s.modMarker (Marker.modHead fun h => { h with bound := s.marker.readyDevice j.role })
      else State.makeHead k (s.failHead .noDevice)

/-- Jobs that may become head at one event: those in the queue and those that enter from the wait list. -/
def State.headFuel (s : State) : Nat := s.marker.queue.length + s.marker.waitList.length + 1

/-- The next job, if any, becomes head (R156, R162, R163). -/
def State.nextHead (s : State) : State := s.makeHead s.headFuel

/-- The head job becomes unbound, keeping its label timer, and is matched again (R156, R160). -/
def State.rematchHead (s : State) : State :=
  match s.marker.queue with
  | [] => s
  | j :: _ =>
    let s := s.modMarker (Marker.modHead fun h => { h with bound := none, page := 0, busyWait := false })
    if s.marker.hasRole j.role then
      s.modMarker (Marker.modHead fun h => { h with bound := s.marker.readyDevice j.role })
    else (s.failHead .noDevice).nextHead

/-- A job enters a label queue with a free place; in an empty queue it becomes head (R155, R156). -/
def State.enqueue (j : Job) (s : State) : State :=
  let wasEmpty := s.marker.queue.isEmpty
  let s := s.modMarker (Marker.append j)
  (if wasEmpty then s.nextHead else s).startBus

/-- The head job completes on device `d` (R162). -/
def State.completeHead (d : Nat) (s : State) : State :=
  match s.marker.queue with
  | [] => s
  | j :: _ =>
    ((s.modMarker fun m => { m with done := m.done + 1 }.modDevice d fun x => { x with history := some j }).dropHead).nextHead

/-! ### Devices entering FAULT, READY or DOWN (R149 to R151, R156, R160) -/

/-- Device `d` enters FAULT with `cause`; a head job bound to it is matched again (R149, R150, R160). -/
def State.faultDevice (d : Nat) (cause : DeviceFault) (s : State) : State :=
  let s := (s.modMarker (Marker.modDevice d fun x => { x with state := .fault, cause := some cause })).latchBoth .markerFault
  if s.marker.head.bound = some d then s.rematchHead else s

/-- Device `d` enters READY with format `f` and toggle 0; an unbound head job of its role binds (R150, R156). -/
def State.readyDevice (d f : Nat) (s : State) : State :=
  let s := s.modMarker (Marker.modDevice d fun x => { x with state := .ready, resolved := some f, toggle := false })
  match s.marker.queue, s.marker.head.bound with
  | j :: _, none => s.modMarker (Marker.modHead fun h => { h with bound := s.marker.readyDevice j.role })
  | _, _ => s

/-- The probe of device `d` ends with a NAK (R149). -/
def State.probeNak (d : Nat) (s : State) : State :=
  let s := s.modMarker (Marker.modDevice d fun x => { x with naks := x.naks + 1 })
  if ((s.marker.devices[d]?).map (·.naks)).getD 0 < 3 then
    s.modMarker (Marker.modDevice d fun x => { x with retryWait := true })
  else s.faultDevice d .absent

/-- The probe of device `d` ends with its ability page (R150). -/
def State.probePage (d : Nat) (a : Abilities) (s : State) : State :=
  let s := s.modMarker (Marker.modDevice d fun x => { x with abilities := some a })
  if a.version ≠ 1 then s.faultDevice d .badVersion
  else
    match resolveFormat s.preferences a.formats a.maxPages with
    | none => s.faultDevice d .noCommonFormat
    | some f => s.readyDevice d f

/-! ### The table at activation and at STATION RESET (R20, R146, R147, R160) -/

/-- A device of the table that has no past (R147). -/
def newDevice (p : DevicePlan) : Device where
  address := p.address
  role := p.role
  state := .down
  cause := none
  abilities := none
  resolved := none
  toggle := false
  naks := 0
  retryWait := false
  history := none

/-- The active plan's device table (R2, R7). -/
def State.planDevices (s : State) : List DevicePlan :=
  match s.plan with
  | some c => (c.marker.map (·.devices)).getD []
  | none => []

/-- An entry of the new table: a device of the old table with its address and role is kept, with its history (R147). -/
def keptDevice (old : List Device) (p : DevicePlan) : Device :=
  (old.find? fun d => d.address = p.address && d.role = p.role).getD (newDevice p)

/-- Activation builds the table from the new plan; every device enters NEGOTIATING, and the outcome of a transaction under
way is discarded (R147, R148, R160). -/
def State.rebuildDevices (s : State) : State :=
  s.modMarker fun m =>
    { m with
      devices := s.planDevices.map fun p => (keptDevice m.devices p).negotiate
      bus := m.bus.map fun t => { t with fate := .discarded } }

/-- The Marker Controller's part of an activation: the new table, the head job unbound with its timer restarted and matched
again, and the bus (R20, R160). -/
def State.remapMarker (s : State) : State := s.rebuildDevices.nextHead.startBus

/-! ### MARKER START (R151) -/

/-- Whether a device of the table is NEGOTIATING (R151). -/
def Marker.negotiating (m : Marker) : Bool := m.devices.any fun d => d.state = .negotiating

/-- The code of a role in a device's state byte (R184). -/
def roleBit : Role → Nat
  | .label => 0
  | .reject => 1

/-- The code of a device state (R184). -/
def deviceStateCode : DeviceState → Nat
  | .down => 0
  | .negotiating => 1
  | .ready => 2
  | .fault => 3

/-- The code of a fault cause (R184). -/
def deviceFaultCode : Option DeviceFault → Nat
  | none => 0
  | some .absent => 1
  | some .badVersion => 2
  | some .noCommonFormat => 3

/-- Role, state and fault cause in bits 0 to 4 (R184, R185). -/
def Device.stateBits (d : Device) : Nat := roleBit d.role + 2 * deviceStateCode d.state + 8 * deviceFaultCode d.cause

/-- The body of the MARKER START reply (R185). -/
def markerStartBody (m : Marker) : List Byte :=
  byte m.devices.length ++
  (m.devices.map fun d => byte d.address ++ byte d.stateBits ++ byte (d.resolved.getD 0)).flatten

/-- A running MARKER START completes at the first event after which no device is NEGOTIATING (R151). -/
def State.settleMarkerStart (s : State) : State :=
  if s.runs .station .markerStart && !s.marker.negotiating then s.answerLate .station .ok 0 (markerStartBody s.marker) else s

end Sys2Proof.Machine
end

