-- ==== Sys2Proof/Machine/MarkerEvents.lean ====
section
/-! DEFINITION. The events of the Marker Bus: ends of probes and page transactions, ends of the waits, and the label timer
(R149, R150, R152, R157 to R163). -/

namespace Sys2Proof.Machine
open Sys2Proof

/-- The transaction under way ends and the bus becomes IDLE (R152). -/
def State.freeBus (s : State) : State := s.modMarker fun m => { m with bus := none }

/-! ### Probes (R149 to R151) -/

/-- What a probe of device `d` that is not discarded brings (R149, R150). -/
def State.probeOutcome (d : Nat) (r : ProbeResult) (s : State) : State :=
  match r with
  | .nak => s.probeNak d
  | .page v f m k => s.probePage d ⟨v, f, m, k⟩

/-- PROBE_END: the probe under way ends; the bus takes its next work, and a running MARKER START may complete (R149 to R152). -/
def execProbeEnd (r : ProbeResult) : State → Host.Outcome State Fault Refusal :=
  unlessHeld fun s =>
    match s.marker.bus with
    | some ⟨d, .probe, fate⟩ =>
      let s := s.freeBus
      let s := match fate with
        | .live => s.probeOutcome d r
        | .deviceOnly | .discarded => s
      s.startBus.settleMarkerStart
    | some ⟨_, .page _ _, _⟩ | none => s

/-- RETRY_WAIT_END: the probe of the device at table index `d` is pending again (R149, R152). -/
def execRetryWaitEnd (d : Fin 4) : State → Host.Outcome State Fault Refusal :=
  unlessHeld fun s =>
    match s.marker.devices[d.val]? with
    | some x =>
      if x.retryWait then (s.modMarker (Marker.modDevice d fun x => { x with retryWait := false })).startBus else s
    | none => s

/-! ### Pages (R157 to R163) -/

/-- What a reply to a page means (R157, R183). -/
inductive PageOutcome where
  | accepted | busy | reject | linkLoss
  deriving DecidableEq, Repr

/-- The outcome of a page transaction whose device has the given expected toggle (R157, R183). -/
def pageOutcome (toggle : Bool) : PageResult → PageOutcome
  | .nak => .linkLoss
  | .reply b =>
    let code := b.toNat % 16
    if code = 1 then (if b.getLsbD 7 = toggle then .accepted else .linkLoss)
    else if code = 2 then .busy
    else if code = 3 then .reject
    else .linkLoss

/-- A link loss with device `d` (R159, R163; assumption log 15). -/
def State.linkLoss (d : Nat) (s : State) : State :=
  match s.marker.queue with
  | [] => s
  | j :: rest =>
    if j.restarts < 3 then
      s.modMarker fun m => { m with queue := { j with restarts := j.restarts + 1 } :: rest }.negotiate d
    else ((s.failHead .restartLimit).nextHead).modMarker (Marker.negotiate d)

/-- A page accepted by device `d`: its expected toggle flips, and the page index advances or the job completes (R157, R162). -/
def State.pageAccepted (d : Nat) (s : State) : State :=
  let s := s.modMarker (Marker.modDevice d fun x => { x with toggle := !x.toggle })
  if s.marker.head.page + 1 < ((s.marker.devices[d]?).bind (·.resolved)).getD 0 then
    s.modMarker (Marker.modHead fun h => { h with page := h.page + 1 })
  else s.completeHead d

/-- The expected toggle of device `d`. -/
def Marker.toggle (d : Nat) (m : Marker) : Bool := ((m.devices[d]?).map (·.toggle)).getD false

/-- What the end of a live page transaction with device `d` brings (R157 to R159). -/
def State.pageLive (d : Nat) (r : PageResult) (s : State) : State :=
  match pageOutcome (s.marker.toggle d) r with
  | .accepted => s.pageAccepted d
  | .busy => s.modMarker (Marker.modHead fun h => { h with busyWait := true })
  | .reject => (s.failHead .deviceReject).nextHead
  | .linkLoss => s.linkLoss d

/-- What the end of a page transaction brings to device `d` alone, its job having failed at the label timer (R161). -/
def State.pageDevice (d : Nat) (r : PageResult) (s : State) : State :=
  match pageOutcome (s.marker.toggle d) r with
  | .accepted => s.modMarker (Marker.modDevice d fun x => { x with toggle := !x.toggle })
  | .busy | .reject => s
  | .linkLoss => s.modMarker (Marker.negotiate d)

/-- PAGE_TRANSACTION_END: the page transaction under way ends, and the bus takes its next work (R152, R157 to R163). -/
def execPageTransactionEnd (r : PageResult) : State → Host.Outcome State Fault Refusal :=
  unlessHeld fun s =>
    match s.marker.bus with
    | some ⟨d, .page _ _, fate⟩ =>
      let s := s.freeBus
      (match fate with
        | .live => s.pageLive d r
        | .deviceOnly => s.pageDevice d r
        | .discarded => s).startBus
    | some ⟨_, .probe, _⟩ | none => s

/-- BUSY_WAIT_END: the same page is ready to send again (R152, R158). -/
def execBusyWaitEnd : State → Host.Outcome State Fault Refusal :=
  unlessHeld fun s =>
    if s.marker.head.busyWait then (s.modMarker (Marker.modHead fun h => { h with busyWait := false })).startBus else s

/-- A live page transaction acts on its device alone from now on (R161). -/
def Transaction.detachPage (t : Transaction) : Transaction :=
  match t.work, t.fate with
  | .page _ _, .live => { t with fate := .deviceOnly }
  | .page _ _, .deviceOnly | .page _ _, .discarded | .probe, _ => t

/-- LABEL_TIMER_EXPIRY: the head job fails with cause TIMEOUT (R161, R163). -/
def execLabelTimerExpiry : State → Host.Outcome State Fault Refusal :=
  unlessHeld fun s =>
    if s.marker.head.timer.isSome then
      (((s.modMarker fun m => { m with bus := m.bus.map Transaction.detachPage }).failHead .timeout).nextHead).startBus
    else s

end Sys2Proof.Machine
end

