-- ==== Sys2Proof/Machine/Arith.lean ====
section
/-! DEFINITION. Exact arithmetic and its named roundings (00_scope.md, Rounding): quotients, clamps, and logarithms of
rationals decided by comparing integers. -/

namespace Sys2Proof.Machine
open Sys2Proof

/-- The nearer end of `lo` to `hi` when `v` is outside it (clamp). -/
def clampTo (lo hi v : Int) : Int := if v < lo then lo else if hi < v then hi else v

/-- The clamp of measurement values, −15,000 to +15,000 cdB (R87). -/
def clampLevel (v : Int) : Int := clampTo (-15000) 15000 v

/-- Signed 16-bit saturation (R98). -/
def saturate16 (v : Int) : Int := clampTo (-32768) 32767 v

/-- `n / d` to the nearest integer, ties to greater magnitude (round half away from zero). -/
def roundHalfAway (n : Int) (d : Nat) : Int :=
  let q : Int := ((2 * n.natAbs + d) / (2 * d) : Nat)
  if n < 0 then -q else q

/-- `n / d` to the nearest integer, ties to the greater integer (round half up), for naturals. -/
def roundHalfUp (n d : Nat) : Nat := (2 * n + d) / (2 * d)

/-- The least integer not below `n / d` (ceil). -/
def ceilDiv (n d : Nat) : Nat := (n + (d - 1)) / d

/-- The greatest `lo + m`, with `m` below 2 to the power `k`, that passes a test which `lo` passes and which no value
passes above one that fails. -/
def greatest (test : Int → Bool) : Nat → Int → Int
  | 0, lo => lo
  | k + 1, lo => if test (lo + 2 ^ k) then greatest test k (lo + 2 ^ k) else greatest test k lo

/-- Whether 1,000 × log10(p / q) is at least n − 1/2: both sides as powers, P = p to the 2,000 and Q = q to the 2,000. -/
def logReaches (P Q : Nat) (n : Int) : Bool :=
  if 0 < 2 * n - 1 then Q * 10 ^ (2 * n - 1).toNat ≤ P else Q ≤ P * 10 ^ (1 - 2 * n).toNat

/-- 1,000 × log10(p / q) for positive p and q, rounded half away from zero and clamped to ±15,000 (R87). The value is
never halfway between two integers, since 10 to an odd multiple of 1/2,000 is irrational. -/
def log1000 (p q : Nat) : Int :=
  clampLevel (greatest (logReaches (p ^ 2000) (q ^ 2000)) 15 (-15000))

/-- round half up of full scale × 10^(level / 2,000) (R47): the greatest n with (2n − 1)^2,000 at most
(2 × full scale)^2,000 × 10^level. -/
def driveAmplitude (level : Int) : Nat :=
  (greatest
    (fun n => decide ((2 * n - 1).toNat ^ 2000 * 10 ^ (-level).toNat ≤ (2 * Config.fullScale) ^ 2000 * 10 ^ level.toNat))
    23 0).toNat

end Sys2Proof.Machine
end

