-- ==== Sys2Proof/Machine/Tone.lean ====
section
/-! DEFINITION. The Tone Generator: samples, ramps, wraps, and where a window, a fade-out and their ends fall (R48 to
R60). -/

namespace Sys2Proof.Machine
open Sys2Proof

/-- Change the generator by `f`. -/
def State.modGen (f : Generator → Generator) (s : State) : State := { s with gen := f s.gen }

/-- Change the Capture Unit by `f`. -/
def State.modCapture (f : Capture → Capture) (s : State) : State := { s with capture := f s.capture }

/-! ### The output sample (R48, R51) -/

/-- The ramp factor at ramp position `r` (R51): 0 to 479 and then 480 in a sweep, 479 down to 0 in the fade-out. -/
def rampFactor (mode : GenMode) (r : Nat) : Nat :=
  match mode with
  | .fadeOut => Config.rampSamples - 1 - r
  | .silent | .settle | .window | .holdoff | .runOut => min r Config.rampSamples

/-- The output sample formed from an accumulator value (R48). -/
def outputSample (amp phase g : Nat) : Int :=
  roundHalfAway (amp * sine (tableIndex phase) * g) (32767 * Config.rampSamples)

/-- The ramp position after `k` more samples (R51). -/
def rampAfter (mode : GenMode) (r k : Nat) : Nat :=
  match mode with
  | .fadeOut => r + k
  | .silent | .settle | .window | .holdoff | .runOut => min (r + k) Config.rampSamples

/-! ### One sample period, and many (R48) -/

/-- One sample period of a generator that is not SILENT: the output sample, the addition, the wrap, the counts and the
ramp (R48, R51). -/
def Generator.playOne (g : Generator) : Generator :=
  let carries := decide (2 ^ 32 ≤ g.acc.toNat + g.inc.toNat)
  { g with
    dac := outputSample g.amp g.acc.toNat (rampFactor g.mode g.ramp)
    acc := g.acc + g.inc
    postWrap := carries
    wraps := g.wraps + carries.toNat
    samples := g.samples + 1
    ramp := rampAfter g.mode g.ramp 1
    windowPlayed := if g.mode = .window then g.windowPlayed + 1 else g.windowPlayed }

/-- The phase reached after `k` additions, before it is taken modulo 2 to the power 32 (R48). -/
def Generator.total (g : Generator) (k : Nat) : Nat := g.acc.toNat + k * g.inc.toNat

/-- Whether the sample formed after `k` additions is a post-wrap sample (R48). -/
def Generator.postWrapAfter (g : Generator) (k : Nat) : Bool :=
  if k = 0 then g.postWrap else decide (g.total k % 2 ^ 32 < g.inc.toNat)

/-- `k` sample periods at once (R48): `k` times `playOne`, in closed form (assumption log 5). -/
def Generator.play (k : Nat) (g : Generator) : Generator :=
  if k = 0 then g
  else
    { g with
      dac := outputSample g.amp (g.total (k - 1) % 2 ^ 32) (rampFactor g.mode (rampAfter g.mode g.ramp (k - 1)))
      acc := BitVec.ofNat 32 (g.total k)
      postWrap := g.postWrapAfter k
      wraps := g.wraps + g.total k / 2 ^ 32
      samples := g.samples + k
      ramp := rampAfter g.mode g.ramp k
      windowPlayed := if g.mode = .window then g.windowPlayed + k else g.windowPlayed }

/-- The holdoff timer after `k` sample periods: it stops when its count reaches 0 (R68). -/
def holdoffAfter (k : Nat) : Option Nat → Option Nat
  | some c => if c ≤ k then none else some (c - k)
  | none => none

/-- `k` sample periods of the part: the generator and the holdoff timer (R48, R68). -/
def State.play (k : Nat) (s : State) : State :=
  (s.modGen (Generator.play k)).modCapture fun c => { c with holdoff := holdoffAfter k c.holdoff }

/-! ### Where the next wrap falls -/

/-- The least `k`, from `k0` on, at which the sample formed is a post-wrap sample. -/
def Generator.nextPostWrap (g : Generator) (k0 : Nat) : Nat :=
  if g.postWrapAfter k0 then k0
  else k0 + ceilDiv ((g.total k0 / 2 ^ 32 + 1) * 2 ^ 32 - g.total k0) g.inc.toNat

/-- Samples until the generator has made `w` wraps in its point. -/
def Generator.untilWraps (g : Generator) (w : Nat) : Nat :=
  if w ≤ g.wraps then 0 else ceilDiv ((w - g.wraps) * 2 ^ 32 - g.acc.toNat) g.inc.toNat

/-! ### Points (R50, R52 to R55) -/

/-- A point that stands for none: no list is ever read past its end (R54, R55). -/
def noPoint : PointEntry where
  index := 0
  freq := 0
  segment := 0
  inc := 0
  amp := 0
  settle := 0
  cEff := 1
  harmonics := 1
  guard := false

/-- The fixed points of a CHAIN CHECK (R39, R50, R92). Those rules give them no guard flag and no segment, though R61 has a half copy
the guard flag of its point; the model takes false and 0, which no check and no reply reads (DESIGN CHOICE, assumption log 44). -/
def checkPoint (index : Nat) : PointEntry where
  index := index
  freq := 100000
  segment := 0
  inc := 89478485
  amp := 838861
  settle := 8
  cEff := 8
  harmonics := 1
  guard := false

/-- The point list of the active plan (R9, R47). -/
def State.planPoints (s : State) : List PointEntry :=
  match s.loader.active with
  | some a => a.points
  | none => []

/-- The points the generator plays for a claimant (R50). -/
def State.pointsOf (c : Claimant) (s : State) : List PointEntry :=
  match c with
  | .nest _ => s.planPoints
  | .check => [checkPoint 0, checkPoint 1]

/-- The points of the sweep under way (R50). -/
def State.sweepPoints (s : State) : List PointEntry :=
  match s.gen.claimant with
  | some c => s.pointsOf c
  | none => []

/-- The point under way (R49). -/
def State.currentPoint (s : State) : PointEntry := s.sweepPoints.getD s.gen.cursor noPoint

/-- The generator begins the sweep of a claimant at point 0, whose first sample has phase 0 (R50). -/
def State.startSweep (c : Claimant) (s : State) : State :=
  let p := (s.pointsOf c).getD 0 noPoint
  s.modGen fun g =>
    { g with
      mode := .settle, acc := 0, inc := p.inc, amp := p.amp, ramp := 0, cursor := 0, samples := 0, wraps := 0,
      stopMark := false, claimant := some c, tag := s.tagOf c, postWrap := false, windowPlayed := 0 }

/-- The generator is stopped at once: it feeds 0 and serves no claimant, and its cursor stays (R33, R60). -/
def State.silence (s : State) : State :=
  (s.modGen fun g => { g with mode := .silent, dac := 0, stopMark := false, claimant := none }).modCapture
    fun c => { c with holdoff := none }

/-- After the last fade-out sample the generator is SILENT and serves no claimant (R57). -/
def State.fallSilent (s : State) : State := s.modGen fun g => { g with mode := .silent, dac := 0, claimant := none }

/-- Whether a window may begin at the sample about to be formed, if a half is free (R52, R56, R58). -/
def State.windowMayBegin (s : State) : Bool :=
  s.gen.postWrap &&
  match s.gen.mode with
  | .settle => !s.gen.stopMark && decide (s.currentPoint.settle ≤ s.gen.wraps) && decide (Config.rampSamples ≤ s.gen.samples)
  | .holdoff => !s.gen.stopMark && s.capture.holdoff.isNone
  | .silent | .window | .runOut | .fadeOut => false

/-- Samples until the next sample at which a window may begin, in SETTLE and after a holdoff (R52, R56). -/
def State.untilWindow (s : State) : Nat :=
  if s.gen.mode = .settle then
    s.gen.nextPostWrap (max (s.gen.untilWraps s.currentPoint.settle) (Config.rampSamples - s.gen.samples))
  else s.gen.nextPostWrap 0

/-- The length of a window that begins at phase `p0` (R54). -/
def windowSamples (cEff : Nat) (p0 inc : Phase) : Nat := ceilDiv (cEff * 4294967296 - p0.toNat) inc.toNat

/-- The offset of the active calibration record for an input (R61, R63). -/
def State.micOffset (n : NestId) (s : State) : Option Int :=
  s.capture.active.map fun c =>
    match n with
    | .a => c.micA
    | .b => c.micB

/-- The input a window records: the nest's own; A for the first point of a CHAIN CHECK, B for its second (R39, R63). -/
def inputOfClaimant (c : Claimant) (point : Nat) : NestId :=
  match c with
  | .nest n => n
  | .check => if point = 0 then .a else .b

/-- A window of claimant `c` begins at the sample about to be formed, in half `h` (R52, R54, R63). -/
def State.beginWindow (c : Claimant) (h : HalfId) (s : State) : State :=
  let p := s.currentPoint
  let input := inputOfClaimant c s.gen.cursor
  let half : Half :=
    { state := .filling, claimant := c, tag := s.gen.tag, input, point := s.gen.cursor, freq := p.freq, inc := p.inc,
      cEff := p.cEff, harmonics := p.harmonics, guard := p.guard, p0 := s.gen.acc,
      length := windowSamples p.cEff s.gen.acc p.inc, attempt := s.capture.attempt,
      micOffset := match c with | .nest n => s.micOffset n | .check => none
      samples := [], peak := 0, ambient := 0 }
  (s.modHalf h fun _ => half).modGen fun g => { g with mode := .window, windowPlayed := 0 }

/-- A window begins at the sample about to be formed when the conditions of R52 or R56 and a free half allow it. -/
def State.beginIfDue (s : State) : State :=
  match s.windowMayBegin, s.freeHalf, s.gen.claimant with
  | true, some h, some c => s.beginWindow c h
  | _, _, _ => s

/-- On a decision to step on, the next sample begins the next point, or the fade-out after the last (R55, R67). -/
def State.stepOn (s : State) : State :=
  let s := s.modCapture fun c => { c with attempt := 1 }
  if s.gen.cursor + 1 < s.sweepPoints.length then
    let p := s.sweepPoints.getD (s.gen.cursor + 1) noPoint
    s.modGen fun g =>
      { g with mode := .settle, cursor := g.cursor + 1, inc := p.inc, amp := p.amp, samples := 0, wraps := 0 }
  else s.modGen fun g => { g with mode := .fadeOut, ramp := 0 }

/-- The fade-out begins at the sample about to be formed (R51, R59). -/
def State.beginFadeOut (s : State) : State := s.modGen fun g => { g with mode := .fadeOut, ramp := 0 }

end Sys2Proof.Machine
end

