-- ==== Sys2Proof/Machine/Chain.lean ====
section
/-! DEFINITION. The measurement chain: grants, the freeing of windows, the Analysis Engine's beginnings, aborts (R25, R33,
R36, R37, R75, R78). -/

namespace Sys2Proof.Machine
open Sys2Proof

/-- Change the chain by `f`. -/
def State.modChain (f : Chain → Chain) (s : State) : State := { s with chain := f s.chain }

/-- A nest record at a grant: its tag advances, every result field is cleared, and it enters MEASURING with one empty slot
for each point (R24, R25, R37, R100). -/
def Nest.granted (points curves : Nat) (hasReference : Bool) (n : Nest) : Nest :=
  { n with
    state := .measuring
    tag := n.tag + 1
    slots := List.replicate points none
    judged := List.replicate curves []
    refState := if hasReference then .awaited else .none
    detected := []
    failList := []
    overflow := 0
    causeNoisy := false
    causeOverload := false
    verdict := none
    bin := none
    worst := List.replicate curves none
    ticket := none }

/-- The curve count and whether the plan has a reference point (R100). -/
def State.curveCount (s : State) : Nat :=
  match s.plan with
  | some c => c.limits.length
  | none => 0

/-- Whether the active plan's reference point index is present (R100). -/
def State.hasReference (s : State) : Bool :=
  match s.plan with
  | some c => c.sweep.reference.isSome
  | none => false

/-- A pending calibration record becomes the active record at a grant (R75). -/
def Capture.adoptPending (c : Capture) : Capture :=
  match c.pending with
  | some r => { c with active := some r, pending := none }
  | none => c

/-- What a grant does to the claimant itself (R25, R37, R39, R128). -/
def State.enterChain (c : Claimant) (s : State) : State :=
  match c with
  | .nest n =>
    let t := s.modNest n (Nest.granted s.planPoints.length s.curveCount s.hasReference)
    if (s.nest n).kind = some .reference then t.modUnits (UnitTable.qualify n) else t
  | .check => s.modChain fun x => { x with checkTag := x.checkTag + 1, checkA := none, checkB := none, checkFaded := false }

/-- A grant of the chain to `c` (R37, R39, R50, R67, R75). -/
def State.grant (c : Claimant) (s : State) : State :=
  let s := s.modCapture fun x => { x.adoptPending with attempt := 1 }
  let s := s.modChain fun x => { x with holder := some c }
  (s.enterChain c).startSweep c

/-- The head of the chain queue is granted when the chain is free (R36). -/
def State.grantHead (s : State) : State :=
  match s.chain.holder, s.chain.queue with
  | none, c :: rest => (s.modChain fun x => { x with queue := rest }).grant c
  | _, _ => s

/-- The chain is freed (R37). -/
def State.freeChain (s : State) : State := s.modChain fun x => { x with holder := none }

/-- A claimant joins the chain queue at its tail; it is granted at once when the chain is free and it is the head (R28,
R36, R38). -/
def State.joinQueue (c : Claimant) (s : State) : State :=
  (s.modChain fun x => { x with queue := x.queue ++ [c] }).grantHead

/-- A claimant's entry leaves the chain queue (R33, R38). -/
def State.leaveQueue (c : Claimant) (s : State) : State :=
  s.modChain fun x => { x with queue := x.queue.filter (· ≠ c) }

/-- Whether an abort or an ABANDON frees a half: FILLING or QUEUED, under the claimant's current tag (R71, R81). -/
def Half.freedBy (c : Claimant) (tag : BitVec 16) (h : Half) : Bool :=
  h.claimant = c && h.tag = tag && (h.state = .filling || h.state = .queued)

/-- The halves of a claimant that are not under analysis are freed (R33, R40, R71). -/
def State.freeWindows (c : Claimant) (s : State) : State :=
  let tag := s.tagOf c
  let s := if s.capture.half0.freedBy c tag then s.freeOne .zero else s
  if s.capture.half1.freedBy c tag then s.freeOne .one else s

/-- The idle engine begins the QUEUED half at the head of its queue (R78). -/
def State.beginAnalysis (s : State) : State :=
  match s.engine.under, s.engine.queue with
  | none, h :: _ =>
    if (s.half h).state = .queued then
      { s.modHalf h (fun x => { x with state := .inAnalysis }) with
        engine := { s.engine with
          under := some h, inPhase := List.replicate 12 0, quad := List.replicate 12 0, residual := 0 } }
    else s
  | _, _ => s

/-- A half joins the analysis input queue at its tail (R70). -/
def State.queueHalf (h : HalfId) (s : State) : State :=
  let s := s.modHalf h fun x => { x with state := .queued }
  { s with engine := { s.engine with queue := s.engine.queue ++ [h] } }

/-! ### Aborts (R32, R33) -/

/-- A nest record at an abort: LOADED, its result fields standing but for the verdict and the bin, which are absent, also where
an abort from WAITING finds them of an earlier test (R33, R113; DESIGN CHOICE against R24's third bullet, assumption log 35). -/
def Nest.aborted (n : Nest) : Nest := { n with state := .loaded, verdict := none, bin := none }

/-- The effects of an abort of nest `n` that depend on its state, and those common to the three states (R33). -/
def State.abortOne (n : NestId) (s : State) : State :=
  let s :=
    match (s.nest n).state with
    | .waiting => s.leaveQueue (.nest n)
    | .measuring => (s.silence.freeWindows (.nest n)).freeChain
    | .analysing => s.freeWindows (.nest n)
    | .empty | .loaded | .labelWait | .done => s
  (s.modNest n Nest.aborted).count Counts.addAborted

/-- Every nest of the list that is in test is aborted; then the head of the queue is granted when the chain is free (R32,
R33; assumption log 14). -/
def State.abortAll (ns : List NestId) (s : State) : State :=
  ((ns.filter fun n => (s.nest n).state.inTest).foldl (fun s n => s.abortOne n) s).grantHead

end Sys2Proof.Machine
end

