-- ==== Sys2Proof/Machine/Lines.lean ====
section
/-! DEFINITION. Event lines: levels, the fixture's permission, changes of the line map, and the output functions (R27,
R41 to R45). -/

namespace Sys2Proof.Machine
open Sys2Proof

/-- Change line `i` by `f`. -/
def State.modLine (i : Fin 8) (f : Line → Line) (s : State) : State :=
  { s with lines := { s.lines with line := s.lines.line.set i (f s.lines.line[i]) } }

/-- The line an input function is bound to, if any (R8). -/
def Lines.bound (f : InputFunction) (l : Lines) : Option Line :=
  l.line.toList.find? fun x => x.function = .input f

/-- The virtual level of a function (R43); START_A and START_B have none. -/
def Lines.virtual (f : InputFunction) (l : Lines) : Option Bool :=
  match f with
  | .present .a => some l.presentA
  | .present .b => some l.presentB
  | .clamp .a => some l.clampA
  | .clamp .b => some l.clampB
  | .doorClosed => some l.door
  | .stop => some l.stop
  | .start _ => none

/-- Set the virtual level of a function (R43). -/
def Lines.setVirtual (f : InputFunction) (v : Bool) (l : Lines) : Lines :=
  match f with
  | .present .a => { l with presentA := v }
  | .present .b => { l with presentB := v }
  | .clamp .a => { l with clampA := v }
  | .clamp .b => { l with clampB := v }
  | .doorClosed => { l with door := v }
  | .stop => { l with stop := v }
  | .start _ => l

/-- The default virtual level: STOP false, the others true (R43). -/
def defaultLevel : InputFunction → Bool
  | .stop => false
  | .present _ | .clamp _ | .start _ | .doorClosed => true

/-- The current level of a function: its line's debounced level when bound (absent: undetermined), else its virtual level
(R27, R41, R43). -/
def Lines.level (f : InputFunction) (l : Lines) : Option Bool :=
  match l.bound f with
  | some x => x.debounced
  | none => l.virtual f

/-- The first function that is not permissive for nest `n`, in the order of R27. -/
def Lines.notPermissive (n : NestId) (l : Lines) : Option InputFunction :=
  if l.level (.present n) ≠ some true then some (.present n)
  else if l.level (.clamp n) ≠ some true then some (.clamp n)
  else if l.level .doorClosed ≠ some true then some .doorClosed
  else if l.level .stop ≠ some false then some .stop
  else none

/-! ### Changes of the line map (R41, R42) -/

/-- A line under a new function: one that carries the same input function keeps its level and its timer; one newly bound
is undetermined with its timer started; any other stops its timer (R42). -/
def Line.remap (g : LineFunction) (x : Line) : Line :=
  if x.function = g then x
  else
    match g with
    | .input _ => { x with function := g, debounced := none, timer := true }
    | .unused | .output _ => { x with function := g, debounced := none, timer := false }

/-- The virtual levels after a change of map from `l` to `m`: a function that loses its line takes its default (R41). -/
def Lines.restoreLost (l m : Lines) : Lines :=
  allInputs.foldl (fun m f => if (l.bound f).isSome ∧ (m.bound f).isNone then m.setVirtual f (defaultLevel f) else m) m

/-- The line map becomes `fs`; a change of map gives no edge (R41, R42, R43). -/
def Lines.remap (fs : List LineFunction) (l : Lines) : Lines :=
  l.restoreLost { l with line := l.line.zipWith (fun x g => x.remap g) (Vector.ofFn fun i : Fin 8 => fs.getD i .unused) }

/-- The line map of the active plan: UNUSED throughout without a LINES section or without a plan (R2, R41). -/
def State.planLines (s : State) : List LineFunction :=
  match s.plan with
  | some c => c.lines.getD []
  | none => []

/-- The line map is taken from the active plan (R20, R41). -/
def State.remapLines (s : State) : State := { s with lines := s.lines.remap s.planLines }

/-- Every virtual level at its default (R43). -/
def Lines.defaults (l : Lines) : Lines :=
  { l with presentA := true, presentB := true, clampA := true, clampB := true, door := true, stop := false }

/-! ### Output functions (R45) -/

/-- The value of an output function (R45). -/
def State.outputValue (f : OutputFunction) (s : State) : Bool :=
  match f with
  | .busy n => (s.nest n).state.inTest
  | .pass n => ((s.nest n).state = .labelWait || (s.nest n).state = .done) && (s.nest n).verdict = some .pass
  | .fail n =>
    ((s.nest n).state = .labelWait || (s.nest n).state = .done) &&
    ((s.nest n).verdict = some .fail || (s.nest n).verdict = some .retest)
  | .unverified => s.plan.isSome && decide (0 < s.windowLength) && !s.verified
  | .yieldLow => s.yieldAlarm

/-- The level a line drives; absent when it is not driven (R41, R186). -/
def State.lineDrive (i : Fin 8) (s : State) : Option Bool :=
  if s.held then none
  else
    match s.lines.line[i].function with
    | .output f => some (s.outputValue f)
    | .unused | .input _ => none

/-- The nest the amplifier switch selects, if any (R37, R39, R186). -/
def State.amplifier (s : State) : Option NestId :=
  if s.held then none
  else
    match s.chain.holder with
    | some (.nest n) => some n
    | some .check | none => none

/-- The loopback routes the DAC to both measurement inputs while a CHAIN CHECK holds the chain (R39). -/
def State.loopback (s : State) : Bool := !s.held && s.chain.holder = some .check

end Sys2Proof.Machine
end

