-- ==== Sys2Proof/Machine/PlanImage.lean ====
section
/-! DEFINITION. The plan image: its CRC, its sections, the sweep expansion, and the six checks of PLAN CLOSE (R1 to R8,
R13 to R16, R46, R47, R182). -/

namespace Sys2Proof.Machine
open Sys2Proof

/-! ### CRC-32 (R1) -/

/-- One bit shifted out of the CRC register, the reflected constant applied when it is 1 (R1). -/
def crcShift (c : BitVec 32) : BitVec 32 :=
  if c.getLsbD 0 then (c >>> 1) ^^^ 0xEDB88320 else c >>> 1

/-- One byte fed in, least significant bit first (R1). -/
def crcByte (c : BitVec 32) (b : Byte) : BitVec 32 :=
  let c := c ^^^ b.setWidth 32
  crcShift (crcShift (crcShift (crcShift (crcShift (crcShift (crcShift (crcShift c)))))))

/-- The CRC of a list of bytes (R1). -/
def crc32 (l : List Byte) : BitVec 32 := ~~~(l.foldl crcByte 0xFFFFFFFF)

/-- The CRC of an image: every byte but bytes 12 to 15 (R1). -/
def imageCrc (image : List Byte) : BitVec 32 := crc32 (image.take 12 ++ image.drop 16)

/-! ### The section directory (R2, R14, R182) -/

/-- A directory entry (R182). -/
structure Section where
  type   : Nat
  offset : Nat
  length : Nat
  deriving DecidableEq, Repr

/-- Entry `i` of the directory, which follows the header at byte 16 (R182). -/
def sectionAt (image : List Byte) (i : Nat) : Section where
  type := u16At image (16 + 6 * i)
  offset := u16At image (16 + 6 * i + 2)
  length := u16At image (16 + 6 * i + 4)

/-- The bytes of a section. -/
def Section.bytes (image : List Byte) (e : Section) : List Byte := (image.drop e.offset).take e.length

/-- Two sections share a byte of the image. -/
def Section.overlaps (e f : Section) : Bool :=
  decide (e.offset < f.offset + f.length ∧ f.offset < e.offset + e.length)

/-- Whether an entry meets the conditions of check 5, given the entries before it (R14). -/
def Section.sound (size dirEnd : Nat) (earlier : List Section) (e : Section) : Bool :=
  decide (1 ≤ e.type ∧ e.type ≤ 7) && earlier.all (fun f => f.type ≠ e.type) && decide (1 ≤ e.length) &&
  decide (dirEnd ≤ e.offset ∧ e.offset + e.length ≤ size) && earlier.all (fun f => !e.overlaps f)

/-- The index of the first unsound entry (R14). -/
def firstUnsound (size dirEnd : Nat) : List Section → List Section → Option Nat
  | _, [] => none
  | earlier, e :: rest =>
    if e.sound size dirEnd earlier then firstUnsound size dirEnd (earlier ++ [e]) rest else some earlier.length

/-- The outcome of check 5 (R14): sound, or a section index and, where one is missing, the first missing type. -/
inductive StructureCheck where
  | sound (sections : List Section)
  | bad (index : Nat) (missing : Option Nat)
  deriving DecidableEq, Repr

/-- Check 5 (R14). The five required types are 1 to 5 in the order SWEEP, LIMITS, BINS, GUARD, POLICY (R182). -/
def checkStructure (image : List Byte) : StructureCheck :=
  let count := u16At image 2
  if count = 0 ∨ 7 < count then .bad 255 none
  else
    let sections := (List.range count).map (sectionAt image)
    match firstUnsound image.length (16 + 6 * count) [] sections with
    | some i => .bad i none
    | none =>
      match [1, 2, 3, 4, 5].find? (fun t => sections.all fun e => e.type ≠ t) with
      | some t => .bad 255 (some t)
      | none => .sound sections

/-! ### Section contents (R3 to R8, R15, R182) -/

/-- A flag byte must be 0 or 1 (R182). -/
def flagOf (v : Nat) : Option Bool := if v = 0 then some false else if v = 1 then some true else none

/-- `v` when it lies in the range `lo` to `hi`. -/
def inRange (lo hi v : Nat) : Option Nat := if lo ≤ v ∧ v ≤ hi then some v else none

/-- `v` when it lies in the range `lo` to `hi`. -/
def inRangeInt (lo hi v : Int) : Option Int := if lo ≤ v ∧ v ≤ hi then some v else none

/-- A segment's 16 bytes at `o` (R3, R182). -/
def segmentAt (b : List Byte) (o : Nat) : Option Segment := do
  let start ← inRange 2000 2000000 (u32At b o)
  let stop ← inRange start 2000000 (u32At b (o + 4))
  let perOctave ← if u8At b (o + 8) ∈ [3, 6, 12, 24, 48] then some (u8At b (o + 8)) else none
  let drive ← inRangeInt (-6000) 0 (s16At b (o + 9))
  let settle ← inRange 2 64 (u8At b (o + 11))
  let window ← inRange 4 256 (u16At b (o + 12))
  let harmonics ← inRange 2 12 (u8At b (o + 14))
  let guard ← flagOf (u8At b (o + 15))
  return { start, stop, perOctave, drive, settle, window, harmonics, guard }

/-- Each segment starts strictly above the stop of the one before it (R3). -/
def segmentsAscend : List Segment → Bool
  | a :: b :: rest => decide (a.stop < b.start) && segmentsAscend (b :: rest)
  | _ => true

/-- The SWEEP section's own fields (R3, R182). -/
def parseSweep (b : List Byte) : Option Sweep := do
  let count ← inRange 1 8 (u8At b 0)
  if b.length ≠ 5 + 16 * count then none
  let stopOnFail ← flagOf (u8At b 1)
  let reference ← if u8At b 2 = 0xFF then some none else (inRange 0 127 (u8At b 2)).map some
  let minResponse ← inRangeInt (-15000) 15000 (s16At b 3)
  let segments ← (List.range count).mapM fun i => segmentAt b (5 + 16 * i)
  if segmentsAscend segments then some { segments, stopOnFail, reference, minResponse } else none

/-- The step ratio of a number of points per octave (R46). -/
def stepRatio (perOctave : Nat) : Nat :=
  if perOctave = 3 then 82570 else if perOctave = 6 then 73562 else if perOctave = 12 then 69433
  else if perOctave = 24 then 67456 else 66489

/-- The step of a frequency (R46). -/
def stepOf (ratio f : Nat) : Nat := (f * ratio + 32768) / 65536

/-- The steps taken from `f` while they stay below the stop frequency, at most `k` of them (R46). -/
def stepsBelow (ratio stop : Nat) : Nat → Nat → List Nat
  | 0, _ => []
  | k + 1, f => if stepOf ratio f < stop then stepOf ratio f :: stepsBelow ratio stop k (stepOf ratio f) else []

/-- The frequencies of a segment (R46). A list cut off after 128 steps already holds more than 128 points. -/
def segmentFreqs (g : Segment) : List Nat :=
  g.start :: stepsBelow (stepRatio g.perOctave) g.stop 128 g.start ++ (if g.stop = g.start then [] else [g.stop])

/-- The effective window cycles (R47). -/
def effectiveCycles (window f : Nat) : Nat := max 1 (min window (4000 * f / Config.sampleRate))

/-- The phase increment (R47). -/
def phaseIncrement (f : Nat) : Phase := BitVec.ofNat 32 (roundHalfUp (f * 4294967296) Config.sampleRate)

/-- The point-list entry of frequency `f`, produced by segment `k` (R47). -/
def pointEntry (k : Nat) (g : Segment) (index f : Nat) : PointEntry where
  index := index
  freq := f
  segment := k
  inc := phaseIncrement f
  amp := driveAmplitude g.drive
  settle := g.settle
  cEff := effectiveCycles g.window f
  harmonics := g.harmonics
  guard := g.guard

/-- The point list, segment after segment, point indices counted on from `index` (R46). -/
def expandFrom : Nat → Nat → List Segment → List PointEntry
  | _, _, [] => []
  | k, index, g :: rest =>
    let fs := segmentFreqs g
    (fs.zipIdx index).map (fun x => pointEntry k g x.2 x.1) ++ expandFrom (k + 1) (index + fs.length) rest

/-- The expanded point list, when it holds at most 128 points (R3, R46, R47). -/
def expandSweep (w : Sweep) : Option (List PointEntry) :=
  if ((w.segments.map segmentFreqs).flatten).length ≤ 128 then some (expandFrom 0 0 w.segments) else none

/-- The reference point index is absent or below the number of points (R3). -/
def referenceFits (w : Sweep) (points : List PointEntry) : Bool :=
  match w.reference with
  | some r => decide (r < points.length)
  | none => true

/-- The measure a code names (R182). -/
def measureOf (v : Nat) : Option Measure :=
  if v = 1 then some .spl else if v = 2 then some .rel else if v = 3 then some .thd else if v = 4 then some .rnb else none

/-- The condition a code names (R182). -/
def conditionOf (v : Nat) : Option Condition :=
  if v = 1 then some .failAbove else if v = 2 then some .failAtOrAbove else if v = 3 then some .failBelow
  else if v = 4 then some .failAtOrBelow else none

/-- The breakpoint frequencies ascend strictly (R4). -/
def breakpointsAscend : List Breakpoint → Bool
  | a :: b :: rest => decide (a.freq < b.freq) && breakpointsAscend (b :: rest)
  | _ => true

/-- A curve at `o`, and the offset after it (R4, R182). -/
def curveAt (b : List Byte) (o : Nat) : Option (Curve × Nat) := do
  let measure ← measureOf (u8At b o)
  let condition ← conditionOf (u8At b (o + 1))
  let reason ← inRange 1 12 (u8At b (o + 2))
  let count ← inRange 2 16 (u8At b (o + 3))
  let breakpoints ← (List.range count).mapM fun i => do
    let freq ← inRange 2000 2000000 (u32At b (o + 4 + 6 * i))
    return { freq, limit := s16At b (o + 4 + 6 * i + 4) : Breakpoint }
  if breakpointsAscend breakpoints then some ({ measure, condition, reason, breakpoints }, o + 4 + 6 * count) else none

/-- `n` curves from `o` on, which end the section (R4, R182). -/
def curvesFrom (b : List Byte) : Nat → Nat → Option (List Curve)
  | 0, o => if b.length = o then some [] else none
  | n + 1, o => do
    let (c, o) ← curveAt b o
    let rest ← curvesFrom b n o
    return c :: rest

/-- The LIMITS section (R4, R182). -/
def parseLimits (b : List Byte) : Option (List Curve) := do
  let count ← inRange 1 8 (u8At b 0)
  curvesFrom b count 1

/-- The BINS section (R5, R182). -/
def parseBins (b : List Byte) : Option Bins := do
  if b.length ≠ 29 then none
  let entries ← (List.range 14).mapM fun i => do
    let bin ← inRange 1 15 (u8At b (2 * i))
    let priority ← inRange 0 15 (u8At b (2 * i + 1))
    return { bin, priority : BinEntry }
  let retestBin ← inRange 1 15 (u8At b 28)
  return { entries, retestBin }

/-- The GUARD section (R6, R182). -/
def parseGuard (b : List Byte) : Option Guard := do
  if b.length ≠ 9 then none
  let threshold ← inRangeInt (-15000) 15000 (s16At b 0)
  let retries ← inRange 0 7 (u8At b 2)
  let holdoffMs ← inRange 10 500 (u16At b 3)
  let overload ← inRange 1000000 8388607 (u32At b 5)
  return { threshold, retries, holdoffMs, overload }

/-- The POLICY section (R6, R182). -/
def parsePolicy (b : List Byte) : Option Policy := do
  if b.length ≠ 6 then none
  let maxAttempts ← inRange 1 4 (u8At b 0)
  let windowLength ← inRange 0 10000 (u16At b 1)
  let failLimit ← inRange 0 15 (u8At b 3)
  let alarm ← inRange 0 10000 (u16At b 4)
  return { maxAttempts, windowLength, failLimit, alarm }

/-- The role a code names (R182). -/
def roleOf (v : Nat) : Option Role :=
  if v = 1 then some .label else if v = 2 then some .reject else none

/-- The MARKER section (R7, R182). -/
def parseMarker (b : List Byte) : Option MarkerPlan := do
  let count ← inRange 0 4 (u8At b 0)
  let devices ← (List.range count).mapM fun i => do
    let address ← inRange 0x08 0x77 (u8At b (1 + 2 * i))
    let role ← roleOf (u8At b (2 + 2 * i))
    return { address, role : DevicePlan }
  let prefCount ← inRange 1 3 (u8At b (1 + 2 * count))
  if b.length ≠ 3 + 2 * count + prefCount then none
  let preferences ← (List.range prefCount).mapM fun i => inRange 1 3 (u8At b (2 + 2 * count + i))
  let timeout ← inRange 1 60 (u8At b (2 + 2 * count + prefCount))
  if (devices.map (·.address)).Nodup ∧ preferences.Nodup then some { devices, preferences, timeout } else none

/-- The LINES section: each input function bound to at most one line (R8, R182). -/
def parseLines (b : List Byte) : Option (List LineFunction) := do
  if b.length ≠ 8 then none
  let fs ← b.mapM fun v => lineFunctionOf v.toNat
  if allInputs.all (fun f => decide (fs.count (.input f) ≤ 1)) then some fs else none

/-! ### The walk of check 6 (R15) -/

/-- The sections read so far. -/
structure Parts where
  sweep  : Option (Sweep × List PointEntry)
  limits : Option (List Curve)
  /-- The section index of LIMITS. -/
  limitsAt : Nat
  bins   : Option Bins
  guard  : Option Guard
  policy : Option Policy
  marker : Option MarkerPlan
  lines  : Option (List LineFunction)
  deriving DecidableEq, Repr

/-- Nothing read yet. -/
def Parts.start : Parts where
  sweep := none
  limits := none
  limitsAt := 0
  bins := none
  guard := none
  policy := none
  marker := none
  lines := none

/-- One section read into the parts; absent when its own content breaks a condition (R15). -/
def Parts.read (image : List Byte) (i : Nat) (e : Section) (p : Parts) : Option Parts :=
  let b := e.bytes image
  if e.type = 1 then do
    let w ← parseSweep b
    let points ← expandSweep w
    if referenceFits w points then some { p with sweep := some (w, points) } else none
  else if e.type = 2 then do return { p with limits := some (← parseLimits b), limitsAt := i }
  else if e.type = 3 then do return { p with bins := some (← parseBins b) }
  else if e.type = 4 then do return { p with guard := some (← parseGuard b) }
  else if e.type = 5 then do return { p with policy := some (← parsePolicy b) }
  else if e.type = 6 then do return { p with marker := some (← parseMarker b) }
  else do return { p with lines := some (← parseLines b) }

/-- A REL curve stands while the reference point index is absent, judged once both sections have been read (R4, R15). -/
def Parts.relWithoutReference (p : Parts) : Bool :=
  match p.sweep, p.limits with
  | some (w, _), some curves => w.reference = none && curves.any (fun c => c.measure = .rel)
  | _, _ => false

/-- The walk over the sections in directory entry order; the index of the section that fails (R15). -/
def readSections (image : List Byte) : List (Section × Nat) → Parts → Except Nat Parts
  | [], p => .ok p
  | (e, i) :: rest, p =>
    match p.read image i e with
    | none => .error i
    | some p => if p.relWithoutReference then .error p.limitsAt else readSections image rest p

/-- The plan read from an image whose sections all passed (R1 to R8). -/
def Parts.toPlan (id : BitVec 32) (p : Parts) : Option StagedPlan := do
  let (sweep, points) ← p.sweep
  let limits ← p.limits
  let bins ← p.bins
  let guard ← p.guard
  let policy ← p.policy
  return { content := { id, sweep, limits, bins, guard, policy, marker := p.marker, lines := p.lines }, points }

/-! ### The six checks (R13) -/

/-- The result of the PLAN CLOSE checks (R16): status code of R182, and the fields present. -/
structure CheckResult where
  status      : Nat
  sectionIdx  : Option Nat
  missing     : Option Nat
  computed    : Option (BitVec 32)
  header      : Option (BitVec 32)
  planId      : Option (BitVec 32)
  plan        : Option StagedPlan
  deriving DecidableEq, Repr

/-- The plan id in the header (R182). -/
def headerId (image : List Byte) : BitVec 32 := BitVec.ofNat 32 (u32At image 4)

/-- The CRC in the header (R1, R182). -/
def headerCrc (image : List Byte) : BitVec 32 := BitVec.ofNat 32 (u32At image 12)

/-- Checks 5 and 6 over an image whose CRC is right (R14, R15). -/
def checkSections (image : List Byte) (r : CheckResult) : CheckResult :=
  match checkStructure image with
  | .bad i missing => { r with status := 5, sectionIdx := some i, missing := missing }
  | .sound sections =>
    match readSections image sections.zipIdx Parts.start with
    | .error i => { r with status := 6, sectionIdx := some i }
    | .ok parts => { r with status := 0, plan := parts.toPlan (headerId image) }

/-- The checks of PLAN CLOSE in order; the first that fails decides (R13, R16). -/
def checkImage (image : List Byte) (writePtr declared : Nat) (overrun : Bool) : CheckResult :=
  let r : CheckResult :=
    { status := 1, sectionIdx := none, missing := none, computed := none, header := none, planId := none, plan := none }
  if writePtr ≠ declared ∨ u32At image 8 ≠ declared then r
  else
    let r := { r with header := some (headerCrc image), planId := some (headerId image) }
    if overrun then { r with status := 2 }
    else if u16At image 0 ≠ 1 then { r with status := 3 }
    else
      let r := { r with computed := some (imageCrc image) }
      if imageCrc image ≠ headerCrc image then { r with status := 4 } else checkSections image r

end Sys2Proof.Machine
end

