-- ==== Sys2Proof/Machine/Loader.lean ====
section
/-! DEFINITION. The Plan Loader: transfers, the end of the checks, activation, and the plan requests (R9 to R22). -/

namespace Sys2Proof.Machine
open Sys2Proof

/-- Change the loader by `f`. -/
def State.modLoader (f : Loader → Loader) (s : State) : State := { s with loader := f s.loader }

/-- The loader fields that every reply to a plan request carries (R9, R185). -/
def loaderBody (l : Loader) : List Byte :=
  byte (loaderStateCode l.state) ++ le 2 l.writePtr ++ le 2 l.declared ++ flag l.overrun ++
  lePlanId (l.staged.map (·.content.id)) ++ lePlanId (l.active.map (·.content.id))

/-- A plan request answered with the loader fields as they stand, and `more` after them (R9, R185). -/
def State.planReply (p : PortId) (st : Status) (sub : Nat) (more : List Byte) (s : State) : State :=
  s.answer p st sub (loaderBody s.loader ++ more)

/-- A plan request refused with STATE and the state found (R173). -/
def State.planState (p : PortId) (s : State) : State := s.planReply p .state (loaderStateCode s.loader.state) []

/-! ### Activation (R19, R20) -/

/-- The ring is cleared at an activation (R20, R138). -/
def State.clearRing (s : State) : State := { s with accounts := { s.accounts with ring := [] } }

/-- The staged plan becomes the active plan and the staging area is emptied (R20). -/
def Loader.activated (p : StagedPlan) (l : Loader) : Loader :=
  { l with
    state := .idle, staging := [], staged := none,
    active := some { image := l.staging, content := p.content, points := p.points } }

/-- Activation, in the order of R20: Unit Table, retest list, shift close, outcome ring, the plan store, event lines, Marker
Controller, PLAN_ACTIVATED; a running MARKER START whose table has nothing left to negotiate then completes (R151). -/
def State.activate (s : State) : State :=
  match s.loader.staged with
  | none => s
  | some p =>
    let s := s.withdraw.modUnits fun u => { u with failCount := 0 }
    let s := ((s.emptyRetest).closeShift .planChange).clearRing
    let s := ((s.modLoader (Loader.activated p)).remapLines).remapMarker
    (s.latchBoth .planActivated).settleMarkerStart

/-- A pending activation follows a completion that takes the outgoing plan out of use (R19). -/
def State.settleActivation (s : State) : State :=
  if s.loader.state = .pending ∧ s.planInUse = false then s.activate else s

/-! ### The plan requests -/

/-- PLAN OPEN as the loader takes it (R10). In CHECKING, where none can arrive, it is refused too (DESIGN CHOICE, assumption log 3). -/
def takePlanOpen (p : PortId) (q : Vector Byte 64) (s : State) : State :=
  let size := u16At q.toList 0
  let timeout := u8At q.toList 2
  if size < 64 ∨ 16384 < size ∨ size % 4 ≠ 0 then s.planReply p .badParam 0 []
  else if timeout < 1 ∨ 63 < timeout then s.planReply p .badParam 2 []
  else
    match s.loader.state with
    | .idle | .receiving | .staged =>
      let s := s.modLoader fun l =>
        { l with
          state := .receiving, staging := [], writePtr := 0, declared := size, timeout := timeout, overrun := false,
          burstRunning := true, staged := none }
      s.planReply p .ok 0 []
    | .checking | .pending => s.planState p

/-- The bytes of a burst that fit below the declared size are stored; the others are dropped and set the overrun mark
(R11). -/
def Loader.store (bs : List Byte) (l : Loader) : Loader :=
  let stored := bs.take (l.declared - l.writePtr)
  { l with
    staging := l.staging ++ stored
    writePtr := l.writePtr + stored.length
    overrun := l.overrun || decide (stored.length < bs.length)
    burstRunning := true }

/-- PLAN DATA as the loader takes it (R11). -/
def takePlanData (p : PortId) (q : Vector Byte 64) (s : State) : State :=
  let count := u8At q.toList 0
  if count < 1 ∨ 56 < count then s.planReply p .badParam 0 []
  else
    match s.loader.state with
    | .receiving =>
      let bs := (q.toList.drop 1).take count
      let t := s.modLoader (Loader.store bs)
      t.planReply p .ok 0 (byte (t.loader.writePtr - s.loader.writePtr))
    | .idle | .checking | .staged | .pending => s.planState p

/-- PLAN CLOSE as the loader takes it: the burst timer stops and the checks begin (R13). -/
def takePlanClose (p : PortId) (_ : Vector Byte 64) (s : State) : State :=
  match s.loader.state with
  | .receiving => s.modLoader fun l => { l with state := .checking, burstRunning := false }
  | .idle | .checking | .staged | .pending => s.planState p

/-- PLAN ACTIVATE as the loader takes it (R18). -/
def takePlanActivate (p : PortId) (_ : Vector Byte 64) (s : State) : State :=
  match s.loader.state with
  | .staged =>
    if s.planInUse then (s.modLoader fun l => { l with state := .pending }).planReply p .ok 0 (byte 2)
    else s.activate.planReply p .ok 0 (byte 1)
  | .idle | .receiving | .checking | .pending => s.planState p

/-- PLAN REVOKE as the loader takes it (R22). -/
def takePlanRevoke (p : PortId) (_ : Vector Byte 64) (s : State) : State :=
  match s.loader.state with
  | .staged | .pending =>
    (s.modLoader fun l => { l with state := .idle, staging := [], staged := none }).planReply p .ok 0 []
  | .idle | .receiving | .checking => s.planState p

/-! ### The end of the checks (R16) and the burst timer (R12) -/

/-- The loader back in RECEIVING with its burst timer restarted (R12, R16, R17). -/
def Loader.receiveAgain (l : Loader) : Loader := { l with state := .receiving, burstRunning := true }

/-- A CRC of the check result with its presence byte (R185). R180 and R185 give the 4 bytes of an absent CRC no value, so they are
free values, at place `i` of the reply's unstated bytes (DESIGN CHOICE, assumption log 9). -/
def State.crcBytes (s : State) (i : Nat) : Option (BitVec 32) → List Byte
  | some v => byte 1 ++ le 4 v.toNat
  | none => byte 0 ++ s.unstated i 4

/-- How many unstated bytes a check result may hold (assumption log 9). -/
def checkUnstated : Nat := 8

/-- The check result in the PLAN CLOSE reply (R16, R185). The bytes of an absent CRC are free values (assumption log 9). -/
def State.checkBody (s : State) (r : CheckResult) : List Byte :=
  byte r.status ++ leWordOrFFFF r.sectionIdx ++ byte (r.missing.getD 0) ++ s.crcBytes 0 r.computed ++
  s.crcBytes 4 r.header ++ lePlanId r.planId ++ byteOrFF (r.plan.map (·.points.length))

/-- The checks end with result `r`: STAGED and PLAN_STAGED, or RECEIVING and PLAN_REJECTED, and the reply (R16). Its loader
fields stand as the completion leaves them (DESIGN CHOICE, assumption log 34). -/
def State.endChecks (r : CheckResult) (s : State) : State :=
  let s :=
    match r.plan with
    | some plan => (s.modLoader fun l => { l with state := .staged, staged := some plan }).latchBoth .planStaged
    | none => (s.modLoader Loader.receiveAgain).latchBoth .planRejected
  (s.answerLate .station .ok 0 (loaderBody s.loader ++ s.checkBody r)).spendUnstated checkUnstated

/-- The result of the checks over what the loader has received (R13). -/
def State.checkResult (s : State) : CheckResult :=
  checkImage s.loader.staging s.loader.writePtr s.loader.declared s.loader.overrun

/-- CHECKS_COMPLETE: the checks of a running PLAN CLOSE end (R16). -/
def execChecksComplete : State → Host.Outcome State Fault Refusal :=
  unlessHeld fun s =>
    match s.loader.state with
    | .checking => s.endChecks s.checkResult
    | .idle | .receiving | .staged | .pending => s

/-- BURST_TIMER_EXPIRY: the bytes received are discarded and the loader enters IDLE (R12). -/
def execBurstTimerExpiry : State → Host.Outcome State Fault Refusal :=
  unlessHeld fun s =>
    if s.loader.state = .receiving ∧ s.loader.burstRunning then
      (s.modLoader fun l =>
        { l with state := .idle, staging := [], writePtr := 0, overrun := false, burstRunning := false }).latchBoth .planTimeout
    else s

end Sys2Proof.Machine
end

