-- ==== Sys2Proof/Machine/Nests.lean ====
section
/-! DEFINITION. Loading, starting, releasing and aborting a nest, and the edges of the event lines (R26 to R28, R30 to R34,
R42 to R44, R116 to R119, R123). -/

namespace Sys2Proof.Machine
open Sys2Proof

/-! ### Loading (R26, R116, R118, R119) -/

/-- The unit fields of a load, and LOADED (R26). -/
def Nest.loaded (kind : UnitKind) (serial : Option Nat) (attempt : Nat) (n : Nest) : Nest :=
  { n with state := .loaded, kind := some kind, serial := serial, attempt := some attempt }

/-- The body of the LOAD UNIT reply: the serial, if present, and the attempt (R26). -/
def loadBody (serial : Option Nat) (attempt : Nat) : List Byte := leSerial serial ++ byte attempt

/-- A NEW load: the serial counter issues a serial, or the load is refused and the counter is 0 (R116). -/
def State.loadNew (p : PortId) (n : NestId) (s : State) : State :=
  let v := s.candidate
  if v = 0 then (s.modUnits fun u => { u with serialCounter := 0 }).refuse p .serialUnset 0
  else
    let s := (s.modUnits fun u => { u with serialCounter := nextSerial v }).count Counts.addIssued
    (s.modNest n (Nest.loaded .production (some v) 1)).ok p (loadBody (some v) 1)

/-- A RETEST load: the serial's entry is taken out of the list and becomes the held entry of the nest (R119). -/
def State.loadRetest (p : PortId) (n : NestId) (serial : Nat) (s : State) : State :=
  if (s.nest (otherNest n)).serial = some serial then s.refuse p .inUse 0
  else
    match s.units.retest.find? fun e => e.serial = serial with
    | none => s.refuse p .unknownSerial 0
    | some e =>
      let s := s.modUnits fun u => (u.takeEntry serial).setHeld n (some e)
      (s.modNest n (Nest.loaded .production (some serial) (e.attempts + 1))).ok p (loadBody (some serial) (e.attempts + 1))

/-- A REFERENCE load takes nothing from the Unit Table (R118). -/
def State.loadReference (p : PortId) (n : NestId) (s : State) : State :=
  (s.modNest n (Nest.loaded .reference none 1)).ok p (loadBody none 1)

/-- LOAD UNIT as the Nest Controller takes it: the checks in order (R26). -/
def takeLoadUnit (p : PortId) (q : Vector Byte 64) (s : State) : State :=
  let kind := u8At q.toList 1
  let serial := u32At q.toList 2
  match nestOf (u8At q.toList 0) with
  | none => s.refuse p .badParam 0
  | some n =>
    if kind < 1 ∨ 3 < kind then s.refuse p .badParam 1
    else if kind = 2 ∧ (serial < 1 ∨ 16777215 < serial) then s.refuse p .badParam 2
    else if (s.nest n).state ≠ .empty then s.refuse p .state (nestStateCode (s.nest n).state)
    else if kind = 1 then s.loadNew p n
    else if kind = 2 then s.loadRetest p n serial
    else s.loadReference p n

/-! ### Starting (R27, R28) -/

/-- The refusal of a START for nest `n`, in the order of checks 2 to 7; absent when it is accepted (R27). -/
def State.startRefusal (n : NestId) (s : State) : Option StartRefusal :=
  let nest := s.nest n
  if nest.state ≠ .loaded then some ⟨.state, nestStateCode nest.state⟩
  else if s.plan.isNone then some ⟨.noPlan, 0⟩
  else if s.loader.state = .pending then some ⟨.planPending, 0⟩
  else if s.capture.active.isNone then some ⟨.notCalibrated, 0⟩
  else
    match s.lines.notPermissive n with
    | some f => some ⟨.fixture, inputCode f⟩
    | none =>
      if nest.kind = some .production ∧ s.windowLength ≠ 0 ∧ s.verified = false then some ⟨.unverified, 0⟩ else none

/-- An accepted START: a production unit spends verification, the nest enters WAITING and joins the queue, and is granted at
once when it can be (R28, R127). -/
def State.acceptStart (n : NestId) (s : State) : State :=
  let s := if (s.nest n).kind = some .production then s.spendVerification else s
  (s.modNest n fun x => { x with state := .waiting }).joinQueue (.nest n)

/-- START NEST as the Nest Controller takes it (R27, R28). -/
def takeStartNest (p : PortId) (q : Vector Byte 64) (s : State) : State :=
  match nestOf (u8At q.toList 0) with
  | none => s.refuse p .badParam 0
  | some n =>
    match s.startRefusal n with
    | some r => s.refuse p r.status r.subcode
    | none =>
      let s := s.acceptStart n
      s.ok p (byte (nestStateCode (s.nest n).state))

/-- A START for nest `n` from the line side: the last start refusal is set or cleared (R44). -/
def State.lineStart (n : NestId) (s : State) : State :=
  match s.startRefusal n with
  | some r => (s.modNest n fun x => { x with lastRefusal := some r }).latchBoth .startRefused
  | none => (s.acceptStart n).modNest n fun x => { x with lastRefusal := none }

/-! ### Releasing and aborting (R30 to R34) -/

/-- A waiting label job is dropped when its driver is taken away (R30, R155). -/
def State.dropWaiting (n : NestId) (s : State) : State :=
  (s.modMarker fun m => { m with waitList := m.waitList.filter (fun w => w.nest ≠ n), dropped := m.dropped + 1 }).modNest n
    Nest.emptied

/-- RELEASE NEST as the Nest Controller takes it (R31). -/
def takeReleaseNest (p : PortId) (q : Vector Byte 64) (s : State) : State :=
  match nestOf (u8At q.toList 0) with
  | none => s.refuse p .badParam 0
  | some n =>
    match (s.nest n).state with
    | .loaded => (s.releaseUntested n).ok p []
    | .done => (s.modNest n Nest.emptied).ok p []
    | .empty | .waiting | .measuring | .analysing | .labelWait => s.refuse p .state (nestStateCode (s.nest n).state)

/-- ABORT NEST as the Nest Controller takes it (R32); a pending activation follows the abort that permits it (R19). -/
def takeAbortNest (p : PortId) (q : Vector Byte 64) (s : State) : State :=
  match nestOf (u8At q.toList 0) with
  | none => s.refuse p .badParam 0
  | some n =>
    if (s.nest n).state.inTest then (s.abortAll [n]).settleActivation.ok p []
    else s.refuse p .state (nestStateCode (s.nest n).state)

/-- An abort from a line source: each nest of the list that is in test; the others stay as they are (R32). -/
def State.lineAbort (ns : List NestId) (s : State) : State :=
  if ns.any fun n => (s.nest n).state.inTest then (s.abortAll ns).settleActivation else s

/-- Presence loss at nest `n` (R34); the untested release is made before a pending activation (R19). -/
def State.presenceLoss (n : NestId) (s : State) : State :=
  match (s.nest n).state with
  | .empty => s
  | .loaded => s.releaseUntested n
  | .waiting | .measuring | .analysing => ((s.abortAll [n]).releaseUntested n).settleActivation
  | .labelWait => s.dropWaiting n
  | .done => s.modNest n Nest.emptied

/-! ### Edges (R42 to R44) -/

/-- An edge of an input function to `level` (R44). -/
def State.edge (f : InputFunction) (level : Bool) (s : State) : State :=
  match f, level with
  | .present n, false => s.presenceLoss n
  | .clamp n, false => s.lineAbort [n]
  | .doorClosed, false => s.lineAbort [.a, .b]
  | .stop, true => s.lineAbort [.a, .b]
  | .start n, true => s.lineStart n
  | .present _, true | .clamp _, true | .doorClosed, true | .stop, false | .start _, false => s

/-- LINE_PIN_CHANGE: a change of a pin level restarts the debounce timer of a bound input line (R42). -/
def execLinePinChange (line : Fin 8) (level : Bool) (s : State) : Host.Outcome State Fault Refusal :=
  let s' := s.modLine line fun x => { x with pin := level }
  if s.held then .next s'
  else if s.lines.line[line].pin = level then .next s
  else
    match s.lines.line[line].function with
    | .input _ => .next (s'.modLine line fun x => { x with timer := true })
    | .unused | .output _ => .next s'

/-- DEBOUNCE_EXPIRY: the debounced level takes the pin level; a change gives the function's edge, the first level of a newly
bound line none (R42). -/
def execDebounceExpiry (line : Fin 8) : State → Host.Outcome State Fault Refusal :=
  unlessHeld fun s =>
    let x := s.lines.line[line]
    if x.timer = false then s
    else
      let t := s.modLine line fun x => { x with timer := false, debounced := some x.pin }
      match x.function, x.debounced with
      | .input f, some old => if old = x.pin then t else t.edge f x.pin
      | _, _ => t

/-- The start result of a LINE EVENT reply: 0 for ACCEPTED, else the refusal's status code and subcode (R43, R185). -/
def startResult : Option StartRefusal → List Byte
  | none => byte 0 ++ byte 0
  | some r => byte (statusCode r.status) ++ byte r.subcode

/-- LINE EVENT as the Event Lines take it (R43). -/
def takeLineEvent (p : PortId) (q : Vector Byte 64) (s : State) : State :=
  let action := u8At q.toList 1
  match inputOf (u8At q.toList 0) with
  | none => s.refuse p .badParam 0
  | some (.start n) =>
    if action ≠ 3 then s.refuse p .badParam 1
    else if (s.lines.bound (.start n)).isSome then s.refuse p .boundToLine 0
    else (s.lineStart n).ok p (byte 0xFF ++ startResult (s.startRefusal n))
  | some f =>
    if action ≠ 1 ∧ action ≠ 2 then s.refuse p .badParam 1
    else if (s.lines.bound f).isSome then s.refuse p .boundToLine 0
    else
      let level := decide (action = 1)
      let t := { s with lines := s.lines.setVirtual f level }
      let t := if s.lines.virtual f = some level then t else t.edge f level
      t.ok p (flag level ++ byte 0xFF ++ byte 0)

end Sys2Proof.Machine
end

