-- ==== Sys2Proof/Machine/Verdicts.lean ====
section
/-! DEFINITION. Judging a point record, fail reasons, worst margins, the verdict, its bin, the attempt policy, and what a
verdict hands on (R94, R96 to R112, R29, R58, R59, R128, R154). -/

namespace Sys2Proof.Machine
open Sys2Proof

/-! ### Limits and margins (R96 to R99) -/

/-- Whether a curve applies to a frequency (R96). -/
def Curve.applies (c : Curve) (f : Nat) : Bool :=
  match c.breakpoints.head?, c.breakpoints.getLast? with
  | some a, some b => decide (a.freq ≤ f ∧ f ≤ b.freq)
  | _, _ => false

/-- The limit of a list of breakpoints at frequency `f` within their range: a breakpoint's own limit, or the line between
two of them with its quotient truncated toward zero (R97). -/
def limitAt (f : Nat) : List Breakpoint → Int
  | a :: b :: rest =>
    if f = a.freq then a.limit
    else if f < b.freq then
      a.limit + ((b.limit - a.limit) * ((f : Int) - a.freq)).tdiv ((b.freq : Int) - a.freq)
    else limitAt f (b :: rest)
  | [a] => a.limit
  | [] => 0

/-- The margin of a judged value, saturated (R98). -/
def marginOf (c : Curve) (f : Nat) (m : Int) : Int := saturate16 (m - limitAt f c.breakpoints)

/-- Whether the subtraction of a margin saturates (R98). -/
def marginSaturates (c : Curve) (f : Nat) (m : Int) : Bool :=
  marginOf c f m != m - limitAt f c.breakpoints

/-- Whether a margin fails a condition (R99). -/
def Condition.fails (c : Condition) (margin : Int) : Bool :=
  match c with
  | .failAbove => decide (0 < margin)
  | .failAtOrAbove => decide (0 ≤ margin)
  | .failBelow => decide (margin < 0)
  | .failAtOrBelow => decide (margin ≤ 0)

/-- Whether a margin is worse than the held one under a condition (R106). -/
def Condition.worse (c : Condition) (margin held : Int) : Bool :=
  match c with
  | .failAbove | .failAtOrAbove => decide (held < margin)
  | .failBelow | .failAtOrBelow => decide (margin < held)

/-! ### Reasons and worst margins (R105, R106) -/

/-- A reason code is detected (R105). -/
def Nest.detect (code : Nat) (n : Nest) : Nest :=
  if code ∈ n.detected then n
  else
    let n := { n with detected := n.detected ++ [code] }
    if n.failList.length < 8 then { n with failList := n.failList ++ [code] } else { n with overflow := n.overflow + 1 }

/-- A worst-margin record after a margin of a curve with condition `c` (R106). -/
def worstAfter (c : Condition) (margin : Int) (point : Nat) (saturated : Bool) : Option Worst → Worst
  | none => { margin, point, saturated }
  | some w =>
    if c.worse margin w.margin then { margin, point, saturated := w.saturated || saturated }
    else { w with saturated := w.saturated || saturated }

/-- A point enters the judged set of curve `k` (R100). -/
def Nest.addJudged (k point : Nat) (n : Nest) : Nest :=
  { n with judged := n.judged.modify k fun l => if point ∈ l then l else l ++ [point] }

/-- A point of frequency `f` is judged on the value `m` by curve `c`, which is curve `k` (R97 to R99, R105, R106). -/
def Nest.judgeValue (k : Nat) (c : Curve) (point f : Nat) (m : Int) (n : Nest) : Nest :=
  let margin := marginOf c f m
  let n := n.addJudged k point
  let n := if c.condition.fails margin then n.detect c.reason else n
  { n with worst := n.worst.modify k fun w => some (worstAfter c.condition margin point (marginSaturates c f m) w) }

/-- NO_RESPONSE, reason 13, is recorded for a point on curve `k` (R101, R103). -/
def Nest.noResponse (k point : Nat) (n : Nest) : Nest := (n.addJudged k point).detect 13

/-- The field of a point record a measure names (R96). -/
def PointRecord.field (r : PointRecord) : Measure → Option Int
  | .spl => r.spl
  | .rel => r.rel
  | .thd => r.thd
  | .rnb => r.rnb

/-- Curve `c`, curve `k`, visits a VALID or NO_SIGNAL record, `isRef` when it is the reference point's (R101, R103). -/
def Nest.visit (isRef : Bool) (r : PointRecord) (n : Nest) (k : Nat) (c : Curve) : Nest :=
  if !c.applies r.freq then n
  else
    match c.measure with
    | .spl =>
      match r.spl with
      | some m => n.judgeValue k c r.index r.freq m
      | none => n
    | .rel =>
      if n.refState = .valid then
        match r.rel with
        | some m => n.judgeValue k c r.index r.freq m
        | none => n
      else if isRef && r.status = .noSignal then n.noResponse k r.index
      else n
    | .thd | .rnb =>
      if r.status = .noSignal then n.noResponse k r.index
      else
        match r.field c.measure with
        | some m => n.judgeValue k c r.index r.freq m
        | none => n

/-- Every curve visits a record, in curve order (R101). -/
def Nest.visitAll (curves : List Curve) (isRef : Bool) (r : PointRecord) (n : Nest) : Nest :=
  curves.zipIdx.foldl (fun n x => n.visit isRef r x.2 x.1) n

/-- The REL curves alone visit a record, in curve order (R102). -/
def Nest.visitRel (curves : List Curve) (r : PointRecord) (n : Nest) : Nest :=
  curves.zipIdx.foldl (fun n x => if x.1.measure = .rel then n.visit false r x.2 x.1 else n) n

/-! ### Taking a record (R25, R94, R101 to R104) -/

/-- A record that carries measurement values: VALID or NO_SIGNAL (R93). -/
def PointRecord.measured (r : PointRecord) : Bool := r.status = .valid || r.status = .noSignal

/-- REL against the reference SPL (R94). -/
def PointRecord.fillRel (ref : Int) (r : PointRecord) : PointRecord :=
  { r with rel := r.spl.map fun v => clampLevel (v - ref) }

/-- REL filled into every stored VALID and NO_SIGNAL record whose REL is absent (R94). -/
def fillSlots (ref : Int) (slots : List (Option PointRecord)) : List (Option PointRecord) :=
  slots.map fun o => o.map fun r => if r.measured && r.rel.isNone then r.fillRel ref else r

/-- The record in slot `i`, if it holds one. -/
def Nest.slot (i : Nat) (n : Nest) : Option PointRecord := (n.slots[i]?).join

/-- A record is stored in the slot of its point index (R25). -/
def Nest.store (r : PointRecord) (n : Nest) : Nest := { n with slots := n.slots.set r.index (some r) }

/-- The SPL of the reference slot when it holds a VALID record (R94). -/
def Nest.referenceSpl (reference : Option Nat) (n : Nest) : Option Int :=
  match reference.bind n.slot with
  | some r => if r.status = .valid then r.spl else none
  | none => none

/-- The visit that the VALID record of the reference point begins: every point with a VALID or NO_SIGNAL record, in point
index order, by the REL curves alone but at the reference point by all (R102). -/
def Nest.visitReference (curves : List Curve) (reference : Nat) (n : Nest) : Nest :=
  n.slots.foldl
    (fun m o =>
      match o with
      | some r =>
        if !r.measured then m
        else if r.index = reference then m.visitAll curves true r
        else m.visitRel curves r
      | none => m)
    n

/-- The nest takes a NOISY, OVERLOAD or SKIPPED record (R103, R104). -/
def Nest.takeUnmeasured (c : PlanContent) (r : PointRecord) (n : Nest) : Nest :=
  let n := n.store r
  let n := { n with
    causeNoisy := n.causeNoisy || r.status = .noisy
    causeOverload := n.causeOverload || r.status = .overload }
  if c.sweep.reference = some r.index then
    { n with
      refState := .notValid
      causeNoisy := n.causeNoisy || (c.limits.any (fun k => k.measure = .rel) && r.status ≠ .skipped) }
  else n

/-- The nest takes a record: it is stored, REL is filled, and it is judged (R94, R101 to R104). -/
def Nest.take (c : PlanContent) (r : PointRecord) (n : Nest) : Nest :=
  if !r.measured then n.takeUnmeasured c r
  else if c.sweep.reference = some r.index then
    match r.status, r.spl with
    | .valid, some spl =>
      let n := n.store (r.fillRel spl)
      let n := { n with slots := fillSlots spl n.slots, refState := .valid }
      n.visitReference c.limits r.index
    | _, _ => ({ n.store r with refState := .notValid }).visitAll c.limits true r
  else
    let r :=
      match n.referenceSpl c.sweep.reference with
      | some ref => r.fillRel ref
      | none => r
    (n.store r).visitAll c.limits false r

/-! ### Stop-on-fail (R58, R59) -/

/-- The SKIPPED records from the point cursor to the last index, in index order (R59). -/
def State.skippedRecords (s : State) : List PointRecord :=
  (s.sweepPoints.drop s.gen.cursor).map fun p =>
    { index := p.index, freq := p.freq, status := .skipped,
      attempts := if p.index = s.gen.cursor then s.capture.attempt else 1,
      spl := none, thd := none, rnb := none, rel := none }

/-- A stop request reaches the generator only for a nest that is MEASURING, in SETTLE, WINDOW or HOLDOFF (R58). -/
def State.stopReaches (n : NestId) (s : State) : Bool :=
  (s.nest n).state = .measuring && s.gen.claimant = some (.nest n) &&
  (s.gen.mode = .settle || s.gen.mode = .window || s.gen.mode = .holdoff)

/-- The stop request: the window or holdoff in progress ends, SKIPPED records are offered, and the generator runs out (R58,
R59, R68, R71). -/
def State.stopSweep (n : NestId) (c : PlanContent) (s : State) : State :=
  if s.stopReaches n then
    let skipped := s.skippedRecords
    let s :=
      match s.gen.mode, s.fillingHalf with
      | .window, some h => s.freeOne h
      | _, _ => s
    let s := (s.modCapture fun x => { x with holdoff := none }).modGen fun g => { g with mode := .runOut, stopMark := true }
    s.modNest n fun x => skipped.foldl (fun x r => x.take c r) x
  else s

/-- A point record is offered to nest `n` under `tag`; it is taken or discarded, and the first fail reason may stop the
sweep (R25, R58, R80). -/
def State.offerRecord (n : NestId) (tag : BitVec 16) (r : PointRecord) (s : State) : State :=
  match s.plan with
  | none => s
  | some c =>
    if ((s.nest n).state = .measuring ∨ (s.nest n).state = .analysing) ∧ tag = (s.nest n).tag then
      let t := s.modNest n (Nest.take c r)
      if c.sweep.stopOnFail ∧ (s.nest n).failList = [] ∧ (t.nest n).failList ≠ [] then t.stopSweep n c else t
    else s

/-! ### The verdict (R107 to R111) -/

/-- Whether a slot holds a record of a status. -/
def Nest.hasStatus (st : PointStatus) (n : Nest) : Bool := n.slots.any fun o => (o.map (·.status)) = some st

/-- The verdict of a test before the attempt policy (R107). -/
def Nest.resolve (curves : List Curve) (n : Nest) : Verdict :=
  if n.hasStatus .overload then .retest
  else if n.detected ≠ [] then .fail
  else if n.hasStatus .noisy || (curves.any (fun c => c.measure = .rel) && n.refState = .notValid) then .retest
  else .pass

/-- The retest causes at the verdict. R107 names the cause of a RETEST: OVERLOAD in step 1, NOISY in step 3. The records of the test
have set it already (R103, R104), but for one case: step 3 with a NO_SIGNAL reference record and REL curves of which none applies to
it, where R103 sets no cause. Whether the nest record's set then gains NOISY the spec does not say; the model adds it (DEDUCED from
"RETEST with the NOISY cause", assumption log 45). -/
def Nest.noteCause (curves : List Curve) (n : Nest) : Nest :=
  match n.resolve curves with
  | .retest =>
    if n.hasStatus .overload then { n with causeOverload := true } else { n with causeNoisy := true }
  | .pass | .fail => n

/-- The BINS entry of a code (R5). -/
def Bins.entry (b : Bins) (code : Nat) : BinEntry := b.entries.getD (code - 1) ⟨0, 0⟩

/-- Whether code `a` wins over code `c`: the lower priority number, and of equal ones the lower code (R108). -/
def Bins.beats (b : Bins) (a c : Nat) : Bool :=
  decide ((b.entry a).priority < (b.entry c).priority ∨ ((b.entry a).priority = (b.entry c).priority ∧ a < c))

/-- The winning reason of the detected reasons (R108). -/
def Bins.winner (b : Bins) : List Nat → Option Nat
  | [] => none
  | c :: rest =>
    match b.winner rest with
    | some w => if b.beats w c then some w else some c
    | none => some c

/-- The bin of a verdict (R108). -/
def Bins.binOf (b : Bins) (v : Verdict) (detected : List Nat) : Nat :=
  match v with
  | .pass => 0
  | .retest => b.retestBin
  | .fail =>
    match b.winner detected with
    | some c => (b.entry c).bin
    | none => 0

/-- The attempt policy: the verdict recorded, the outcome class, and whether RETEST_LIMIT is detected (R109). -/
def attemptPolicy (v : Verdict) (attempt maxAttempts : Nat) : Verdict × OutcomeClass × Bool :=
  match v with
  | .pass => (.pass, if attempt = 1 then .firstPass else .retestPass, false)
  | .fail => (.fail, if maxAttempts ≤ attempt then .finalFail else .retestPending, false)
  | .retest => if maxAttempts ≤ attempt then (.fail, .finalFail, true) else (.retest, .retestPending, false)

/-- The completion kind of a settling class (R134). -/
def OutcomeClass.completion : OutcomeClass → Option Completion
  | .firstPass => some .firstPass
  | .retestPass => some .retestPass
  | .finalFail => some .finalFail
  | .retestPending => none

/-- The role of the label job a class calls for (R154). -/
def OutcomeClass.jobRole : OutcomeClass → Option Role
  | .firstPass | .retestPass => some .label
  | .finalFail => some .reject
  | .retestPending => none

/-- What the Yield Accounts and the Unit Table do with a production verdict (R110, R122, R130, R134). -/
def State.takeOutcome (n : NestId) (o : OutcomeClass) (v : Verdict) (bin : Nat) (s : State) : State :=
  let serial := (s.nest n).serial.getD 0
  let attempt := (s.nest n).attempt.getD 0
  let s := s.count (Counts.addVerdict o v bin)
  let s :=
    match o.completion with
    | some k => s.addRing ⟨serial, k⟩
    | none => s
  let s := s.modUnits (UnitTable.setHeld n none)
  let s := if o = .retestPending then s.insertRetest ⟨serial, attempt, v, bin⟩ else s
  s.countFails v

/-- The label job of a verdict, made from the nest record (R153, R154). -/
def State.labelJob (n : NestId) (c : PlanContent) (role : Role) (s : State) : Job :=
  let nest := s.nest n
  { ticket := none, serial := nest.serial.getD 0, nest := n, fails := nest.verdict ≠ some .pass, bin := nest.bin.getD 0,
    attempt := nest.attempt.getD 0, shift := s.accounts.shift, planId := c.id, role := role, reprint := false, restarts := 0,
    margins := (List.range 4).map fun i => ((nest.worst[i]?).join).map (·.margin) }

/-- A label job is offered: it enters the queue and the nest DONE, or the nest enters LABEL_WAIT (R29, R155). -/
def State.offerJob (n : NestId) (j : Job) (s : State) : State :=
  if s.marker.queue.length < 8 then
    (s.modNest n fun x => { x with state := .done, ticket := some (s.marker.ticket + 1) }).enqueue j
  else
    (s.modNest n fun x => { x with state := .labelWait }).modMarker fun m => { m with waitList := m.waitList ++ [⟨n, j⟩] }

/-- The verdict of a production unit (R29, R107 to R110, R154). -/
def State.productionVerdict (n : NestId) (c : PlanContent) (s : State) : State :=
  let (v, o, limit) := attemptPolicy ((s.nest n).resolve c.limits) ((s.nest n).attempt.getD 0) c.policy.maxAttempts
  let s := s.modNest n fun x => if limit then (x.noteCause c.limits).detect 14 else x.noteCause c.limits
  let bin := c.bins.binOf v (s.nest n).detected
  let s := s.modNest n fun x => { x with verdict := some v, bin := some bin }
  let s := s.takeOutcome n o v bin
  match c.marker, o.jobRole with
  | some _, some role => s.offerJob n (s.labelJob n c role)
  | _, _ => s.modNest n fun x => { x with state := .done }

/-- The verdict of a reference unit (R111, R128, R134). -/
def State.referenceUnitVerdict (n : NestId) (c : PlanContent) (s : State) : State :=
  let v := (s.nest n).resolve c.limits
  let bin := c.bins.binOf v (s.nest n).detected
  let s := s.modNest n fun x => { x.noteCause c.limits with verdict := some v, bin := some bin }
  let s := (s.count (Counts.addReference (v = .pass))).referenceVerdict n v
  s.modNest n fun x => { x with state := .done }

/-- The verdict of nest `n`, and NEST_x_DONE (R29). -/
def State.makeVerdict (n : NestId) (s : State) : State :=
  match s.plan with
  | none => s
  | some c =>
    (if (s.nest n).kind = some .reference then s.referenceUnitVerdict n c else s.productionVerdict n c).latchBoth (.nestDone n)

end Sys2Proof.Machine
end

