-- ==== Sys2Proof/Machine/Analysis.lean ====
section
/-! DEFINITION. The Analysis Engine: accumulators, amplitudes, residual, outputs, and the completion; the end of a CHAIN
CHECK (R39, R79 to R92). -/

namespace Sys2Proof.Machine
open Sys2Proof

/-- The effective harmonic count (R83). -/
def effectiveHarmonics (h f : Nat) : Nat := min h (2399999 / f)

/-- The sine value of harmonic `k` at a phase (R84). -/
def sineOf (k : Nat) (phase : Phase) : Int := sine (tableIndex (k * phase.toNat))

/-- The cosine value of harmonic `k` at a phase (R84). -/
def cosineOf (k : Nat) (phase : Phase) : Int := sine ((tableIndex (k * phase.toNat) + 256) % 1024)

/-- The in-phase sum I_k (R84). -/
def inPhaseSum (samples : List (Int × Phase)) (k : Nat) : Int :=
  samples.foldl (fun a x => a + x.1 * cosineOf k x.2) 0

/-- The quadrature sum Q_k (R84). -/
def quadSum (samples : List (Int × Phase)) (k : Nat) : Int :=
  samples.foldl (fun a x => a + x.1 * sineOf k x.2) 0

/-- The accumulators of a window: I_k and Q_k for k = 1 to `heff` (R84). -/
def accumulate (samples : List (Int × Phase)) (heff : Nat) : List (Int × Int) :=
  (List.range heff).map fun i => (inPhaseSum samples (i + 1), quadSum samples (i + 1))

/-- I_k² + Q_k². The amplitude of R85 is 2 × its root / (32,767 × N). -/
def power (a : Int × Int) : Nat := (a.1 * a.1 + a.2 * a.2).toNat

/-- 32,767² × N × E[n], the scaled reconstruction of a sample at a phase (R86). -/
def reconstruction (acc : List (Int × Int)) (phase : Phase) : Int :=
  acc.zipIdx.foldl (fun e x => e + 2 * (x.1.1 * cosineOf (x.2 + 1) phase + x.1.2 * sineOf (x.2 + 1) phase)) 0

/-- 32,767² × N × P, the scaled residual peak (R86). -/
def residualPeak (samples : List (Int × Phase)) (n : Nat) (acc : List (Int × Int)) : Nat :=
  samples.foldl (fun p x => max p (x.1 * (32767 * 32767 * n : Nat) - reconstruction acc x.2).natAbs) 0

/-- Lfs from I_1² + Q_1² over `n` samples (R88): A_1² is 4 × that / (32,767 × n)². -/
def levelFs (p1 n : Nat) : Int :=
  if p1 = 0 then -15000 else log1000 (4 * p1) ((32767 * n) ^ 2 * Config.fullScale ^ 2)

/-- THD from the powers of harmonics 2 and up and of the fundamental (R89). -/
def thdOf (d p1 : Nat) : Int := if d = 0 then -15000 else log1000 d p1

/-- RNB from the scaled residual peak and I_1² + Q_1² (R90): P² / A_1² is peak² / (32,767² × 4 × that). -/
def rnbOf (peak p1 : Nat) : Int := if peak = 0 then -15000 else log1000 (peak ^ 2) (32767 ^ 2 * 4 * p1)

/-- The results of an analysis. -/
structure Analysed where
  acc  : List (Int × Int)
  peak : Nat
  lfs  : Int
  deriving DecidableEq, Repr

/-- The analysis of a half: the residual is formed for a nest window alone (R92). -/
def analyse (h : Half) : Analysed :=
  let acc := accumulate h.samples (effectiveHarmonics h.harmonics h.freq)
  { acc,
    peak := match h.claimant with
      | .nest _ => residualPeak h.samples h.length acc
      | .check => 0
    lfs := levelFs (power (acc.getD 0 (0, 0))) h.length }

/-- The point record of a nest window (R88 to R91, R93). -/
def recordOf (minResponse : Int) (h : Half) (a : Analysed) : PointRecord :=
  let p1 := power (a.acc.getD 0 (0, 0))
  let spl := clampLevel (a.lfs + h.micOffset.getD 0)
  let silent := decide (p1 = 0 ∨ spl < minResponse)
  { index := h.point, freq := h.freq, status := if silent then .noSignal else .valid, attempts := h.attempt,
    spl := some spl,
    thd := if silent ∨ a.acc.length < 2 then none else some (thdOf (((a.acc.drop 1).map power).sum) p1),
    rnb := if silent then none else some (rnbOf a.peak p1),
    rel := none }

/-- The minimum response of the active plan (R87, R91). -/
def State.minResponse (s : State) : Int :=
  match s.plan with
  | some c => c.sweep.minResponse
  | none => 0

/-- The engine's registers at a completion, and IDLE (R77, R79). -/
def Engine.finished (a : Analysed) (n : Nat) (e : Engine) : Engine :=
  { e with
    under := none
    inPhase := a.acc.map (·.1) ++ List.replicate (12 - a.acc.length) 0
    quad := a.acc.map (·.2) ++ List.replicate (12 - a.acc.length) 0
    residual := mkRat a.peak (32767 * 32767 * n) }

/-! ### The end of a CHAIN CHECK (R39) -/

/-- Whether an Lfs lies within the check's tolerance (R39). -/
def checkPasses (lfs : Int) : Bool := decide (-2050 ≤ lfs ∧ lfs ≤ -1950)

/-- The body of the CHAIN CHECK reply (R185). -/
def checkReply (a b : Int) : List Byte :=
  byte (if checkPasses a && checkPasses b then 1 else 2) ++ leSigned a ++ leSigned b

/-- A running CHAIN CHECK ends when its fade-out has ended and both completions have been taken: the chain is freed, a failure
withdraws verification and latches CHAIN_FAULT, the request completes, the next claimant is granted, and a pending activation
follows (R19, R37, R39; assumption log 13). -/
def State.endCheckIfDue (s : State) : State :=
  match s.chain.holder, s.chain.checkFaded, s.chain.checkA, s.chain.checkB with
  | some .check, true, some a, some b =>
    let s := s.freeChain
    let s := if checkPasses a && checkPasses b then s else s.withdraw.latchBoth .chainFault
    let s := if s.runs .station .chainCheck then s.answerLate .station .ok 0 (checkReply a b) else s
    s.grantHead.settleActivation
  | _, _, _, _ => s

/-- A CHAIN CHECK takes the result for the input recorded (R39, R92). -/
def State.takeCheckResult (h : Half) (lfs : Int) (s : State) : State :=
  s.modChain fun x =>
    match h.input with
    | .a => { x with checkA := some lfs }
    | .b => { x with checkB := some lfs }

/-- Whether the claimant that half `h` names takes its result: a nest that is MEASURING or ANALYSING under the half's tag, or the CHAIN
CHECK that holds the chain under it (R25, R80). -/
def State.takesResult (h : Half) (s : State) : Bool :=
  h.tag = s.tagOf h.claimant &&
  match h.claimant with
  | .nest n => (s.nest n).state = .measuring || (s.nest n).state = .analysing
  | .check => s.chain.holder = some .check

/-- The result of a completion goes to its claimant, and the verdict or the end of the check that it brings follows; a result that
its claimant discards does nothing and ends no test (R79, steps 3 to 5; R80). -/
def State.handOver (h : Half) (a : Analysed) (s : State) : State :=
  if s.takesResult h then
    match h.claimant with
    | .nest n =>
      let s := s.offerRecord n h.tag (recordOf s.minResponse h a)
      if (s.nest n).state = .analysing ∧ s.outstanding n = 0 then (s.makeVerdict n).settleActivation else s
    | .check => (s.takeCheckResult h a.lfs).endCheckIfDue
  else s

/-- ANALYSIS_COMPLETION: the outputs are fixed, the half is freed, the result is handed over, and the next window begins (R79). -/
def execAnalysisCompletion : State → Host.Outcome State Fault Refusal :=
  unlessHeld fun s =>
    match s.engine.under with
    | none => s
    | some i =>
      let h := s.half i
      let a := analyse h
      let s := ({ s with engine := s.engine.finished a h.length }.freeOne i)
      (s.handOver h a).beginAnalysis

end Sys2Proof.Machine
end

