-- ==== Sys2Proof/Machine/Sampling.lean ====
section
/-! DEFINITION. The events of a sweep: windows, holdoffs, fade-outs, and one sample period of an idle queue (R48 to R72). -/

namespace Sys2Proof.Machine
open Sys2Proof

/-! ### Window begin (R52, R53, R56, R63) -/

/-- WINDOW_BEGIN: the generator plays on to the first post-wrap sample at which a window may begin. A free half takes the
window there; with none free the settle is extended past that sample (R52, R53, R56; assumption log 5). -/
def execWindowBegin : State → Host.Outcome State Fault Refusal :=
  unlessHeld fun s =>
    if s.gen.mode = .settle ∨ (s.gen.mode = .holdoff ∧ s.capture.holdoff.isNone) then
      let s := s.play s.untilWindow
      if s.freeHalf.isSome then s.beginIfDue else s.play 1
    else s

/-! ### Window end (R64 to R70) -/

/-- The samples of a window with their fundamental phases, in sample order (R54, R63). -/
def withPhases (p0 inc : Phase) (samples : List Sample) : List (Int × Phase) :=
  samples.zipIdx.map fun x => (x.1.toInt, BitVec.ofNat 32 (p0.toNat + x.2 * inc.toNat))

/-- The greatest magnitude of a list of samples (R63). -/
def peakOf (samples : List Sample) : Nat := samples.foldl (fun p x => max p x.toInt.natAbs) 0

/-- A half with the samples of its window recorded: the ambient peak is tracked for a nest with the microphone fitted (R63). -/
def Half.recorded (fitted : Bool) (samples : List (Sample × Sample)) (h : Half) : Half :=
  { h with
    samples := withPhases h.p0 h.inc (samples.map (·.1))
    peak := peakOf (samples.map (·.1))
    ambient :=
      match h.claimant, fitted with
      | .nest _, true => peakOf (samples.map (·.2))
      | _, _ => 0 }

/-- The guard level in cdB SPL (R66). -/
def guardLevel (peak : Nat) (offset : Int) : Int :=
  (if peak = 0 then -15000 else log1000 (peak ^ 2) (Config.fullScale ^ 2)) + offset

/-- Whether the guard check is applied to a window and finds it contaminated (R66). -/
def State.contaminated (h : Half) (g : Guard) (s : State) : Bool :=
  s.straps.ambient && h.guard &&
  decide (g.threshold < guardLevel h.ambient ((s.capture.active.map (·.ambient)).getD 0))

/-- The record of a point that ends without analysis (R65, R69). -/
def unmeasured (st : PointStatus) (h : Half) : PointRecord where
  index := h.point
  freq := h.freq
  status := st
  attempts := h.attempt
  spl := none
  thd := none
  rnb := none
  rel := none

/-- An overloaded window: its half freed, its point ended as OVERLOAD (R65). -/
def State.endOverload (n : NestId) (i : HalfId) (h : Half) (s : State) : State :=
  (((s.freeOne i).offerRecord n h.tag (unmeasured .overload h)).count Counts.addOverload).stepOn

/-- A contaminated window with a retry left: re-measured after a holdoff (R56, R67, R68). -/
def State.endContaminated (i : HalfId) (g : Guard) (s : State) : State :=
  let s := (s.freeOne i).count Counts.addGuardHit
  (s.modCapture fun c => { c with attempt := c.attempt + 1, holdoff := some (Config.samplesPerMs * g.holdoffMs) }).modGen
    fun x => { x with mode := .holdoff }

/-- A contaminated window with no retry left: its point ended as NOISY (R69). -/
def State.endNoisy (n : NestId) (i : HalfId) (h : Half) (s : State) : State :=
  (((s.freeOne i).offerRecord n h.tag (unmeasured .noisy h)).count Counts.addNoisy).stepOn

/-- A window that goes to the Analysis Engine (R70, R78). -/
def State.endClean (i : HalfId) (s : State) : State := (s.queueHalf i).stepOn.beginAnalysis

/-- The checks at the end of a window in half `i`, and the decision (R64). -/
def State.decideWindow (i : HalfId) (s : State) : State :=
  let h := s.half i
  match h.claimant, s.plan with
  | .check, _ => s.endClean i
  | .nest _, none => s
  | .nest n, some c =>
    if c.guard.overload ≤ h.peak then s.endOverload n i h
    else if s.contaminated h c.guard then
      if h.attempt ≤ c.guard.retries then s.endContaminated i c.guard else s.endNoisy n i h
    else s.endClean i

/-- WINDOW_END: the rest of the window is played, its samples stand in the half, and the checks are made (R54, R64). A list
that does not hold the window's N samples is not the end of this window (assumption log 6). -/
def execWindowEnd (samples : List (Sample × Sample)) : State → Host.Outcome State Fault Refusal :=
  unlessHeld fun s =>
    match s.gen.mode, s.fillingHalf with
    | .window, some i =>
      if samples.length = (s.half i).length then
        let s := s.play ((s.half i).length - s.gen.windowPlayed)
        (s.modHalf i (Half.recorded s.straps.ambient samples)).decideWindow i
      else s
    | _, _ => s

/-! ### Holdoff, run-out and fade-out (R51, R56, R57, R59, R68) -/

/-- HOLDOFF_END: the holdoff timer expires before the sample of its last period is formed, so that sample may begin the next
window (R56, R68; assumption log 7). -/
def execHoldoffEnd : State → Host.Outcome State Fault Refusal :=
  unlessHeld fun s =>
    match s.gen.mode, s.capture.holdoff with
    | .holdoff, some c => (s.play (c - 1)).modCapture fun x => { x with holdoff := none }
    | _, _ => s

/-- RUN_OUT_FADE_OUT: the first post-wrap sample after a stop request begins the fade-out (R59). -/
def execRunOutFadeOut : State → Host.Outcome State Fault Refusal :=
  unlessHeld fun s =>
    if s.gen.mode = .runOut then (s.play (s.gen.nextPostWrap 0)).beginFadeOut else s

/-- What the last fade-out sample brings (R29, R57): a nest enters ANALYSING, the chain is freed, the verdict is made when no
window is outstanding, the next claimant is granted, and a pending activation follows; a CHAIN CHECK may end. -/
def State.endFadeOut (s : State) : State :=
  match s.gen.claimant with
  | some (.nest n) =>
    let s := (s.fallSilent.modNest n fun x => { x with state := .analysing }).freeChain
    if s.outstanding n = 0 then ((s.makeVerdict n).grantHead).settleActivation else s.grantHead
  | some .check => (s.fallSilent.modChain fun x => { x with checkFaded := true }).endCheckIfDue
  | none => s.fallSilent

/-- LAST_FADE_OUT_SAMPLE: the rest of the fade-out is played and the sweep ends (R57). -/
def execLastFadeOutSample : State → Host.Outcome State Fault Refusal :=
  unlessHeld fun s =>
    if s.gen.mode = .fadeOut then (s.play (Config.rampSamples - s.gen.ramp)).endFadeOut else s

/-! ### One sample period (R48, assumption log 4) -/

/-- One sample period of the part with no command waiting: a window or a fade-out that is due begins, one sample is formed,
and a fade-out that has ended ends the sweep. A window whose samples have all been played waits for its WINDOW_END. -/
def State.tick (s : State) : State :=
  if s.held then s
  else
    match s.gen.mode with
    | .silent => s
    | .settle | .holdoff => s.beginIfDue.play 1
    | .window =>
      match s.fillingHalf with
      | some i => if s.gen.windowPlayed < (s.half i).length then s.play 1 else s
      | none => s
    | .runOut => (if s.gen.postWrap then s.beginFadeOut else s).play 1
    | .fadeOut =>
      let s := s.play 1
      if Config.rampSamples ≤ s.gen.ramp then s.endFadeOut else s

end Sys2Proof.Machine
end

