-- ==== Sys2Proof/Machine/Reads.lean ====
section
/-! DEFINITION. The reading requests and their bodies, with READ EVENTS, SET MASK and IDENTIFY (R24, R82, R95, R125, R144,
R145, R166, R176, R177, R179, R181, R183, R184). -/

namespace Sys2Proof.Machine
open Sys2Proof

/-! ### READ NEST (R24, R82, R181) -/

/-- The code of a unit kind in the nest summary; 0 while EMPTY (R181). -/
def kindCode : Option UnitKind → Nat
  | some .reference => 1
  | some .production | none => 0

/-- The code of a verdict in the nest summary (R181). -/
def verdictCode : Option Verdict → Nat
  | none => 0
  | some .pass => 1
  | some .fail => 2
  | some .retest => 3

/-- The code of a reference state (R181). -/
def refStateCode : RefState → Nat
  | .none => 0
  | .awaited => 1
  | .valid => 2
  | .notValid => 3

/-- The code of a generator mode (R181). -/
def genModeCode : GenMode → Nat
  | .silent => 0
  | .settle => 1
  | .window => 2
  | .holdoff => 3
  | .runOut => 4
  | .fadeOut => 5

/-- The code of the claimant of the half under analysis (R181). -/
def claimantCode : Claimant → Nat
  | .nest .a => 1
  | .nest .b => 2
  | .check => 3

/-- Whether nest `n` holds the chain (R49). -/
def State.holdsChain (n : NestId) (s : State) : Bool := s.chain.holder = some (.nest n)

/-- Four bytes of fail reasons: entry j in byte j/2, low nibble for even j; a nibble of 0 ends the list (R181). -/
def failNibbles (l : List Nat) : List Byte :=
  ((List.range 4).map fun i => byte (l.getD (2 * i) 0 + 16 * l.getD (2 * i + 1) 0)).flatten

/-- Detected reasons: bit k − 1 for code k (R181). -/
def detectedBits (l : List Nat) : Nat := l.foldl (fun a k => a ||| 2 ^ (k - 1)) 0

/-- Unstated bytes of a nest summary: bin while no verdict stands, absent ticket, absent margins. -/
def nestUnstated : Nat := 19

/-- Bytes 0 to 13 of the nest summary (R181). -/
def State.nestHead (n : NestId) (s : State) : List Byte :=
  let x := s.nest n
  let bin := (x.bin.getD ((Config.unstatedByte s.freeCount).toNat)) % 16
  byte (nestStateCode x.state + 8 * kindCode x.kind + 16 * verdictCode x.verdict + 64 * x.causeNoisy.toNat +
    128 * x.causeOverload.toNat) ++
  byte (refStateCode x.refState + 4 * (if s.holdsChain n then genModeCode s.gen.mode else 7) +
    32 * s.engine.under.isSome.toNat + 64 * s.outstanding n) ++
  leSerial x.serial ++
  byte (x.attempt.getD 0 + 8 * bin + 128 * x.ticket.isSome.toNat) ++
  le 2 x.tag.toNat ++ byte x.slots.length ++ byte (x.slots.countP (·.isSome)) ++
  byteOrFF (if s.holdsChain n then some s.gen.cursor else none) ++
  byte (x.overflow + 8 * x.worst.length) ++
  byte (match s.engine.under with | some h => claimantCode (s.half h).claimant | none => 0) ++
  byteOrFF (s.engine.under.map fun h => (s.half h).point)

/-- One worst-margin entry (R181); `i` is the place of its unstated bytes. -/
def State.worstBytes (s : State) (i : Nat) : Option Worst → List Byte
  | some w => leSigned w.margin ++ byte w.point
  | none => s.unstated i 2 ++ byte 0xFF

/-- Bytes 14 to 56 of the nest summary (R181). The subcode of an absent start refusal reads FFh, as R180 encodes an absent one-byte
field (DEDUCED, assumption log 41). -/
def State.nestTail (n : NestId) (s : State) : List Byte :=
  let x := s.nest n
  failNibbles x.failList ++ le 2 (detectedBits x.detected) ++
  (match x.ticket with | some t => le 2 t.toNat | none => s.unstated 1 2) ++
  (match x.lastRefusal with
    | some r => byte (statusCode r.status) ++ byte r.subcode
    | none => byte 0 ++ byteOrFF none) ++
  ((List.range 8).map fun c => byte (x.judged.getD c []).length).flatten ++
  ((List.range 8).map fun c => s.worstBytes (3 + 2 * c) ((x.worst[c]?).join)).flatten ++
  byte (((List.range 8).map fun c =>
    if (((x.worst[c]?).join).map (·.saturated)).getD false then 2 ^ c else 0).sum)

/-- READ NEST as the Nest Controller takes it (R24). -/
def takeReadNest (p : PortId) (q : Vector Byte 64) (s : State) : State :=
  match nestOf (u8At q.toList 0) with
  | none => s.refuse p .badParam 0
  | some n => (s.ok p (s.nestHead n ++ s.nestTail n)).spendUnstated nestUnstated

/-! ### READ POINTS (R95, R181) -/

/-- The code of a point status (R181). -/
def pointStatusCode : PointStatus → Nat
  | .valid => 0
  | .noisy => 1
  | .overload => 2
  | .noSignal => 3
  | .skipped => 4

/-- The 13 bytes of a returned slot (R181). -/
def slotBytes (index : Nat) : Option PointRecord → List Byte
  | some r =>
    byte r.index ++ le 3 r.freq ++ byte (pointStatusCode r.status + 8 * r.attempts) ++ leLevel r.spl ++ leLevel r.thd ++
    leLevel r.rnb ++ leLevel r.rel
  | none => byte index ++ le 3 0 ++ byte 7 ++ leLevel none ++ leLevel none ++ leLevel none ++ leLevel none

/-- READ POINTS as the Nest Controller takes it (R95). -/
def takeReadPoints (p : PortId) (q : Vector Byte 64) (s : State) : State :=
  let start := u8At q.toList 1
  match nestOf (u8At q.toList 0) with
  | none => s.refuse p .badParam 0
  | some n =>
    if 127 < start then s.refuse p .badParam 1
    else
      let x := s.nest n
      let slots := (x.slots.drop start).take 4
      s.ok p (le 2 x.tag.toNat ++ byte x.slots.length ++ byte start ++ byte slots.length ++
        ((slots.zipIdx start).map fun y => slotBytes y.2 y.1).flatten)

/-! ### READ ACCOUNTS (R144, R184) -/

/-- The twelve unit accounts, in TOTALS order (R184). -/
def Counts.totals (c : Counts) : List (BitVec 32) :=
  [c.issued, c.firstPass, c.retestPass, c.finalFail, c.expired, c.releasedUntested, c.aborted, c.failVerdicts,
   c.retestVerdicts, c.guardHits, c.noisyPoints, c.overloadPoints]

/-- Counts one after another (R184). -/
def leCounts (l : List (BitVec 32)) : List Byte := (l.map leCount).flatten

/-- The code of a completion kind (R184). -/
def completionCode : Completion → Nat
  | .firstPass => 1
  | .retestPass => 2
  | .finalFail => 3
  | .expired => 4

/-- The SUMMARY page (R144, R184). -/
def State.summaryBody (s : State) : List Byte :=
  let a := s.accounts
  leCount a.counts.refTests ++ leCount a.counts.refPass ++ leCount a.counts.endedField ++ leYield a.counts.firstYield ++
  leYield a.counts.finalYield ++ byte s.units.retest.length ++ byte s.unsettledUnits ++ le 2 a.shift ++
  byte a.shifts.length ++ byte a.ring.length ++ byte s.ringFirstPass ++ le 2 a.ringSeq.toNat ++ byteOrFF s.alarmLimit ++
  flag s.yieldAlarm

/-- The RING page from a start position (R144, R184). -/
def State.ringBody (start : Nat) (s : State) : List Byte :=
  let entries := (s.accounts.ring.drop start).take 8
  le 2 s.accounts.ringSeq.toNat ++ byte start ++ byte entries.length ++
  (entries.map fun e => le 3 e.serial ++ byte (completionCode e.kind)).flatten

/-- READ ACCOUNTS as the Yield Accounts take it (R144). -/
def takeReadAccounts (p : PortId) (q : Vector Byte 64) (s : State) : State :=
  let page := u8At q.toList 0
  let start := u8At q.toList 1
  let c := s.accounts.counts
  if page = 0 then s.ok p (byte 0 ++ leCounts c.totals)
  else if page = 1 then s.ok p (byte 1 ++ leCounts (c.bins.toList.take 8))
  else if page = 2 then s.ok p (byte 2 ++ leCounts (c.bins.toList.drop 8))
  else if page = 3 then s.ok p (byte 3 ++ s.summaryBody)
  else if page = 4 then
    if 63 < start then s.refuse p .badParam 1 else s.ok p (byte 4 ++ s.ringBody start)
  else s.refuse p .badParam 0

/-! ### READ SHIFT (R145, R184) -/

/-- The code of a close reason (R184). -/
def closeReasonCode : CloseReason → Nat
  | .requested => 1
  | .planChange => 2

/-- A part of a shift record: 0 HEADER, 1 DELTAS, 2 BINS_LOW, 3 BINS_HIGH (R145, R184). -/
def ShiftRecord.part (r : ShiftRecord) (part : Nat) : List Byte :=
  if part = 0 then
    byte (closeReasonCode r.reason) ++ lePlanId r.planId ++ leCount r.deltas.refTests ++ leCount r.deltas.refPass ++
    leCount r.deltas.endedField ++ leYield r.firstYield ++ leYield r.finalYield
  else if part = 1 then leCounts r.deltas.totals
  else if part = 2 then leCounts (r.deltas.bins.toList.take 8)
  else leCounts (r.deltas.bins.toList.drop 8)

/-- The length of a part, which an absent record fills with 0 (R184). -/
def shiftPartLength (part : Nat) : Nat := if part = 0 then 22 else if part = 1 then 48 else 32

/-- READ SHIFT as the Yield Accounts take it (R145). Position 0 is the record closed most recently. Every reply carries the
current shift number and the number of records held; a refused one carries them alone (R145, R173; assumption log 40). -/
def takeReadShift (p : PortId) (q : Vector Byte 64) (s : State) : State :=
  let pos := u8At q.toList 0
  let part := u8At q.toList 1
  let head := le 2 s.accounts.shift ++ byte s.accounts.shifts.length
  if 7 < pos then s.answer p .badParam 0 head
  else if 3 < part then s.answer p .badParam 1 head
  else
    match s.accounts.shifts.reverse[pos]? with
    | some r => s.ok p (head ++ byte 1 ++ le 2 r.number ++ byte part ++ r.part part)
    | none => s.ok p (head ++ byte 0 ++ le 2 0 ++ byte part ++ List.replicate (shiftPartLength part) 0)

/-! ### READ MARKER (R166, R183, R184) -/

/-- A job record of 22 bytes (R183); `i` is the place of its unstated bytes. -/
def State.jobBytes (i : Nat) (j : Job) (s : State) : List Byte :=
  let m := j.margins
  let present := ((List.range 4).map fun c => if ((m[c]?).join).isSome then 2 ^ (4 + c) else 0).sum
  (match j.ticket with | some t => le 2 t.toNat | none => s.unstated i 2) ++ le 3 j.serial ++
  byte ((match j.nest with | .a => 0 | .b => 1) + 2 * j.fails.toNat + 4 * roleBit j.role + 8 * j.reprint.toNat + present) ++
  byte (j.bin + 16 * j.attempt) ++ le 2 j.shift ++ le 4 j.planId.toNat ++ byte j.restarts ++
  ((List.range 4).map fun c =>
    match (m[c]?).join with
    | some v => leSigned v
    | none => s.unstated (i + 2 + 2 * c) 2).flatten

/-- One device of the DEVICES page (R184); `i` is the place of its unstated bytes. Absent ability bytes read FFh, as R180
encodes an absent one-byte field (DEDUCED, assumption log 41). -/
def State.deviceBytes (i : Nat) (d : Device) (s : State) : List Byte :=
  byte d.address ++
  byte (d.stateBits + 32 * d.toggle.toNat + 64 * d.history.isSome.toNat + 128 * d.abilities.isSome.toNat) ++
  byte (d.resolved.getD 0 + 4 * d.naks) ++
  (match d.abilities with
    | some a => [a.version, a.formats, a.maxPages, a.kind]
    | none => List.replicate 4 0xFF) ++
  (match d.history.bind (·.ticket) with
    | some t => le 2 t.toNat
    | none => s.unstated i 2)

/-- The DEVICES page (R184). -/
def State.devicesBody (s : State) : List Byte :=
  byte s.marker.devices.length ++ ((s.marker.devices.zipIdx.map fun x => s.deviceBytes (2 * x.2) x.1)).flatten

/-- The QUEUE page (R184). -/
def State.queueBody (s : State) : List Byte :=
  let m := s.marker
  let restarts :=
    match m.queue with
    | j :: _ => j.restarts
    | [] => (Config.unstatedByte s.freeCount).toNat % 4
  byte m.queue.length ++ byteOrFF m.head.bound ++ byteOrFF (if m.queue.isEmpty then none else some m.head.page) ++
  byte (restarts + 4 * m.head.busyWait.toNat + 8 * m.head.timer.isSome.toNat) ++
  ((m.queue.zipIdx.map fun x =>
    (match x.1.ticket with | some t => le 2 t.toNat | none => s.unstated (1 + 2 * x.2) 2) ++
    le 3 x.1.serial ++ byte (roleBit x.1.role + 2 * x.1.reprint.toNat))).flatten

/-- The COUNTERS page (R184). -/
def countersBody (m : Marker) : List Byte :=
  leCount m.enqueued ++ leCount m.done ++ leCount m.failed ++ leCount m.dropped ++ le 2 m.ticket.toNat ++
  flag m.bus.isSome ++ byte m.waitList.length ++
  (m.waitList.map fun w =>
    byte ((match w.nest with | .a => 0 | .b => 1) + 2 * roleBit w.job.role) ++ le 3 w.job.serial).flatten

/-- The code of a failure cause (R184). -/
def jobFaultCode : JobFault → Nat
  | .noDevice => 1
  | .deviceReject => 2
  | .restartLimit => 3
  | .timeout => 4

/-- The FAILED page; every field of an absent job reads 0 (R184). -/
def State.failedBody (s : State) : List Byte :=
  match s.marker.lastFailed with
  | some f => byte 1 ++ byte (jobFaultCode f.cause) ++ byteOrFF f.device ++ byte f.page ++ s.jobBytes 0 f.job
  | none => List.replicate 26 0

/-- The HISTORY page of a device index (R166, R184). -/
def State.historyBody (d : Nat) (s : State) : List Byte :=
  match (s.marker.devices[d]?).bind (·.history) with
  | some j => byte d ++ byte 1 ++ s.jobBytes 0 j
  | none => byte d ++ byte 0 ++ List.replicate 22 0

/-- Unstated bytes of a READ MARKER reply, at most. -/
def markerUnstated : Nat := 24

/-- READ MARKER as the Marker Controller takes it (R166). -/
def takeReadMarker (p : PortId) (q : Vector Byte 64) (s : State) : State :=
  let page := u8At q.toList 0
  let d := u8At q.toList 1
  if page = 0 then (s.ok p (byte 0 ++ s.devicesBody)).spendUnstated markerUnstated
  else if page = 1 then (s.ok p (byte 1 ++ s.queueBody)).spendUnstated markerUnstated
  else if page = 2 then s.ok p (byte 2 ++ countersBody s.marker)
  else if page = 3 then (s.ok p (byte 3 ++ s.failedBody)).spendUnstated markerUnstated
  else if page = 4 then
    if 3 < d then s.refuse p .badParam 1 else (s.ok p (byte 4 ++ s.historyBody d)).spendUnstated markerUnstated
  else s.refuse p .badParam 0

/-! ### READ UNIT TABLE (R125, R184) -/

/-- The code of the last reference outcome (R184). -/
def refOutcomeCode : Option RefOutcome → Nat
  | none => 0
  | some .granted => 1
  | some .notQualified => 2
  | some .failed => 3

/-- A retest list entry (R184). Bit 7 of its last byte, which R184 gives no field, reads 0 (DESIGN CHOICE, assumption log 43). -/
def retestBytes (e : RetestEntry) : List Byte :=
  le 3 e.serial ++ byte (e.attempts + 4 * (decide (e.verdict = .retest)).toNat + 8 * e.bin)

/-- READ UNIT TABLE as the Unit Table takes it (R125). Bits 5 to 7 of the flags, which R184 gives no field, read 0 (DESIGN CHOICE,
assumption log 43). -/
def takeReadUnitTable (p : PortId) (q : Vector Byte 64) (s : State) : State :=
  let start := u8At q.toList 0
  let u := s.units
  if 31 < start then s.refuse p .badParam 0
  else
    let entries := (u.retest.drop start).take 8
    s.ok p (le 3 u.serialCounter ++ le 2 u.remaining ++ leWordOrFFFF (s.plan.map (·.policy.windowLength)) ++
      byte (s.verified.toNat + 2 * u.qualifiedA.toNat + 4 * u.qualifiedB.toNat + 8 * refOutcomeCode u.lastReference) ++
      byte u.failCount ++ byteOrFF (s.plan.map (·.policy.failLimit)) ++
      leSerial (u.heldA.map (·.serial)) ++ leSerial (u.heldB.map (·.serial)) ++
      byte u.retest.length ++ le 2 u.listSequence.toNat ++ byte start ++ byte entries.length ++
      (entries.map retestBytes).flatten)

/-! ### READ EVENTS, SET MASK, IDENTIFY (R175 to R177, R179) -/

/-- The event word: the sixteen events, and STATION_VERIFIED in bit 16 (R176, R180). -/
def State.eventWord (p : PortId) (s : State) : Nat := (s.port p).events.toNat + 65536 * (s.reportedVerified p).toNat

/-- READ EVENTS: the reply is formed, the port's events are cleared, and its unverified mark takes the current status (R175,
R176). -/
def takeReadEvents (p : PortId) (_ : Vector Byte 64) (s : State) : State :=
  (s.ok p (le 4 (s.eventWord p) ++ le 4 (s.port p).mask.toNat)).modPort p fun x =>
    { x with events := 0, unverified := !s.verified }

/-- SET MASK (R177). -/
def takeSetMask (p : PortId) (q : Vector Byte 64) (s : State) : State :=
  (s.modPort p fun x => { x with mask := BitVec.ofNat 32 (u32At q.toList 0) }).ok p (le 4 (s.port p).mask.toNat)

/-- The Line Port target address (R169, R187). -/
def State.lineAddress (s : State) : Nat := Config.lineAddressBase + s.straps.address.toNat

/-- IDENTIFY (R179). -/
def takeIdentify (p : PortId) (_ : Vector Byte 64) (s : State) : State :=
  s.ok p (le 2 Config.partNumber ++ byte Config.siliconRevision ++ byte (match p with | .station => 1 | .line => 2) ++
    byte s.lineAddress ++ flag s.straps.ambient ++ byte (loaderStateCode s.loader.state) ++
    lePlanId (s.loader.active.map (·.content.id)) ++ lePlanId (s.loader.staged.map (·.content.id)) ++
    flag s.capture.active.isSome ++ flag s.capture.pending.isSome ++ le 2 s.accounts.shift)

end Sys2Proof.Machine
end

