-- ==== Sys2Proof/Machine/Station.lean ====
section
/-! DEFINITION. The station computer's requests on calibration, the chain check, the serial base, shifts, the marker link and
the whole station, and REPRINT (R38, R74 to R76, R117, R141, R151, R164, R178). -/

namespace Sys2Proof.Machine
open Sys2Proof

/-! ### CALIBRATE (R74, R76) -/

/-- An offset clamped to 5,000 to 16,000 cdB (R74). -/
def clampOffset (v : Int) : Int := clampTo 5000 16000 v

/-- A calibration record's three offsets (R185). -/
def calibrationBytes (c : Calibration) : List Byte := leSigned c.micA ++ leSigned c.micB ++ leSigned c.ambient

/-- Whether a nest holds the chain (R74). -/
def State.nestHoldsChain (s : State) : Bool :=
  match s.chain.holder with
  | some (.nest _) => true
  | some .check | none => false

/-- CALIBRATE as the Capture Unit takes it: the record becomes pending while a nest holds the chain, active otherwise, and
verification is withdrawn (R74, R76). -/
def takeCalibrate (p : PortId) (q : Vector Byte 64) (s : State) : State :=
  let a := s16At q.toList 0
  let b := s16At q.toList 2
  let m := s16At q.toList 4
  let r : Calibration := ⟨clampOffset a, clampOffset b, clampOffset m⟩
  let st := if r = ⟨a, b, m⟩ then Status.ok else Status.clamped
  let pend := s.nestHoldsChain
  let s :=
    if pend then s.modCapture fun c => { c with pending := some r }
    else s.modCapture fun c => { c with active := some r, pending := none }
  s.withdraw.answer p st 0
    (calibrationBytes r ++ byte (if pend then 2 else 1) ++ flag s.capture.active.isSome ++
      (match s.capture.active with
        | some c => calibrationBytes c
        | none => List.replicate 6 0))

/-! ### CHAIN CHECK, SERIAL BASE, CLOSE SHIFT (R38, R117, R141) -/

/-- CHAIN CHECK joins the tail of the chain queue; its slot stays RUNNING (R38). -/
def takeChainCheck (_ : PortId) (_ : Vector Byte 64) (s : State) : State := s.joinQueue .check

/-- SERIAL BASE (R117). -/
def takeSerialBase (p : PortId) (q : Vector Byte 64) (s : State) : State :=
  let base := u32At q.toList 0
  if base < 1 ∨ 16777215 < base then s.refuse p .badParam 0
  else (s.modUnits fun u => { u with serialCounter := base }).ok p (le 3 s.units.serialCounter ++ le 3 base)

/-- CLOSE SHIFT (R141). -/
def takeCloseShift (p : PortId) (_ : Vector Byte 64) (s : State) : State :=
  let r := s.shiftRecord .requested
  let t := s.closeShift .requested
  t.ok p (le 2 r.number ++ leYield r.firstYield ++ leYield r.finalYield ++ le 2 t.accounts.shift)

/-! ### MARKER START and REPRINT (R151, R164) -/

/-- MARKER START: every device is negotiated; with an empty table the request completes as soon as it is taken (R151). -/
def takeMarkerStart (p : PortId) (_ : Vector Byte 64) (s : State) : State :=
  if s.plan.isNone then s.refuse p .noPlan 0
  else if s.marker.devices.isEmpty then s.ok p (markerStartBody s.marker)
  else (s.modMarker Marker.negotiateAll).startBus

/-- REPRINT: a copy of the device's history job enters the queue with the reprint flag set (R164). -/
def takeReprint (p : PortId) (q : Vector Byte 64) (s : State) : State :=
  let d := u8At q.toList 0
  if 3 < d then s.refuse p .badParam 0
  else
    match (s.marker.devices[d]?).bind (·.history) with
    | none => s.refuse p .noHistory 0
    | some j =>
      if 8 ≤ s.marker.queue.length then s.refuse p .queueFull 0
      else (s.enqueue { j with reprint := true, restarts := 0 }).ok p (le 2 (s.marker.ticket + 1).toNat)

/-! ### STATION RESET (R178) -/

/-- The event lines at STATION RESET: the map from the active plan, the virtual levels at their defaults (R41 to R43). -/
def State.resetLines (s : State) : State :=
  let s := s.remapLines
  { s with lines := s.lines.defaults }

/-- Every block at its STATION RESET values (R178). The window attempt keeps its value until the next grant (R68; assumption log
42). -/
def State.resetBlocks (s : State) : State :=
  let s := s.resetLines
  { s with
    loader := { Loader.reset with active := s.loader.active }
    nestA := Nest.reset
    nestB := Nest.reset
    chain := Chain.reset
    gen := Generator.reset
    capture := { Capture.reset with active := s.capture.active, attempt := s.capture.attempt }
    engine := Engine.reset
    units := { UnitTable.reset with serialCounter := s.units.serialCounter }
    accounts := Accounts.reset
    marker := { Marker.reset with devices := s.planDevices.map newDevice } }

/-- A Line Port request not yet taken is ended by STATION RESET (R178). -/
def State.endLineRequest (s : State) : State :=
  match s.line.running with
  | some r => if r.taken then s else s.answerLate .line .abandoned 0 []
  | none => s

/-- STATION RESET (R178). -/
def takeStationReset (p : PortId) (_ : Vector Byte 64) (s : State) : State :=
  let s := (s.resetBlocks.endLineRequest.latchBoth .reset).markUnverified
  s.ok p (leSerial (if s.units.serialCounter = 0 then none else some s.units.serialCounter) ++
    lePlanId (s.loader.active.map (·.content.id)))

end Sys2Proof.Machine
end

