-- ==== Sys2Proof/Machine/Ports.lean ====
section
/-! DEFINITION. The port windows and the request slots: host writes and reads, the start and the taking of a request,
collisions and ABANDON (R167 to R173, R180). -/

namespace Sys2Proof.Machine
open Sys2Proof

/-! ### Writes to the window (R167 to R169) -/

/-- Where a read addressed without an offset byte continues after a transaction of `n` bytes from offset `start` (R169); offsets
do not wrap. A Line Port write of the offset byte alone has no last byte, and the pointer stays at that offset: R169 leaves it open
(DESIGN CHOICE, assumption log 31), as it does the pointer after a write phase that breaks off in a byte. -/
def Port.readFrom (p : PortId) (start n : Nat) (q : Port) : Port :=
  match p with
  | .station => q
  | .line => { q with readOffset := min 256 (start + n) }

/-- `bs` written to the parameter area from byte `i` upward (R167). -/
def Port.putParams (i : Nat) (bs : List Byte) (q : Port) : Port := { q with params := writeBytes q.params i bs }

/-- The window after a write of `params` and a code (R167, R169). -/
def Port.written (p : PortId) (params : List Byte) (q : Port) : Port :=
  (q.putParams 0 params).readFrom p 1 (if params.isEmpty then 1 else 0x3F + params.length)

/-- The data bytes of a write from `start` that fall in the parameter area, offsets 40h to 7Fh (R167). -/
def paramBytes (start : Nat) (data : List Byte) : List Byte := data.drop (0x40 - start)

/-- The data byte of a write from `start` that falls on offset 01h, if one does (R167). -/
def codeByte (start : Nat) (data : List Byte) : Option Byte := if start ≤ 1 then data[1 - start]? else none

/-! ### Taking a request (R170) -/

/-- What the owning block does with a request it takes (R170). ABANDON is taken by the port itself (R172). -/
def takeOf : Request → PortId → Vector Byte 64 → State → State
  | .planOpen => takePlanOpen
  | .planData => takePlanData
  | .planClose => takePlanClose
  | .planActivate => takePlanActivate
  | .planRevoke => takePlanRevoke
  | .calibrate => takeCalibrate
  | .chainCheck => takeChainCheck
  | .serialBase => takeSerialBase
  | .closeShift => takeCloseShift
  | .markerStart => takeMarkerStart
  | .stationReset => takeStationReset
  | .loadUnit => takeLoadUnit
  | .releaseNest => takeReleaseNest
  | .lineEvent => takeLineEvent
  | .startNest => takeStartNest
  | .abortNest => takeAbortNest
  | .reprint => takeReprint
  | .readNest => takeReadNest
  | .readPoints => takeReadPoints
  | .readAccounts => takeReadAccounts
  | .readShift => takeReadShift
  | .readMarker => takeReadMarker
  | .readUnitTable => takeReadUnitTable
  | .readEvents => takeReadEvents
  | .setMask => takeSetMask
  | .identify => takeIdentify
  | .abandon => fun _ _ s => s

/-- The running request is marked as taken by its block (R172). -/
def Port.markTaken (q : Port) : Port := { q with running := q.running.map fun r => { r with taken := true } }

/-- The owning block takes the request that waits on port `p`, if one does (R170). -/
def State.takeRunning (p : PortId) (s : State) : State :=
  match (s.port p).running with
  | some r => if r.taken then s else takeOf r.request p r.params (s.modPort p Port.markTaken)
  | none => s

/-! ### Starting a request (R170, R171, R173) -/

/-- The slot at the start of a request: the sequence advances, the code is the last started, and the slot is RUNNING (R170). -/
def Port.start (code : Byte) (q : Port) : Port :=
  { q with slot := .running, lastCode := code, sequence := q.sequence + 1, running := none }

/-- The request that starts copies the parameter area (R170). -/
def Port.carry (r : Request) (q : Port) : Port := { q with running := some ⟨r, q.params, false⟩ }

/-- The port judges the code of the request it has started, and answers it itself or carries it to its block (R170, R173). -/
def State.judgeCode (p : PortId) (code : Byte) (t : Taking) (s : State) : State :=
  match requestOf code with
  | none => s.refuse p .unknownRequest 0
  | some r =>
    if onPort p r then
      let s := s.modPort p (Port.carry r)
      match t with
      | .atOnce => s.takeRunning p
      | .later => s
    else s.refuse p .notOnThisPort 0

/-- A request code other than that of ABANDON written to the slot of port `p` (R170, R171). -/
def State.startRequest (p : PortId) (code : Byte) (t : Taking) (s : State) : State :=
  if (s.port p).slot = .running then s.latchOn p .collision
  else (s.modPort p (Port.start code)).judgeCode p code t

/-! ### ABANDON (R17, R38, R40, R151, R172) -/

/-- The request of port `p` ends with status ABANDONED and a body, in the slot state given; nothing is latched (R172). -/
def State.endAbandoned (p : PortId) (body : List Byte) (slot : SlotState) (s : State) : State :=
  s.modPort p (Port.answered .abandoned 0 body slot)

/-- A running PLAN CLOSE is abandoned: its checks stop and the loader is RECEIVING again (R17). The reply's loader fields stand
as the abandon leaves them (DESIGN CHOICE, assumption log 34). -/
def State.abandonClose (p : PortId) (s : State) : State :=
  let s := s.modLoader Loader.receiveAgain
  s.endAbandoned p (loaderBody s.loader) .done

/-- A CHAIN CHECK is abandoned: it leaves the queue, or stops at once and frees the chain (R19, R38, R40). -/
def State.abandonCheck (p : PortId) (s : State) : State :=
  if s.chain.holder = some .check then
    ((((s.silence.freeWindows .check).freeChain).endAbandoned p [] .done).grantHead).settleActivation
  else (s.leaveQueue .check).endAbandoned p [] .done

/-- A NEGOTIATING device is DOWN when MARKER START is abandoned (R151). -/
def Device.standDown (d : Device) : Device :=
  if d.state = .negotiating then { d with state := .down, naks := 0, retryWait := false } else d

/-- The outcome of a probe under way will be discarded (R151). -/
def Transaction.discardProbe (t : Transaction) : Transaction :=
  match t.work with
  | .probe => { t with fate := .discarded }
  | .page _ _ => t

/-- Whether the head job is bound to a device that is NEGOTIATING (R160). -/
def Marker.headNegotiating (m : Marker) : Bool :=
  match m.head.bound.bind fun i => m.devices[i]? with
  | some d => d.state = .negotiating
  | none => false

/-- A MARKER START is abandoned: the devices that are NEGOTIATING stand down, and a head job bound to one of them is matched
again (R151, R160). -/
def State.abandonMarker (p : PortId) (s : State) : State :=
  let unbind := s.marker.headNegotiating
  let s := s.modMarker fun m =>
    { m with devices := m.devices.map Device.standDown, bus := m.bus.map Transaction.discardProbe }
  ((if unbind then s.rematchHead else s).startBus).endAbandoned p [] .done

/-- ABANDON written to port `p` (R172). -/
def State.abandonRequest (p : PortId) (s : State) : State :=
  match (s.port p).slot, (s.port p).running with
  | .running, some r =>
    if r.taken then
      match r.request with
      | .planClose => s.abandonClose p
      | .chainCheck => s.abandonCheck p
      | .markerStart => s.abandonMarker p
      | .planOpen | .planData | .planActivate | .planRevoke | .calibrate | .serialBase | .closeShift | .stationReset
      | .loadUnit | .releaseNest | .lineEvent | .startNest | .abortNest | .reprint | .readNest | .readPoints
      | .readAccounts | .readShift | .readMarker | .readUnitTable | .readEvents | .setMask | .identify | .abandon =>
        s.endAbandoned p [] .idle
    else s.endAbandoned p [] .idle
  | .running, none | .idle, _ | .done, _ | .refused, _ => s.modPort p fun q => { q with slot := .idle }

/-! ### Host writes (R168, R169, R188) -/

/-- The transaction that a hold has interrupted is over: CS has risen, or a start condition has come (R188). -/
def Port.endLost (q : Port) : Port := { q with lost := false }

/-- Whether port `p` attends to the transaction under way on it: it drives MISO, or acknowledges. It does not in reset, and not in
the rest of a transaction that a hold has interrupted (R186, R188). -/
def State.attends (p : PortId) (s : State) : Bool := !s.held && !(s.port p).lost

/-- A transaction of port `p` that acts by `f`. With its CS fall or its start condition an interrupted one is over, and it is
itself taken: it is the first since the release, or a later one (R188; assumption log 38). -/
def State.transact (p : PortId) (f : State → State) (s : State) : State := f (s.modPort p Port.endLost)

/-- A code written to offset 01h of port `p` (R170 to R172). -/
def State.writeCode (p : PortId) (code : Byte) (t : Taking) (s : State) : State :=
  if code = requestCode .abandon then s.abandonRequest p else s.startRequest p code t

/-- A write of `params` from byte 0 of the parameter area and of the code at offset 01h in one transaction: the parameters are
applied before the code, so that its request starts with them (R168; assumption logs 2, 30). -/
def State.writeRequest (p : PortId) (params : List Byte) (code : Byte) (t : Taking) (s : State) : State :=
  (s.modPort p (Port.written p params)).writeCode p code t

/-- Whether a write transaction is applied: whole, not interrupted by a hold, and with the access byte of a write on the Station
Port (R168, R169, R188). -/
def writeApplies (p : PortId) (access : Byte) (fate : WriteEnd) : Bool :=
  decide (fate = .whole) &&
  match p with
  | .station => access = 1
  | .line => true

/-- A write transaction that is applied: the bytes of the parameter area, then the code if offset 01h is covered; bytes of
other offsets are ignored (R167 to R169). -/
def State.writeWindow (p : PortId) (start : Nat) (data : List Byte) (s : State) : State :=
  let s := s.modPort p fun q => (q.putParams (start - 0x40) (paramBytes start data)).readFrom p start data.length
  match codeByte start data with
  | some code => s.writeCode p code .later
  | none => s

/-- The write of a request on port `p`, as its transaction ends (R168, R169, R188). -/
def State.hostRequest (p : PortId) (params : List Byte) (code : Byte) (t : Taking) : State → State :=
  State.transact p (State.writeRequest p params code t)

/-- A transaction of port `p` that is no request's write, as it ends; of one that a hold has interrupted no byte is applied (R167
to R169, R188). -/
def State.hostWrite (p : PortId) (access : Byte) (start : Nat) (data : List Byte) (fate : WriteEnd) : State → State :=
  State.transact p fun s => if writeApplies p access fate then s.writeWindow p start data else s

/-! ### Host reads (R167 to R169, R180, R188) -/

/-- The slot status byte (R180). -/
def State.statusByte (p : PortId) (s : State) : Byte :=
  BitVec.ofNat 8 (slotCode (s.port p).slot + 4 * (s.attention p).toNat + 8 * (decide ((s.port p).events ≠ 0)).toNat)

/-- The byte a port's window shows at an offset (R167). -/
def State.windowByte (p : PortId) (offset : Nat) (s : State) : Byte :=
  let q := s.port p
  if offset = 0 then s.statusByte p
  else if offset = 1 then q.lastCode
  else if offset = 2 then q.sequence
  else if 0x40 ≤ offset ∧ offset < 0x80 then q.params.toList.getD (offset - 0x40) 0
  else if 0x80 ≤ offset ∧ offset < 0xC0 then q.reply.toList.getD (offset - 0x80) 0
  else 0

/-- The `n` bytes from an offset; a byte past FFh reads 00h (R168). -/
def State.windowBytes (p : PortId) (start n : Nat) (s : State) : List Byte :=
  (List.range n).map fun k => s.windowByte p (start + k)

/-- What MISO gives in a transaction of the Station Port whose CS falls in this state, with `n` bytes after the start offset, and
the state it leaves; absent in reset. With the fall of CS an interrupted transaction is over (R168, R186, R188). That a write gives
00h, as R168 says of the unknown access bytes, is a DESIGN CHOICE (assumption log 37). -/
def State.stationRead (access : Byte) (start n : Nat) (s : State) : Option (List Byte × State) :=
  if s.held then none
  else some (if access = 2 then s.windowBytes .station start n else List.replicate n 0, s.modPort .station Port.endLost)

/-- What a read of `n` bytes of the Line Port that starts in this state gives, with its offset byte or continuing, and the state it
leaves; absent in reset, where the part does not acknowledge. With the start condition an interrupted transaction is over, and a
read without an offset byte after a release continues from 00h, the pointer's value there (R169, R186, R188). -/
def State.lineRead (offset : Option Byte) (n : Nat) (s : State) : Option (List Byte × State) :=
  if s.held then none
  else
    let start := match offset with
      | some b => b.toNat
      | none => s.line.readOffset
    some (s.windowBytes .line start n, s.modPort .line fun q => (q.readFrom .line start n).endLost)

end Sys2Proof.Machine
end

