-- ==== Sys2Proof/Machine/Requests.lean ====
section
/-! DEFINITION. The request rows: the write of a request's code, with its taking when it is taken at once (R170 to R173,
assumption log 2), the rows that the port answers, and REQUEST_TAKEN. What the owning block does is in its `take` operation. -/

namespace Sys2Proof.Machine
open Sys2Proof

/-- PLAN_OPEN written to port `p` (R10, R170). -/
def execPlanOpen (p : PortId) (params : List Byte) (t : Taking) : State → Host.Outcome State Fault Refusal :=
  unlessHeld (State.hostRequest p params (requestCode .planOpen) t)

/-- PLAN_DATA written to port `p` (R11, R170). -/
def execPlanData (p : PortId) (params : List Byte) (t : Taking) : State → Host.Outcome State Fault Refusal :=
  unlessHeld (State.hostRequest p params (requestCode .planData) t)

/-- PLAN_CLOSE written to port `p` (R13, R170). -/
def execPlanClose (p : PortId) (params : List Byte) (t : Taking) : State → Host.Outcome State Fault Refusal :=
  unlessHeld (State.hostRequest p params (requestCode .planClose) t)

/-- PLAN_ACTIVATE written to port `p` (R18, R170). -/
def execPlanActivate (p : PortId) (params : List Byte) (t : Taking) : State → Host.Outcome State Fault Refusal :=
  unlessHeld (State.hostRequest p params (requestCode .planActivate) t)

/-- PLAN_REVOKE written to port `p` (R22, R170). -/
def execPlanRevoke (p : PortId) (params : List Byte) (t : Taking) : State → Host.Outcome State Fault Refusal :=
  unlessHeld (State.hostRequest p params (requestCode .planRevoke) t)

/-- CALIBRATE written to port `p` (R74, R170). -/
def execCalibrate (p : PortId) (params : List Byte) (t : Taking) : State → Host.Outcome State Fault Refusal :=
  unlessHeld (State.hostRequest p params (requestCode .calibrate) t)

/-- CHAIN_CHECK written to port `p` (R38, R170). -/
def execChainCheck (p : PortId) (params : List Byte) (t : Taking) : State → Host.Outcome State Fault Refusal :=
  unlessHeld (State.hostRequest p params (requestCode .chainCheck) t)

/-- SERIAL_BASE written to port `p` (R117, R170). -/
def execSerialBase (p : PortId) (params : List Byte) (t : Taking) : State → Host.Outcome State Fault Refusal :=
  unlessHeld (State.hostRequest p params (requestCode .serialBase) t)

/-- CLOSE_SHIFT written to port `p` (R141, R170). -/
def execCloseShift (p : PortId) (params : List Byte) (t : Taking) : State → Host.Outcome State Fault Refusal :=
  unlessHeld (State.hostRequest p params (requestCode .closeShift) t)

/-- MARKER_START written to port `p` (R151, R170). -/
def execMarkerStart (p : PortId) (params : List Byte) (t : Taking) : State → Host.Outcome State Fault Refusal :=
  unlessHeld (State.hostRequest p params (requestCode .markerStart) t)

/-- STATION_RESET written to port `p` (R178, R170). -/
def execStationReset (p : PortId) (params : List Byte) (t : Taking) : State → Host.Outcome State Fault Refusal :=
  unlessHeld (State.hostRequest p params (requestCode .stationReset) t)

/-- LOAD_UNIT written to port `p` (R26, R170). -/
def execLoadUnit (p : PortId) (params : List Byte) (t : Taking) : State → Host.Outcome State Fault Refusal :=
  unlessHeld (State.hostRequest p params (requestCode .loadUnit) t)

/-- RELEASE_NEST written to port `p` (R31, R170). -/
def execReleaseNest (p : PortId) (params : List Byte) (t : Taking) : State → Host.Outcome State Fault Refusal :=
  unlessHeld (State.hostRequest p params (requestCode .releaseNest) t)

/-- LINE_EVENT written to port `p` (R43, R170). -/
def execLineEvent (p : PortId) (params : List Byte) (t : Taking) : State → Host.Outcome State Fault Refusal :=
  unlessHeld (State.hostRequest p params (requestCode .lineEvent) t)

/-- START_NEST written to port `p` (R27, R170). -/
def execStartNest (p : PortId) (params : List Byte) (t : Taking) : State → Host.Outcome State Fault Refusal :=
  unlessHeld (State.hostRequest p params (requestCode .startNest) t)

/-- ABORT_NEST written to port `p` (R32, R170). -/
def execAbortNest (p : PortId) (params : List Byte) (t : Taking) : State → Host.Outcome State Fault Refusal :=
  unlessHeld (State.hostRequest p params (requestCode .abortNest) t)

/-- REPRINT written to port `p` (R164, R170). -/
def execReprint (p : PortId) (params : List Byte) (t : Taking) : State → Host.Outcome State Fault Refusal :=
  unlessHeld (State.hostRequest p params (requestCode .reprint) t)

/-- READ_NEST written to port `p` (R24, R170). -/
def execReadNest (p : PortId) (params : List Byte) (t : Taking) : State → Host.Outcome State Fault Refusal :=
  unlessHeld (State.hostRequest p params (requestCode .readNest) t)

/-- READ_POINTS written to port `p` (R95, R170). -/
def execReadPoints (p : PortId) (params : List Byte) (t : Taking) : State → Host.Outcome State Fault Refusal :=
  unlessHeld (State.hostRequest p params (requestCode .readPoints) t)

/-- READ_ACCOUNTS written to port `p` (R144, R170). -/
def execReadAccounts (p : PortId) (params : List Byte) (t : Taking) : State → Host.Outcome State Fault Refusal :=
  unlessHeld (State.hostRequest p params (requestCode .readAccounts) t)

/-- READ_SHIFT written to port `p` (R145, R170). -/
def execReadShift (p : PortId) (params : List Byte) (t : Taking) : State → Host.Outcome State Fault Refusal :=
  unlessHeld (State.hostRequest p params (requestCode .readShift) t)

/-- READ_MARKER written to port `p` (R166, R170). -/
def execReadMarker (p : PortId) (params : List Byte) (t : Taking) : State → Host.Outcome State Fault Refusal :=
  unlessHeld (State.hostRequest p params (requestCode .readMarker) t)

/-- READ_UNIT_TABLE written to port `p` (R125, R170). -/
def execReadUnitTable (p : PortId) (params : List Byte) (t : Taking) : State → Host.Outcome State Fault Refusal :=
  unlessHeld (State.hostRequest p params (requestCode .readUnitTable) t)

/-- READ_EVENTS written to port `p` (R176, R170). -/
def execReadEvents (p : PortId) (params : List Byte) (t : Taking) : State → Host.Outcome State Fault Refusal :=
  unlessHeld (State.hostRequest p params (requestCode .readEvents) t)

/-- SET_MASK written to port `p` (R177, R170). -/
def execSetMask (p : PortId) (params : List Byte) (t : Taking) : State → Host.Outcome State Fault Refusal :=
  unlessHeld (State.hostRequest p params (requestCode .setMask) t)

/-- IDENTIFY written to port `p` (R179, R170). -/
def execIdentify (p : PortId) (params : List Byte) (t : Taking) : State → Host.Outcome State Fault Refusal :=
  unlessHeld (State.hostRequest p params (requestCode .identify) t)

/-- ABANDON written to port `p` (R172). -/
def execAbandon (p : PortId) (params : List Byte) : State → Host.Outcome State Fault Refusal :=
  unlessHeld (State.hostRequest p params (requestCode .abandon) .later)

/-- A code that names no request, written to port `p` (R170, R171). -/
def execUnknownRequest (p : PortId) (code : Byte) (params : List Byte) : State → Host.Outcome State Fault Refusal :=
  unlessHeld (State.hostRequest p params code .later)

/-- PARAMETER_AREA_WRITE: a write transaction of port `p`, or the end of one that a hold has interrupted (R167 to R169, R188). -/
def execParameterAreaWrite (p : PortId) (access start : Byte) (data : List Byte) (fate : WriteEnd) :
    State → Host.Outcome State Fault Refusal :=
  unlessHeld (State.hostWrite p access start.toNat data fate)

/-- REQUEST_TAKEN: the owning block takes the request that waits on port `p` (R170). -/
def execRequestTaken (p : PortId) : State → Host.Outcome State Fault Refusal := unlessHeld (State.takeRunning p)

end Sys2Proof.Machine
end

