-- ==== Sys2Proof/Machine/Reset.lean ====
section
/-! DEFINITION. The hold in reset and the release (R35, R146, R186 to R189). -/

namespace Sys2Proof.Machine
open Sys2Proof

/-- Whether a cause holds the part (R186). -/
def Hold.has (c : HoldCause) (h : Hold) : Bool :=
  match c with
  | .supply => h.supply
  | .pin => h.pin

/-- A cause that comes or goes (R186). -/
def Hold.set (c : HoldCause) (v : Bool) (h : Hold) : Hold :=
  match c with
  | .supply => { h with supply := v }
  | .pin => { h with pin := v }

/-- A device's retry wait ends where it stands (R186). -/
def Device.stopped (d : Device) : Device := { d with retryWait := false }

/-- The Marker Controller's timers and its transaction end where they stand (R186). -/
def Marker.stopped (m : Marker) : Marker :=
  { m with bus := none, devices := m.devices.map Device.stopped, head := { m.head with busyWait := false, timer := none } }

/-- The generator stands still and feeds 0 (R186). -/
def Generator.stopped (g : Generator) : Generator := { g with mode := .silent, dac := 0, claimant := none }

/-- Work in flight ends where it stands: no completion, no reply, no latched event, no account; nests, lists and the
plan stand until the release (R186; assumption log 20). -/
def State.stopWork (s : State) : State :=
  { s with
    loader := { s.loader with
      burstRunning := false, state := if s.loader.state = .checking then .receiving else s.loader.state }
    lines := { s.lines with line := s.lines.line.map fun x => { x with timer := false } }
    gen := s.gen.stopped
    capture := { s.capture with
      half0 := { s.capture.half0 with state := .free }, half1 := { s.capture.half1 with state := .free }, holdoff := none }
    engine := { s.engine with under := none, queue := [] }
    marker := s.marker.stopped }

/-- RESET_HOLD: a cause holds the part. A hold that begins while the part is held changes nothing but the cause noted (R186). -/
def execResetHold (c : HoldCause) (s : State) : Host.Outcome State Fault Refusal :=
  let t := { s with hold := s.hold.set c true }
  .next (if s.held then t else t.stopWork)

/-- The pin levels applied from outside stand through a reset; they are not the part's (assumption log 10). -/
def Lines.withPins (pins : Vector Line 8) (l : Lines) : Lines :=
  { l with line := l.line.zipWith (fun x y => { x with pin := y.pin }) pins }

/-- The part after a release (R187): its power-on values, with what does not belong to it kept (the pin levels, the queue of
commands, the model's own counter), the window attempt, which keeps its value until the next grant (R68; assumption log 42), and
the transactions under way marked as lost (R188). -/
def State.released (address : BitVec 2) (pins : ReleasePins) (s : State) : State :=
  let r := State.powerOn ⟨address, pins.ambient⟩
  { r with
    station := { r.station with lost := pins.stationInside }
    line := { r.line with lost := pins.lineInside }
    lines := r.lines.withPins s.lines.line
    capture := { r.capture with attempt := s.capture.attempt }
    freeCount := s.freeCount, pending := s.pending }

/-- RESET_RELEASE: a cause goes; when it was the last, every block takes its power-on values and the straps are sampled (R186,
R187). -/
def execResetRelease (c : HoldCause) (address : BitVec 2) (pins : ReleasePins) (s : State) :
    Host.Outcome State Fault Refusal :=
  if s.hold.has c then
    let t := { s with hold := s.hold.set c false }
    .next (if t.held then t else t.released address pins)
  else .next s

end Sys2Proof.Machine
end

