-- ==== Sys2Proof/Machine/Dispatch.lean ====
section
/-! DEFINITION. The meaning of every command, arm by arm. -/

namespace Sys2Proof.Machine
open Sys2Proof

def exec (i : Instr) (s : State) : Host.Outcome State Fault Refusal :=
  match i with
  | .planOpen p params t => Sys2Proof.Machine.execPlanOpen p params t s
  | .planData p params t => Sys2Proof.Machine.execPlanData p params t s
  | .planClose p params t => Sys2Proof.Machine.execPlanClose p params t s
  | .planActivate p params t => Sys2Proof.Machine.execPlanActivate p params t s
  | .planRevoke p params t => Sys2Proof.Machine.execPlanRevoke p params t s
  | .calibrate p params t => Sys2Proof.Machine.execCalibrate p params t s
  | .chainCheck p params t => Sys2Proof.Machine.execChainCheck p params t s
  | .serialBase p params t => Sys2Proof.Machine.execSerialBase p params t s
  | .closeShift p params t => Sys2Proof.Machine.execCloseShift p params t s
  | .markerStart p params t => Sys2Proof.Machine.execMarkerStart p params t s
  | .stationReset p params t => Sys2Proof.Machine.execStationReset p params t s
  | .loadUnit p params t => Sys2Proof.Machine.execLoadUnit p params t s
  | .releaseNest p params t => Sys2Proof.Machine.execReleaseNest p params t s
  | .lineEvent p params t => Sys2Proof.Machine.execLineEvent p params t s
  | .startNest p params t => Sys2Proof.Machine.execStartNest p params t s
  | .abortNest p params t => Sys2Proof.Machine.execAbortNest p params t s
  | .reprint p params t => Sys2Proof.Machine.execReprint p params t s
  | .readNest p params t => Sys2Proof.Machine.execReadNest p params t s
  | .readPoints p params t => Sys2Proof.Machine.execReadPoints p params t s
  | .readAccounts p params t => Sys2Proof.Machine.execReadAccounts p params t s
  | .readShift p params t => Sys2Proof.Machine.execReadShift p params t s
  | .readMarker p params t => Sys2Proof.Machine.execReadMarker p params t s
  | .readUnitTable p params t => Sys2Proof.Machine.execReadUnitTable p params t s
  | .readEvents p params t => Sys2Proof.Machine.execReadEvents p params t s
  | .setMask p params t => Sys2Proof.Machine.execSetMask p params t s
  | .identify p params t => Sys2Proof.Machine.execIdentify p params t s
  | .abandon p params => Sys2Proof.Machine.execAbandon p params s
  | .unknownRequest p code params => Sys2Proof.Machine.execUnknownRequest p code params s
  | .parameterAreaWrite p access start data fate => Sys2Proof.Machine.execParameterAreaWrite p access start data fate s
  | .checksComplete => Sys2Proof.Machine.execChecksComplete s
  | .burstTimerExpiry => Sys2Proof.Machine.execBurstTimerExpiry s
  | .linePinChange line level => Sys2Proof.Machine.execLinePinChange line level s
  | .debounceExpiry line => Sys2Proof.Machine.execDebounceExpiry line s
  | .windowBegin => Sys2Proof.Machine.execWindowBegin s
  | .windowEnd samples => Sys2Proof.Machine.execWindowEnd samples s
  | .holdoffEnd => Sys2Proof.Machine.execHoldoffEnd s
  | .runOutFadeOut => Sys2Proof.Machine.execRunOutFadeOut s
  | .lastFadeOutSample => Sys2Proof.Machine.execLastFadeOutSample s
  | .analysisCompletion => Sys2Proof.Machine.execAnalysisCompletion s
  | .probeEnd result => Sys2Proof.Machine.execProbeEnd result s
  | .retryWaitEnd device => Sys2Proof.Machine.execRetryWaitEnd device s
  | .pageTransactionEnd result => Sys2Proof.Machine.execPageTransactionEnd result s
  | .busyWaitEnd => Sys2Proof.Machine.execBusyWaitEnd s
  | .labelTimerExpiry => Sys2Proof.Machine.execLabelTimerExpiry s
  | .resetHold cause => Sys2Proof.Machine.execResetHold cause s
  | .resetRelease cause address pins => Sys2Proof.Machine.execResetRelease cause address pins s
  | .requestTaken p => Sys2Proof.Machine.execRequestTaken p s

end Sys2Proof.Machine
end

