-- ==== Sys2Proof/Safety.lean ====
section
/-! DEFINITION. The terms in which claims are made: the command of a request, a port that can take one, the window a reply
leaves, and what counts as a safe state of the part. -/

namespace Sys2Proof.Machine
open Sys2Proof

/-! ### Requests and replies -/

/-- The command that writes request `r` to port `p`. -/
def commandOf (r : Request) (p : PortId) (params : List Byte) (t : Taking) : Instr :=
  match r with
  | .planOpen => .planOpen p params t
  | .planData => .planData p params t
  | .planClose => .planClose p params t
  | .planActivate => .planActivate p params t
  | .planRevoke => .planRevoke p params t
  | .calibrate => .calibrate p params t
  | .chainCheck => .chainCheck p params t
  | .serialBase => .serialBase p params t
  | .closeShift => .closeShift p params t
  | .markerStart => .markerStart p params t
  | .stationReset => .stationReset p params t
  | .loadUnit => .loadUnit p params t
  | .releaseNest => .releaseNest p params t
  | .lineEvent => .lineEvent p params t
  | .startNest => .startNest p params t
  | .abortNest => .abortNest p params t
  | .reprint => .reprint p params t
  | .readNest => .readNest p params t
  | .readPoints => .readPoints p params t
  | .readAccounts => .readAccounts p params t
  | .readShift => .readShift p params t
  | .readMarker => .readMarker p params t
  | .readUnitTable => .readUnitTable p params t
  | .readEvents => .readEvents p params t
  | .setMask => .setMask p params t
  | .identify => .identify p params t
  | .abandon => .abandon p params

/-- Port `p` listens: the part is not held, and no transaction that a hold has interrupted is under way on the port, as none is from
the first transaction after a release onward (R186, R188). -/
abbrev State.listens (p : PortId) (s : State) : Prop := s.held = false ∧ (s.port p).lost = false

/-- Port `p` can start a request: it listens, and its slot is not RUNNING (R170, R186, R188). -/
abbrev State.ready (p : PortId) (s : State) : Prop := s.held = false ∧ (s.port p).slot ≠ .running ∧ (s.port p).lost = false

/-- The window of a port whose request has been started and not yet answered (R170). -/
def Port.begun (p : PortId) (r : Request) (params : List Byte) (taken : Bool) (q : Port) : Port :=
  { q.written p params with
    slot := .running, lastCode := requestCode r, sequence := q.sequence + 1
    running := some ⟨r, writeBytes q.params 0 params, taken⟩ }

/-- The window of a port whose request was started with code `code` and answered at once: the reply area begins with the
header and the body (R170, R180). -/
def Port.replied (p : PortId) (code : Byte) (params : List Byte) (st : Status) (sub : Nat) (body : List Byte) (q : Port) :
    Port :=
  { q.written p params with
    slot := st.slot, lastCode := code, sequence := q.sequence + 1, running := none
    reply := writeBytes q.reply 0 (replyHeader code (q.sequence + 1) st sub body.length ++ body) }

/-- The state in which port `p` has answered request `r` at once with `st`, `sub` and `body`, all else as in `s`. -/
def State.replied (p : PortId) (r : Request) (params : List Byte) (st : Status) (sub : Nat) (body : List Byte) (s : State) :
    State :=
  s.modPort p (Port.replied p (requestCode r) params st sub body)

/-- The state in which the owning block has taken request `r` of port `p` and not yet answered it. -/
def State.begun (p : PortId) (r : Request) (params : List Byte) (taken : Bool) (s : State) : State :=
  s.modPort p (Port.begun p r params taken)

/-- The event set of port `p` holds event `e` (R174). -/
def State.latched (p : PortId) (e : Event) (s : State) : Bool := (s.port p).events.getLsbD (eventBit e)

/-- The byte that selects nest `n` in a request (R180). -/
def selector : NestId → Byte
  | .a => 1
  | .b => 2

/-! ### What a command finds, and what it leaves -/

/-- A half holds a window of `c` under tag `g` that the engine has not begun (R33, R81). -/
def Half.unbegun (c : Claimant) (g : BitVec 16) (h : Half) : Bool :=
  h.claimant = c && h.tag = g && (h.state = .filling || h.state = .queued)

/-- From `s` to `t` the windows of `c` under tag `g` that the engine has not begun are freed and leave its queue; the other halves
stand (R33, R40, R81). -/
structure State.WindowsFreed (c : Claimant) (g : BitVec 16) (s t : State) : Prop where
  freed  : ∀ h, (s.half h).unbegun c g = true → t.half h = { s.half h with state := .free }
  kept   : ∀ h, (s.half h).unbegun c g = false → t.half h = s.half h
  engine : t.engine = { s.engine with queue := s.engine.queue.filter fun h => !(s.half h).unbegun c g }

/-- The record of a nest whose test has been aborted: LOADED, without verdict and bin (R33). -/
def Nest.abortedTest (n : Nest) : Nest := { n with state := .loaded, verdict := none, bin := none }

/-- Half `h` holds a window, not begun by the engine, of a nest that an abort of the tests takes out of MEASURING or ANALYSING (R33,
R71, R81). -/
def State.abortFrees (s : State) (h : HalfId) : Bool :=
  [NestId.a, .b].any fun n =>
    ((s.nest n).state = .measuring || (s.nest n).state = .analysing) && (s.half h).unbegun (.nest n) (s.nest n).tag

/-- From `s` to `t` one edge aborts the test of every nest in test, and no claimant is left in the queue; the windows of these nests that
the engine has not begun are freed and leave its queue, and the holdoff of a MEASURING nest stops (R32, R33, R44, R71, R81). -/
structure State.TestsAborted (s t : State) : Prop where
  nests     : ∀ n, t.nest n = if (s.nest n).state.inTest then (s.nest n).abortedTest else s.nest n
  queue     : t.chain.queue = []
  measuring : ∀ n, (s.nest n).state = .measuring →
    t.chain.holder = none ∧ t.gen.mode = .silent ∧ t.gen.dac = 0 ∧ t.gen.claimant = none
  others    : (∀ n, (s.nest n).state ≠ .measuring) → t.chain.holder = s.chain.holder ∧ t.gen = s.gen
  counts    : t.accounts = { s.accounts with counts := { s.accounts.counts with
    aborted := s.accounts.counts.aborted + BitVec.ofNat 32 (s.nestA.state.inTest.toNat + s.nestB.state.inTest.toNat) } }
  freed     : ∀ h, s.abortFrees h = true → t.half h = { s.half h with state := .free }
  kept      : ∀ h, s.abortFrees h = false → t.half h = s.half h
  engine    : t.engine = { s.engine with queue := s.engine.queue.filter fun h => !s.abortFrees h }
  capture   : t.capture = { s.capture with
    half0 := t.capture.half0, half1 := t.capture.half1
    holdoff := if s.nestA.state = .measuring ∨ s.nestB.state = .measuring then none else s.capture.holdoff }
  rest      : t.units = s.units ∧ t.marker = s.marker ∧ t.loader = s.loader

/-! ### What a port shows -/

/-- `bs` is what the window of port `p` shows from offset `start` on (R167, R168, R180): the slot status byte with the slot state, the
attention output and the mark of a latched event; the code last started; the sequence; the parameter and the reply area; and 00h
elsewhere, beyond FFh too. -/
structure State.Shows (p : PortId) (start : Nat) (bs : List Byte) (s : State) : Prop where
  status   : ∀ b, start = 0 → bs[0]? = some b → b.toNat =
    (match (s.port p).slot with | .idle => 0 | .running => 1 | .done => 2 | .refused => 3) +
      4 * (s.attention p).toNat + 8 * (if (s.port p).events = 0 then 0 else 1)
  code     : ∀ k b, bs[k]? = some b → start + k = 1 → b = (s.port p).lastCode
  sequence : ∀ k b, bs[k]? = some b → start + k = 2 → b = (s.port p).sequence
  params   : ∀ k b (j : Fin 64), bs[k]? = some b → start + k = 0x40 + j.val → b = (s.port p).params[j]
  reply    : ∀ k b (j : Fin 64), bs[k]? = some b → start + k = 0x80 + j.val → b = (s.port p).reply[j]
  others   : ∀ k b, bs[k]? = some b → (3 ≤ start + k ∧ start + k < 0x40) ∨ 0xC0 ≤ start + k → b = 0

/-! ### Plan images that pass, and images that fail -/

/-- Byte `b` of the image lies in the section of directory entry `i` (R182). -/
def inSection (image : List Byte) (i b : Nat) : Prop :=
  (sectionAt image i).offset ≤ b ∧ b < (sectionAt image i).offset + (sectionAt image i).length

/-- Directory entry `i` breaks no condition of check 5 (R14, R182). -/
structure EntrySound (image : List Byte) (i : Nat) : Prop where
  type    : 1 ≤ (sectionAt image i).type ∧ (sectionAt image i).type ≤ 7
  single  : ∀ j, j < i → (sectionAt image j).type ≠ (sectionAt image i).type
  length  : 1 ≤ (sectionAt image i).length
  inside  : 16 + 6 * u16At image 2 ≤ (sectionAt image i).offset ∧
    (sectionAt image i).offset + (sectionAt image i).length ≤ image.length
  apart   : ∀ j, j < i → ∀ b, ¬ (inSection image j b ∧ inSection image i b)

/-- The segment at `o` of a SWEEP section keeps the ranges of R3 (R182). -/
structure SegmentMeets (b : List Byte) (o : Nat) : Prop where
  start     : 2000 ≤ u32At b o ∧ u32At b o ≤ 2000000
  stop      : u32At b o ≤ u32At b (o + 4) ∧ u32At b (o + 4) ≤ 2000000
  perOctave : u8At b (o + 8) = 3 ∨ u8At b (o + 8) = 6 ∨ u8At b (o + 8) = 12 ∨ u8At b (o + 8) = 24 ∨ u8At b (o + 8) = 48
  drive     : -6000 ≤ s16At b (o + 9) ∧ s16At b (o + 9) ≤ 0
  settle    : 2 ≤ u8At b (o + 11) ∧ u8At b (o + 11) ≤ 64
  window    : 4 ≤ u16At b (o + 12) ∧ u16At b (o + 12) ≤ 256
  harmonics : 2 ≤ u8At b (o + 14) ∧ u8At b (o + 14) ≤ 12
  guard     : u8At b (o + 15) ≤ 1

/-- The number of points of the expanded list of a SWEEP section (R46). -/
def sweepPointCount (b : List Byte) : Nat :=
  ((List.range (u8At b 0)).map fun k => (segmentFreqs
    ⟨u32At b (5 + 16 * k), u32At b (9 + 16 * k), u8At b (13 + 16 * k), 0, 0, 0, 0, false⟩).length).sum

/-- A SWEEP section's content meets its ranges and conditions (R3, R182). -/
structure SweepMeets (b : List Byte) : Prop where
  count       : 1 ≤ u8At b 0 ∧ u8At b 0 ≤ 8
  length      : b.length = 5 + 16 * u8At b 0
  stopOnFail  : u8At b 1 ≤ 1
  reference   : u8At b 2 = 0xFF ∨ u8At b 2 ≤ 127
  minResponse : -15000 ≤ s16At b 3 ∧ s16At b 3 ≤ 15000
  segments    : ∀ k, k < u8At b 0 → SegmentMeets b (5 + 16 * k)
  ascending   : ∀ k, k + 1 < u8At b 0 → u32At b (9 + 16 * k) < u32At b (5 + 16 * (k + 1))
  points      : sweepPointCount b ≤ 128
  inList      : u8At b 2 ≠ 0xFF → u8At b 2 < sweepPointCount b

/-- Where curve `k` of a LIMITS section begins (R182). -/
def curveStart (b : List Byte) : Nat → Nat
  | 0 => 1
  | k + 1 => curveStart b k + 4 + 6 * u8At b (curveStart b k + 3)

/-- The curve at `o` of a LIMITS section keeps the ranges and conditions of R4 (R182). -/
structure CurveMeets (b : List Byte) (o : Nat) : Prop where
  measure   : 1 ≤ u8At b o ∧ u8At b o ≤ 4
  condition : 1 ≤ u8At b (o + 1) ∧ u8At b (o + 1) ≤ 4
  reason    : 1 ≤ u8At b (o + 2) ∧ u8At b (o + 2) ≤ 12
  count     : 2 ≤ u8At b (o + 3) ∧ u8At b (o + 3) ≤ 16
  freqs     : ∀ i, i < u8At b (o + 3) → 2000 ≤ u32At b (o + 4 + 6 * i) ∧ u32At b (o + 4 + 6 * i) ≤ 2000000
  ascending : ∀ i, i + 1 < u8At b (o + 3) → u32At b (o + 4 + 6 * i) < u32At b (o + 4 + 6 * (i + 1))

/-- A LIMITS section's own content meets its ranges and conditions (R4, R182). -/
structure LimitsMeets (b : List Byte) : Prop where
  count  : 1 ≤ u8At b 0 ∧ u8At b 0 ≤ 8
  curves : ∀ k, k < u8At b 0 → CurveMeets b (curveStart b k)
  length : b.length = curveStart b (u8At b 0)

/-- A BINS section's content meets its ranges (R5, R182). -/
structure BinsMeets (b : List Byte) : Prop where
  length  : b.length = 29
  entries : ∀ k, k < 14 → (1 ≤ u8At b (2 * k) ∧ u8At b (2 * k) ≤ 15) ∧ u8At b (2 * k + 1) ≤ 15
  retest  : 1 ≤ u8At b 28 ∧ u8At b 28 ≤ 15

/-- A GUARD section's content meets its ranges (R6, R182). -/
structure GuardMeets (b : List Byte) : Prop where
  length    : b.length = 9
  threshold : -15000 ≤ s16At b 0 ∧ s16At b 0 ≤ 15000
  retries   : u8At b 2 ≤ 7
  holdoff   : 10 ≤ u16At b 3 ∧ u16At b 3 ≤ 500
  overload  : 1000000 ≤ u32At b 5 ∧ u32At b 5 ≤ 8388607

/-- A POLICY section's content meets its ranges (R6, R182). -/
structure PolicyMeets (b : List Byte) : Prop where
  length   : b.length = 6
  attempts : 1 ≤ u8At b 0 ∧ u8At b 0 ≤ 4
  window   : u16At b 1 ≤ 10000
  fails    : u8At b 3 ≤ 15
  alarm    : u16At b 4 ≤ 10000

/-- A MARKER section with `n` devices and `m` preferences meets its ranges and conditions (R7, R182). -/
structure MarkerMeets (b : List Byte) (n m : Nat) : Prop where
  devices   : n = u8At b 0 ∧ n ≤ 4
  addresses : ∀ k, k < n → 0x08 ≤ u8At b (1 + 2 * k) ∧ u8At b (1 + 2 * k) ≤ 0x77
  roles     : ∀ k, k < n → u8At b (2 + 2 * k) = 1 ∨ u8At b (2 + 2 * k) = 2
  apart     : ∀ j k, j < k → k < n → u8At b (1 + 2 * j) ≠ u8At b (1 + 2 * k)
  formats   : m = u8At b (1 + 2 * n) ∧ 1 ≤ m ∧ m ≤ 3
  length    : b.length = 3 + 2 * n + m
  codes     : ∀ k, k < m → 1 ≤ u8At b (2 + 2 * n + k) ∧ u8At b (2 + 2 * n + k) ≤ 3
  once      : ∀ j k, j < k → k < m → u8At b (2 + 2 * n + j) ≠ u8At b (2 + 2 * n + k)
  timeout   : 1 ≤ u8At b (2 + 2 * n + m) ∧ u8At b (2 + 2 * n + m) ≤ 60

/-- A LINES section's content meets its codes and conditions (R8, R182). -/
structure LinesMeets (b : List Byte) : Prop where
  length : b.length = 8
  codes  : ∀ k, k < 8 → u8At b k ≤ 8 ∨ (0x11 ≤ u8At b k ∧ u8At b k ≤ 0x18)
  once   : ∀ j k, j < k → k < 8 → 1 ≤ u8At b j → u8At b j ≤ 8 → u8At b j ≠ u8At b k

/-- The section of directory entry `i` meets its own ranges and conditions (R15). -/
def SectionMeets (image : List Byte) (i : Nat) : Prop :=
  let b := (sectionAt image i).bytes image
  ((sectionAt image i).type = 1 → SweepMeets b) ∧ ((sectionAt image i).type = 2 → LimitsMeets b) ∧
  ((sectionAt image i).type = 3 → BinsMeets b) ∧ ((sectionAt image i).type = 4 → GuardMeets b) ∧
  ((sectionAt image i).type = 5 → PolicyMeets b) ∧ ((sectionAt image i).type = 6 → ∃ n m, MarkerMeets b n m) ∧
  ((sectionAt image i).type = 7 → LinesMeets b)

/-- The SWEEP section at entry `a` has no reference point index while the LIMITS section at entry `l` holds a REL curve (R4). -/
structure RelAlone (image : List Byte) (a l : Nat) : Prop where
  sweep  : (sectionAt image a).type = 1
  limits : (sectionAt image l).type = 2
  absent : u8At ((sectionAt image a).bytes image) 2 = 0xFF
  rel    : ∃ k, k < u8At ((sectionAt image l).bytes image) 0 ∧
    u8At ((sectionAt image l).bytes image) (curveStart ((sectionAt image l).bytes image) k) = 2

/-- Checks 1 to 4 of PLAN CLOSE pass (R13). -/
structure ImageWhole (image : List Byte) (writePtr declared : Nat) (overrun : Bool) : Prop where
  sized   : writePtr = declared ∧ u32At image 8 = declared
  kept    : overrun = false
  version : u16At image 0 = 1
  crc     : imageCrc image = headerCrc image

/-- Check 5 of PLAN CLOSE passes (R14). -/
structure StructureSound (image : List Byte) : Prop where
  count   : 1 ≤ u16At image 2 ∧ u16At image 2 ≤ 7
  entries : ∀ i, i < u16At image 2 → EntrySound image i
  present : ∀ t, 1 ≤ t → t ≤ 5 → ∃ i, i < u16At image 2 ∧ (sectionAt image i).type = t

/-- The check result after check 4, with status `st`, section index `i`, missing type `m` and plan `p` (R16). -/
def resultOf (image : List Byte) (st : Nat) (i m : Option Nat) (p : Option StagedPlan) : CheckResult :=
  ⟨st, i, m, some (imageCrc image), some (headerCrc image), some (headerId image), p⟩

/-! ### Measurement values -/

/-- `v` is the measurement value of the exact real `x` (R87): the integer nearest to it, clamped to −15,000 to +15,000. The values
the part forms are never halfway between two integers. -/
structure Measures (x : ℝ) (v : Int) : Prop where
  bounds : -15000 ≤ v ∧ v ≤ 15000
  above  : -15000 < v → (v : ℝ) - 1 / 2 < x
  below  : v < 15000 → x < (v : ℝ) + 1 / 2

/-- S_k at fundamental phase `φ` (R84). -/
def sineAt (k : Nat) (φ : Phase) : Int := sine (k * φ.toNat % 2 ^ 32 / 4194304)

/-- C_k at fundamental phase `φ` (R84). -/
def cosineAt (k : Nat) (φ : Phase) : Int := sine ((k * φ.toNat % 2 ^ 32 / 4194304 + 256) % 1024)

/-- The exact values of the analysis of half `h` with effective harmonic count `H` (R83 to R86): the sums I_k and Q_k, the amplitudes
A_k, the power D of the harmonics 2 and up, and the residual peak P. -/
structure Half.Analysis (h : Half) (H : Nat) (I Q : Nat → Int) (A : Nat → ℝ) (D P : ℝ) : Prop where
  harmonics : H = min h.harmonics (2399999 / h.freq)
  inPhase   : ∀ k, I k = (h.samples.map fun x => x.1 * cosineAt k x.2).sum
  quad      : ∀ k, Q k = (h.samples.map fun x => x.1 * sineAt k x.2).sum
  amplitude : ∀ k, A k = 2 * Real.sqrt ((I k : ℝ) ^ 2 + (Q k : ℝ) ^ 2) / (32767 * h.length)
  power     : D = ∑ k ∈ Finset.Icc 2 H, A k ^ 2
  residual  : ∀ x ∈ h.samples, |(x.1 : ℝ) - ∑ k ∈ Finset.Icc 1 H,
    2 * ((I k : ℝ) * cosineAt k x.2 + (Q k : ℝ) * sineAt k x.2) / (32767 ^ 2 * h.length)| ≤ P
  peak      : (P = 0 ∧ h.samples = []) ∨ ∃ x ∈ h.samples, P = |(x.1 : ℝ) - ∑ k ∈ Finset.Icc 1 H,
    2 * ((I k : ℝ) * cosineAt k x.2 + (Q k : ℝ) * sineAt k x.2) / (32767 ^ 2 * h.length)|

/-! ### Grants and activations that a completion brings -/

/-- The same state with nobody waiting for the chain and no activation pending. -/
def State.alone (s : State) : State :=
  { s with chain := { s.chain with queue := [] }, loader := { s.loader with state := .idle } }

/-- From `s`, in which the chain is free, to `t` the chain is granted to `c`, and `rest` still waits: a nest is MEASURING under its next
tag with cleared result fields and one empty slot for each point, a reference unit qualifies it, a CHAIN CHECK runs under its next tag;
the amplifier switch and the loopback follow; the generator is in SETTLE at the first sample of point 0; a pending calibration record
is active; nothing else changes (R24, R25, R36, R37, R39, R50, R67, R75, R100, R128). -/
structure State.Granted (c : Claimant) (rest : List Claimant) (s t : State) : Prop where
  chain   : t.chain = (match c with
    | .nest _ => { s.chain with holder := some c, queue := rest }
    | .check => { s.chain with
        holder := some c, queue := rest, checkTag := s.chain.checkTag + 1, checkA := none, checkB := none, checkFaded := false })
  nests   : ∀ n, t.nest n = if c = .nest n then
      { s.nest n with
        state := .measuring, tag := (s.nest n).tag + 1, slots := List.replicate s.planPoints.length none,
        judged := List.replicate s.curveCount [], refState := if s.hasReference then .awaited else .none, detected := [],
        failList := [], overflow := 0, causeNoisy := false, causeOverload := false, verdict := none, bin := none,
        worst := List.replicate s.curveCount none, ticket := none }
    else s.nest n
  switch  : t.amplifier = (match c with | .nest n => some n | .check => none) ∧ t.loopback = decide (c = .check)
  gen     : t.gen = { s.gen with
    mode := .settle, acc := 0, ramp := 0, cursor := 0, samples := 0, wraps := 0, stopMark := false, claimant := some c
    inc := (match c with | .nest _ => (s.planPoints.getD 0 noPoint).inc | .check => 89478485)
    amp := (match c with | .nest _ => (s.planPoints.getD 0 noPoint).amp | .check => 838861)
    tag := (match c with | .nest n => (s.nest n).tag + 1 | .check => s.chain.checkTag + 1)
    postWrap := false, windowPlayed := 0 }
  capture : t.capture = { s.capture with active := s.capture.pending.or s.capture.active, pending := none, attempt := 1 }
  units   : t.units = { s.units with
    qualifiedA := s.units.qualifiedA || decide (c = .nest .a ∧ s.nestA.kind = some .reference)
    qualifiedB := s.units.qualifiedB || decide (c = .nest .b ∧ s.nestB.kind = some .reference) }
  frame   : t = { s with
    chain := t.chain, gen := t.gen, capture := t.capture, units := t.units, nestA := t.nestA, nestB := t.nestB }

/-- A Marker Bus that was IDLE has taken the first work that is ready: the pending probe of lowest table index, else the head job's
next page, else none (R152, R157, R183). -/
structure Marker.Served (m : Marker) : Prop where
  probe : ∀ i, m.devices.findIdx? (fun y => y.state = .negotiating && !y.retryWait) = some i → m.bus = some ⟨i, .probe, .live⟩
  page  : ∀ j rest d x, (∀ y ∈ m.devices, y.state = .negotiating → y.retryWait = true) → m.queue = j :: rest →
    m.head.bound = some d → m.devices[d]? = some x → x.state = .ready → m.head.busyWait = false →
    m.bus = some ⟨d, .page (controlByte m.head.page (x.resolved.getD 0) x.toggle) (pagePayload j m.head.page), .live⟩
  idle  : (∀ y ∈ m.devices, y.state = .negotiating → y.retryWait = true) →
    (∀ j rest d x, m.queue = j :: rest → m.head.bound = some d → m.devices[d]? = some x → x.state = .ready →
      m.head.busyWait = true) → m.bus = none

/-- The jobs of the waiting nests `l` as they enter the label queue in order, each with the next ticket (R155). -/
def Marker.entering (l : List WaitingJob) (m : Marker) : List Job :=
  l.mapIdx fun i w => { w.job with ticket := some (m.ticket + 1 + BitVec.ofNat 16 i) }

/-- The first nests `adm` of the wait list have left LABEL_WAIT for DONE between `s` and `t`, each with the ticket of its job; every
other nest stands (R30, R155). -/
structure State.Admitted (adm : List WaitingJob) (s t : State) : Prop where
  nests  : (adm.map (·.nest)).Nodup → ∀ i w, adm[i]? = some w →
    t.nest w.nest = { s.nest w.nest with state := .done, ticket := some (s.marker.ticket + 1 + BitVec.ofNat 16 i) }
  others : ∀ n, n ∉ adm.map (·.nest) → t.nest n = s.nest n

/-- From `s` to `t` the job in front has left the label queue and `rest` stood behind it, `m` being the marker with the counters as
its leaving sets them. The next job that a device of the table has the role of is head at page 0 with its label timer running, bound
to the first READY device of its role; the jobs `gone` before it have failed with NO_DEVICE at the same event; each place has gone
to the oldest waiting nest, `adm` being those that had one (R155, R156, R162, R163). LABEL_FAILED (bit 9) is latched where a job has
failed, as `fails` says of the one that left. -/
structure State.HeadLeft (rest : List Job) (m : Marker) (fails : Bool) (s t : State) : Prop where
  frame : t = { s with marker := t.marker, nestA := t.nestA, nestB := t.nestB, station := t.station, line := t.line }
  moves : ∀ gone left adm ws, s.marker.waitList = adm ++ ws → adm.length = min (gone.length + 1) s.marker.waitList.length →
    rest ++ s.marker.entering adm = gone ++ left → (∀ j ∈ gone, ∀ y ∈ s.marker.devices, y.role ≠ j.role) →
    (∀ j, left.head? = some j → ∃ y ∈ s.marker.devices, y.role = j.role) →
    t.marker = { m with
      devices := t.marker.devices, bus := t.marker.bus, queue := left, waitList := ws
      ticket := s.marker.ticket + BitVec.ofNat 16 adm.length
      enqueued := s.marker.enqueued + BitVec.ofNat 32 adm.length
      failed := m.failed + BitVec.ofNat 32 gone.length
      lastFailed := match gone.getLast? with
        | some j => some ⟨j, .noDevice, none, 0⟩
        | none => m.lastFailed
      head := match left.head? with
        | some i => ⟨s.marker.devices.findIdx? fun y => y.role = i.role && y.state = .ready, 0, false, s.labelTimeout⟩
        | none => Head.clear } ∧
    State.Admitted adm s t ∧
    ∀ p, t.port p = { s.port p with
      events := (s.port p).events ||| (if fails = true ∨ gone ≠ [] then 0x0200 else 0) }

/-- The device table of a staged plan (R2, R7). -/
def StagedPlan.devices (p : StagedPlan) : List DevicePlan := (p.content.marker.map (·.devices)).getD []

/-- The device of the table with the address and the role of entry `q` (R147). -/
def State.deviceOf (q : DevicePlan) (s : State) : Option Device :=
  s.marker.devices.find? fun d => d.address = q.address && d.role = q.role

/-- From `s` to `t` the staged plan `p` replaces the active plan, out of use (R20, R124, R129, R133, R142, R147, R148). A line that
keeps its function stands; one newly bound is undetermined with its timer running; a function that loses its line takes its default
virtual level (R41 to R43). A device keeps its history where its address and role stand in the new table (R147); a transaction under
way is discarded (R148). The head job is unbound at page 0 under the new label timeout; jobs in front whose role the new table lacks
fail with NO_DEVICE (R160). The loader's write pointer, declared size and overrun mark stand (assumption log 11). -/
structure State.Activated (p : StagedPlan) (s t : State) : Prop where
  loader   : t.loader = { s.loader with
    state := .idle, staging := [], staged := none, active := some ⟨s.loader.staging, p.content, p.points⟩ }
  units    : t.units = { s.units with
    remaining := 0, qualifiedA := false, qualifiedB := false, failCount := 0, retest := []
    listSequence := s.units.listSequence + 1 }
  counts   : t.accounts.counts = { s.accounts.counts with
    expired := s.accounts.counts.expired + BitVec.ofNat 32 s.units.retest.length }
  ring     : t.accounts.ring = [] ∧ t.accounts.ringSeq = s.accounts.ringSeq
  shift    : t.accounts.baseline = t.accounts.counts ∧ t.accounts.shift = nextShift s.accounts.shift
  record   : ∃ r, t.accounts.shifts.getLast? = some r ∧ r.number = s.accounts.shift ∧ r.reason = .planChange ∧
    r.planId = s.plan.map (·.id) ∧ r.deltas = t.accounts.counts.minus s.accounts.baseline
  lines    : ∀ i : Fin 8, t.lines.line[i].function = (p.content.lines.getD []).getD i .unused
  table    : (t.marker.devices.map fun d => (d.address, d.role)) =
    (((p.content.marker.map (·.devices)).getD []).map fun d => (d.address, d.role))
  probing  : ∀ d ∈ t.marker.devices, d.state = .negotiating ∧ d.naks = 0 ∧ d.retryWait = false ∧ d.abilities = none
  ports    : ∀ q, t.latched q .planActivated = true ∧ (t.port q).unverified = true
  remapped : ∀ i : Fin 8, t.lines.line[i] =
    if s.lines.line[i].function = (p.content.lines.getD []).getD i .unused then s.lines.line[i]
    else { s.lines.line[i] with
      function := (p.content.lines.getD []).getD i .unused, debounced := none
      timer := decide (∃ f ∈ allInputs, (p.content.lines.getD []).getD i .unused = .input f) }
  virtuals : ∀ f, t.lines.virtual f = (s.lines.virtual f).map fun v =>
    if (s.lines.bound f).isSome ∧ t.lines.bound f = none then decide (f ≠ .stop) else v
  devices  : t.marker.devices = p.devices.map fun q =>
    ⟨q.address, q.role, .negotiating, none, none, none, ((s.deviceOf q).map (·.toggle)).getD false, 0, false,
      (s.deviceOf q).bind (·.history)⟩
  bus      : ∀ x, s.marker.bus = some x → t.marker.bus = some { x with fate := .discarded }
  served   : s.marker.bus = none → t.marker.Served
  head     : ∀ j rest, s.marker.queue = j :: rest → (∃ q ∈ p.devices, q.role = j.role) →
    t.marker = { s.marker with
      devices := t.marker.devices, bus := t.marker.bus, head := ⟨none, 0, false, p.content.marker.map (·.timeout)⟩ } ∧
    (∀ n, t.nest n = s.nest n) ∧ ∀ q, t.latched q .labelFailed = s.latched q .labelFailed
  roleless : ∀ gone left adm ws, s.marker.waitList = adm ++ ws → adm.length = min gone.length s.marker.waitList.length →
    s.marker.queue ++ s.marker.entering adm = gone ++ left → (∀ j ∈ gone, ∀ q ∈ p.devices, q.role ≠ j.role) →
    (∀ j, left.head? = some j → ∃ q ∈ p.devices, q.role = j.role) →
    t.marker = { s.marker with
      devices := t.marker.devices, bus := t.marker.bus, queue := left, waitList := ws
      head := if s.marker.queue = [] then s.marker.head
        else if left = [] then Head.clear else ⟨none, 0, false, p.content.marker.map (·.timeout)⟩
      ticket := s.marker.ticket + BitVec.ofNat 16 adm.length
      enqueued := s.marker.enqueued + BitVec.ofNat 32 adm.length
      failed := s.marker.failed + BitVec.ofNat 32 gone.length
      lastFailed := match gone.getLast? with
        | some j => some ⟨j, .noDevice, none, 0⟩
        | none => s.marker.lastFailed } ∧
    State.Admitted adm s t ∧
    t.line = { s.line with
      unverified := true, events := s.line.events ||| 0x0020 ||| (if gone = [] then 0 else 0x0200) } ∧
    t.latched .station .labelFailed = (s.latched .station .labelFailed || decide (gone ≠ []))
  standing : t.chain = s.chain ∧ t.gen = s.gen ∧ t.capture = s.capture ∧ t.engine = s.engine
  nests    : ∀ n, (s.nest n).state ≠ .labelWait → s.marker.waitList = [] → t.nest n = s.nest n

/-- What the abort of both nests brings that leads from `s` to `t`, `u` being the state that the same edge leaves where nobody waits and
no activation is pending (R19, R32, R37, R38, R40): a CHAIN CHECK that waits is granted the chain that a MEASURING nest held, a
pending activation then waiting on; with none waiting or running, a pending activation follows the abort; a running CHAIN CHECK runs
on. -/
structure State.TestsLeft (s u t : State) : Prop where
  granted   : (∀ n, .nest n ∈ s.chain.queue → (s.nest n).state = .waiting) → s.chain.queue.count .check = 1 →
    (∃ n, (s.nest n).state = .measuring) → State.Granted .check [] { u with loader := s.loader } t
  activated : ∀ p, (∀ n, .nest n ∈ s.chain.queue → (s.nest n).state = .waiting) → .check ∉ s.chain.queue →
    s.chain.holder ≠ some .check → s.loader.state = .pending → s.loader.staged = some p →
    (∃ n, (s.nest n).state.inTest = true) → State.Activated p { u with loader := s.loader } t
  running   : (∀ n, .nest n ∈ s.chain.queue → (s.nest n).state = .waiting) → .check ∉ s.chain.queue →
    s.chain.holder = some .check → (∀ n, (s.nest n).state ≠ .measuring) → t = { u with loader := s.loader }

/-- The event lines after line `l`'s debounced level has taken its pin level (R42). -/
def Lines.settle (l : Fin 8) (x : Lines) : Lines :=
  { x with line := x.line.set l { x.line[l] with debounced := some x.line[l].pin, timer := false } }

/-- The debounce timer of line `l`, bound to `f`, expires with an edge to `level` (R42). -/
structure State.AtEdge (l : Fin 8) (f : InputFunction) (level : Bool) (s : State) : Prop where
  held     : s.held = false
  timer    : s.lines.line[l].timer = true
  function : s.lines.line[l].function = .input f
  before   : s.lines.line[l].debounced = some (!level)
  pin      : s.lines.line[l].pin = level

/-- The unverified marks after an accepted START of nest `n`: a production unit that spends the last of the remaining count sets
them (R127, R175). -/
def State.marksAfterStart (n : NestId) (p : PortId) (s : State) : Bool :=
  (s.port p).unverified || decide ((s.nest n).kind = some .production ∧ 0 < s.windowLength ∧ s.units.remaining = 1)

/-- The remaining count after an accepted START of nest `n` (R127). -/
def State.remainingAfterStart (n : NestId) (s : State) : Nat :=
  if (s.nest n).kind = some .production ∧ 0 < s.windowLength then s.units.remaining - 1 else s.units.remaining

/-- The sweep goes on from a point that is done: to SETTLE at the next point, whose counts are 0, or to the fade-out after the
last; the next window is a first attempt (R55, R67). -/
structure State.SteppedOn (s t : State) : Prop where
  next    : s.gen.cursor + 1 < s.planPoints.length →
    t.gen.mode = .settle ∧ t.gen.cursor = s.gen.cursor + 1 ∧ t.gen.samples = 0 ∧ t.gen.wraps = 0 ∧
    t.gen.inc = (s.planPoints.getD (s.gen.cursor + 1) noPoint).inc ∧ t.gen.amp = (s.planPoints.getD (s.gen.cursor + 1) noPoint).amp
  last    : s.planPoints.length ≤ s.gen.cursor + 1 →
    t.gen.mode = .fadeOut ∧ t.gen.ramp = 0 ∧ t.gen.cursor = s.gen.cursor
  attempt : t.capture = { s.capture with half0 := t.capture.half0, half1 := t.capture.half1, attempt := 1 }

/-- A window of nest `n` in half `h` ends with `samples`, under plan `c`, with no holdoff timer running (R63, R64). -/
structure State.AtWindowEnd (n : NestId) (h : HalfId) (c : PlanContent) (samples : List (Sample × Sample)) (s : State) : Prop where
  held     : s.held = false
  mode     : s.gen.mode = .window
  filling  : s.fillingHalf = some h
  owner    : (s.half h).claimant = .nest n
  claimant : s.gen.claimant = some (.nest n)
  plan     : s.plan = some c
  length   : samples.length = (s.half h).length
  holdoff  : s.capture.holdoff = none

/-- The guard check applies to the window in half `h` and finds its ambient samples too loud (R66). -/
def State.guardFails (h : HalfId) (c : PlanContent) (samples : List (Sample × Sample)) (s : State) : Prop :=
  s.straps.ambient = true ∧ (s.half h).guard = true ∧
  c.guard.threshold < guardLevel (peakOf (samples.map (·.2))) ((s.capture.active.map (·.ambient)).getD 0)

/-- The fade-out of nest `n`'s sweep is at its last sample under plan `c`, with no window outstanding, nobody waiting and no
activation pending: the verdict follows (R29, R57). -/
structure State.AtVerdict (n : NestId) (c : PlanContent) (s : State) : Prop where
  held     : s.held = false
  mode     : s.gen.mode = .fadeOut
  claimant : s.gen.claimant = some (.nest n)
  ramp     : s.gen.ramp < 480
  windows  : s.outstanding n = 0
  queue    : s.chain.queue = []
  holdoff  : s.capture.holdoff = none
  loader   : s.loader.state ≠ .pending
  plan     : s.plan = some c

/-- The last outstanding window of nest `n`, in half `h` alone under analysis, completes while the nest is ANALYSING under plan `c`,
and makes its record `x` (R29, R79). -/
structure State.AtLastCompletion (n : NestId) (h : HalfId) (c : PlanContent) (x : Nest) (s : State) : Prop where
  held     : s.held = false
  under    : s.engine.under = some h
  queue    : s.engine.queue = [h]
  owner    : (s.half h).claimant = .nest n
  analysed : (s.half h).state = .inAnalysis
  tag      : (s.half h).tag = (s.nest n).tag
  state    : (s.nest n).state = .analysing
  last     : s.outstanding n = 1
  plan     : s.plan = some c
  record   : x = (s.nest n).take c (recordOf c.sweep.minResponse (s.half h) (analyse (s.half h)))

/-- From `s` to `t` the completion of the window in half `h` frees it and leaves the engine IDLE, the other half, the chain and the
generator standing (R79). -/
structure State.Completed (h : HalfId) (s t : State) : Prop where
  freed   : t.half h = { s.half h with state := .free }
  others  : ∀ g, g ≠ h → t.half g = s.half g
  capture : t.capture = { s.capture with half0 := t.capture.half0, half1 := t.capture.half1 }
  engine  : t.engine.under = none ∧ t.engine.queue = []
  rest    : t.chain = s.chain ∧ t.gen = s.gen

/-- From `s` to `t` the completion of the window in half `h`, with `rest` behind it in the queue, frees it: with none behind, the engine
is IDLE; a QUEUED half next in the queue is begun, with every accumulator and the residual peak 0 (R78, R79). -/
structure State.HalfFinished (h : HalfId) (rest : List HalfId) (s t : State) : Prop where
  freed : t.half h = { s.half h with state := .free }
  idle  : rest = [] → t.engine.under = none ∧ t.engine.queue = [] ∧ ∀ g, g ≠ h → t.half g = s.half g
  next  : ∀ g more, rest = g :: more → (s.half g).state = .queued → t.half g = { s.half g with state := .inAnalysis } ∧
    t.engine = { s.engine with
      under := some g, queue := rest, inPhase := List.replicate 12 0, quad := List.replicate 12 0, residual := 0 }
  rest  : t = { s with
    engine := t.engine, capture := { s.capture with half0 := t.capture.half0, half1 := t.capture.half1 } }

/-- The claimant that half `h` names discards its result: a nest that is neither MEASURING nor ANALYSING, or whose sweep tag is another;
a CHAIN CHECK that does not hold the chain, or whose tag is another (R25, R39, R80). -/
def State.discards (h : HalfId) (s : State) : Prop :=
  match (s.half h).claimant with
  | .nest n => ((s.nest n).state ≠ .measuring ∧ (s.nest n).state ≠ .analysing) ∨ (s.half h).tag ≠ (s.nest n).tag
  | .check => s.chain.holder ≠ some .check ∨ (s.half h).tag ≠ s.chain.checkTag

/-- The bit of NEST_x_DONE (R180). -/
def nestDoneBit : NestId → BitVec 16
  | .a => 0x0001
  | .b => 0x0002

/-- Code `k` wins among the detected ones: its BINS entry has the lowest priority number, and no code of that priority is lower
(R108). -/
def Bins.wins (b : Bins) (detected : List Nat) (k : Nat) : Prop :=
  k ∈ detected ∧ ∀ i ∈ detected,
    (b.entries.getD (k - 1) ⟨0, 0⟩).priority < (b.entries.getD (i - 1) ⟨0, 0⟩).priority ∨
    ((b.entries.getD (k - 1) ⟨0, 0⟩).priority = (b.entries.getD (i - 1) ⟨0, 0⟩).priority ∧ k ≤ i)

/-- A production unit of serial `v` at attempt `k`, whose test's record is `x`, comes to its verdict in nest `n` under plan `c`. The
record resolves to `r` (R107) and the policy makes of it `w` (R109), `last` saying that the attempt is the last, `pend` that the unit
is RETEST_PENDING, and `suspect` that the consecutive fails reach their limit (R130). The label queue is not empty, or no nest waits
for it. -/
structure State.AtRuling (n : NestId) (c : PlanContent) (x : Nest) (v k : Nat) (r w : Verdict) (last pend suspect : Bool)
    (s : State) : Prop where
  kind     : x.kind = some .production
  serial   : x.serial = some v
  attempt  : x.attempt = some k
  label    : c.marker = none ∨ s.marker.queue ≠ [] ∨ s.marker.waitList = []
  resolved : r = x.resolve c.limits
  atLast   : last = decide (c.policy.maxAttempts ≤ k)
  recorded : w = (if r = .retest ∧ last = true then .fail else r)
  pending  : pend = (decide (w ≠ .pass) && !last)
  suspect  : suspect = decide (w = .fail ∧ 0 < c.policy.failLimit ∧ c.policy.failLimit ≤ s.units.failCount + 1)

/-- The ring, the list and the list sequence after the verdict of serial `v`: a settled unit joins the ring; one that is
RETEST_PENDING joins the young end of the list, where the oldest of 32 expires first (R109, R122, R134, R138). -/
structure State.Settled (v k : Nat) (w : Verdict) (pend : Bool) (b : Nat) (s t : State) : Prop where
  settled : pend = false → t.units.retest = s.units.retest ∧ t.units.listSequence = s.units.listSequence ∧
    t.accounts.ring = keepLast 64 (s.accounts.ring ++ [⟨v,
      if w = .pass then (if k = 1 then .firstPass else .retestPass) else .finalFail⟩]) ∧
    t.accounts.ringSeq = s.accounts.ringSeq + 1
  listed  : pend = true → s.units.retest.length < 32 → t.units.retest = s.units.retest ++ [⟨v, k, w, b⟩] ∧
    t.units.listSequence = s.units.listSequence + 1 ∧ t.accounts.ring = s.accounts.ring ∧
    t.accounts.ringSeq = s.accounts.ringSeq
  evicted : ∀ old rest, pend = true → s.units.retest = old :: rest → 31 ≤ rest.length →
    t.units.retest = rest ++ [⟨v, k, w, b⟩] ∧ t.units.listSequence = s.units.listSequence + 2 ∧
    t.accounts.ring = keepLast 64 (s.accounts.ring ++ [⟨old.serial, .expired⟩]) ∧
    t.accounts.ringSeq = s.accounts.ringSeq + 1

/-- The label job `j` of nest `n` is offered under plan `c`: with a free place it enters the queue with the next ticket and the nest is
DONE; with 8 jobs queued the nest waits in LABEL_WAIT (R29, R155). In an empty queue it becomes head, its label timer starting,
and binds to the first READY device of its role, to which an idle bus with no negotiating device sends its first page (R152, R156,
R157), or fails with NO_DEVICE (R163). -/
structure State.JobOffered (n : NestId) (c : PlanContent) (x : Nest) (j : Job) (s t : State) : Prop where
  full   : 8 ≤ s.marker.queue.length → (t.nest n).state = .labelWait ∧ (t.nest n).ticket = x.ticket ∧
    t.marker = { s.marker with waitList := s.marker.waitList ++ [⟨n, j⟩] }
  queued : s.marker.queue.length < 8 → (t.nest n).state = .done ∧ (t.nest n).ticket = some (s.marker.ticket + 1) ∧
    t.marker.ticket = s.marker.ticket + 1 ∧ t.marker.enqueued = s.marker.enqueued + 1
  behind : s.marker.queue ≠ [] → s.marker.queue.length < 8 →
    t.marker = { s.marker with
      queue := s.marker.queue ++ [{ j with ticket := some (s.marker.ticket + 1) }]
      ticket := s.marker.ticket + 1, enqueued := s.marker.enqueued + 1, bus := t.marker.bus }
  head   : s.marker.queue = [] → (∃ y ∈ s.marker.devices, y.role = j.role) →
    t.marker = { s.marker with
      queue := [{ j with ticket := some (s.marker.ticket + 1) }]
      ticket := s.marker.ticket + 1, enqueued := s.marker.enqueued + 1, bus := t.marker.bus
      head := ⟨s.marker.devices.findIdx? fun y => y.role = j.role && y.state = .ready, 0, false, c.marker.map (·.timeout)⟩ }
  busy   : s.marker.bus ≠ none → t.marker.bus = s.marker.bus
  sent   : ∀ d y, s.marker.queue = [] → s.marker.bus = none → (∀ z ∈ s.marker.devices, z.state ≠ .negotiating) →
    t.marker.head.bound = some d → s.marker.devices[d]? = some y →
    t.marker.bus = some ⟨d, .page (controlByte 0 (y.resolved.getD 0) y.toggle)
      (pagePayload { j with ticket := some (s.marker.ticket + 1) } 0), .live⟩
  failed : s.marker.queue = [] → (∀ y ∈ s.marker.devices, y.role ≠ j.role) →
    t.marker = { s.marker with
      ticket := s.marker.ticket + 1, enqueued := s.marker.enqueued + 1, failed := s.marker.failed + 1
      head := Head.clear, bus := t.marker.bus
      lastFailed := some ⟨{ j with ticket := some (s.marker.ticket + 1) }, .noDevice, none, 0⟩ }

/-- The verdict of a production unit, from `s` to `t` (R29, R105, R107 to R110, R122, R130, R134, R138, R139, R153 to R155): the nest
record, whose record before it is `x`; the counts and the bin; the ring and the list; the consecutive-fail count and verification;
the events of both ports; the label job. That the causes gain NOISY at a RETEST whose records set none is the model's reading
(assumption log 45). -/
structure State.VerdictMade (n : NestId) (c : PlanContent) (x : Nest) (v k : Nat) (r w : Verdict) (last pend suspect : Bool)
    (b : Nat) (s t : State) : Prop where
  bin      : b = c.bins.binOf w (t.nest n).detected
  detected : (t.nest n).detected =
    (if r = .retest ∧ last = true ∧ 14 ∉ x.detected then x.detected ++ [14] else x.detected)
  nest     : t.nest n = { x with
    state := (t.nest n).state, verdict := some w, bin := some b, detected := (t.nest n).detected
    failList := (t.nest n).failList, overflow := (t.nest n).overflow, ticket := (t.nest n).ticket
    causeOverload := x.causeOverload || decide (r = .retest ∧ x.hasStatus .overload = true)
    causeNoisy := x.causeNoisy || decide (r = .retest ∧ x.hasStatus .overload = false) }
  other    : t.nest (otherNest n) = s.nest (otherNest n)
  counts   : t.accounts.counts = { s.accounts.counts with
    firstPass := s.accounts.counts.firstPass + (if w = .pass ∧ k = 1 then 1 else 0)
    retestPass := s.accounts.counts.retestPass + (if w = .pass ∧ k ≠ 1 then 1 else 0)
    finalFail := s.accounts.counts.finalFail + (if w = .fail ∧ last = true then 1 else 0)
    failVerdicts := s.accounts.counts.failVerdicts + (if w = .fail then 1 else 0)
    retestVerdicts := s.accounts.counts.retestVerdicts + (if w = .retest then 1 else 0)
    expired := s.accounts.counts.expired + (if pend = true ∧ 32 ≤ s.units.retest.length then 1 else 0)
    bins := t.accounts.counts.bins }
  bins     : ∀ i : Fin 16, t.accounts.counts.bins[i] =
    if i.val = b then s.accounts.counts.bins[i] + 1 else s.accounts.counts.bins[i]
  accounts : t.accounts = { s.accounts with
    counts := t.accounts.counts, ring := t.accounts.ring, ringSeq := t.accounts.ringSeq }
  settled  : s.Settled v k w pend b t
  units    : t.units = { s.units with
    retest := t.units.retest, listSequence := t.units.listSequence, heldA := t.units.heldA, heldB := t.units.heldB
    failCount := match w with
      | .pass => 0
      | .retest => s.units.failCount
      | .fail => if c.policy.failLimit = 0 ∨ suspect = true then 0 else s.units.failCount + 1
    remaining := if suspect then 0 else s.units.remaining
    qualifiedA := !suspect && s.units.qualifiedA, qualifiedB := !suspect && s.units.qualifiedB }
  held     : t.units.held n = none ∧ t.units.held (otherNest n) = s.units.held (otherNest n)
  ports    : ∀ p, t.port p = { s.port p with
    unverified := suspect || (s.port p).unverified
    events := (s.port p).events ||| nestDoneBit n ||| (if suspect then 0x0100 else 0) |||
      (if s.yieldAlarm = false ∧ t.yieldAlarm = true then 0x0800 else 0) |||
      (if c.marker ≠ none ∧ pend = false ∧ s.marker.queue = [] ∧
        ∀ y ∈ s.marker.devices, y.role ≠ if w = .pass then .label else .reject then 0x0200 else 0) }
  unlabelled : c.marker = none ∨ pend = true →
    (t.nest n).state = .done ∧ (t.nest n).ticket = x.ticket ∧ t.marker = s.marker
  labelled : ∀ j : Job, c.marker ≠ none → pend = false →
    j = ⟨none, v, n, decide (w ≠ .pass), b, k, s.accounts.shift, c.id, if w = .pass then .label else .reject, false, 0,
      (List.range 4).map fun i => ((x.worst[i]?).join).map (·.margin)⟩ → s.JobOffered n c x j t
  rest     : t.loader = s.loader ∧ t.lines = s.lines ∧ t.hold = s.hold ∧ t.straps = s.straps ∧ t.freeCount = s.freeCount ∧
    t.pending = s.pending

/-- The verdict `w` of a reference unit, whose record before it is `x`, from `s` to `t` (R111, R128, R134): it counts reference tests
and passes alone; a PASS of a qualified nest sets the remaining count to the window length; a FAIL or RETEST latches
REFERENCE_FAILED (bit 7); the nest is DONE. That the causes gain NOISY at a RETEST whose records set none is the model's reading
(assumption log 45). -/
structure State.ReferenceVerdictMade (n : NestId) (c : PlanContent) (x : Nest) (w : Verdict) (s t : State) : Prop where
  nest  : t.nest n = { x with
    state := .done, verdict := some w, bin := some (c.bins.binOf w x.detected)
    causeOverload := x.causeOverload || decide (w = .retest ∧ x.hasStatus .overload = true)
    causeNoisy := x.causeNoisy || decide (w = .retest ∧ x.hasStatus .overload = false) }
  whole : t = State.modNest n (fun _ => t.nest n)
    { s with
      gen := t.gen, chain := t.chain, capture := t.capture, engine := t.engine
      accounts := { s.accounts with counts := { s.accounts.counts with
        refTests := s.accounts.counts.refTests + 1
        refPass := s.accounts.counts.refPass + (if w = .pass then 1 else 0) } }
      units := { s.units with
        remaining := if w = .pass ∧ s.units.qualified n = true then c.policy.windowLength else s.units.remaining
        lastReference := some (if w = .pass then (if s.units.qualified n then .granted else .notQualified) else .failed) }
      station := { s.station with
        events := s.station.events ||| nestDoneBit n ||| (if w = .pass then 0 else 0x0080) }
      line := { s.line with events := s.line.events ||| nestDoneBit n ||| (if w = .pass then 0 else 0x0080) } }

/-- The state in which a CHAIN CHECK with the results `a` and `b` has ended, nobody waiting and no activation pending: the chain is
free, the reply carries the result and both levels, and a FAIL withdraws verification and latches CHAIN_FAULT (R39, R185). -/
def State.checkEnded (a b : Int) (pass : Bool) (s : State) : State :=
  { s with
    chain := { s.chain with holder := none, checkA := some a, checkB := some b, checkFaded := true }
    units := if pass then s.units else { s.units with remaining := 0, qualifiedA := false, qualifiedB := false }
    station := { s.station with
      slot := .done, running := none, events := s.station.events ||| (if pass then 0x4000 else 0x4040)
      unverified := s.station.unverified || !pass
      reply := writeBytes s.station.reply 0 (replyHeader s.station.lastCode s.station.sequence .ok 0 5 ++
        ([if pass then 1 else 2] ++ leSigned a ++ leSigned b)) }
    line := { s.line with
      events := s.line.events ||| (if pass then 0 else 0x0040), unverified := s.line.unverified || !pass } }

/-- The half of a window that claimant `c` begins with first phase `p0` (R54, R63): its tag, the point's entry, N by R54, the window
attempt, the input measured and, for a nest, the active calibration's offset for it; nothing is recorded yet. -/
def State.windowHalf (c : Claimant) (p0 : Phase) (s : State) : Half where
  state := .filling
  claimant := c
  tag := s.gen.tag
  point := s.gen.cursor
  freq := s.currentPoint.freq
  input := match c with
    | .nest n => n
    | .check => if s.gen.cursor = 0 then .a else .b
  inc := s.currentPoint.inc
  cEff := s.currentPoint.cEff
  harmonics := s.currentPoint.harmonics
  guard := s.currentPoint.guard
  p0 := p0
  length := windowSamples s.currentPoint.cEff p0 s.currentPoint.inc
  attempt := s.capture.attempt
  micOffset := match c with
    | .nest .a => s.capture.active.map (·.micA)
    | .nest .b => s.capture.active.map (·.micB)
    | .check => none
  samples := []
  peak := 0
  ambient := 0

/-- The sample that generator `g` is about to form may begin the first window of its point: it is a post-wrap sample that follows
the settle cycles and 480 samples of the point (R52). -/
def Generator.settled (settle : Nat) (g : Generator) : Prop := g.postWrap = true ∧ settle ≤ g.wraps ∧ 480 ≤ g.samples

/-- A Station Port whose MARKER START runs is answered OK, with each device's address, role, state, cause and format, and latches
REQUEST_DONE (bit 14), once no device of the table is NEGOTIATING (R151, R185). -/
def Port.startSettled (devices : List Device) (q : Port) : Port :=
  match q.running with
  | some ⟨.markerStart, _, true⟩ =>
    if ∀ d ∈ devices, d.state ≠ .negotiating then
      { q with
        slot := .done, running := none, events := q.events ||| 0x4000
        reply := writeBytes q.reply 0 (replyHeader q.lastCode q.sequence .ok 0 (1 + 3 * devices.length) ++
          (byte devices.length ++ (devices.map fun d =>
            byte d.address ++
            byte ((match d.role with | .label => 0 | .reject => 1) +
              2 * (match d.state with | .down => 0 | .negotiating => 1 | .ready => 2 | .fault => 3) +
              8 * (match d.cause with | none => 0 | some .absent => 1 | some .badVersion => 2 | some .noCommonFormat => 3)) ++
            byte (d.resolved.getD 0)).flatten)) }
    else q
  | _ => q

/-- A device whose negotiation starts: NEGOTIATING, its abilities, format and cause cleared, its NAK count 0 and its retry wait
stopped, its toggle and history standing (R148). -/
def Device.renegotiated (d : Device) : Device :=
  { d with state := .negotiating, cause := none, abilities := none, resolved := none, naks := 0, retryWait := false }

/-- A reply of a page transaction that is a link loss for a device with expected toggle `toggle`: a NAK, an ACCEPT with the other
echo, or an unknown code (R157, R159). -/
def losesLink (toggle : Bool) (r : PageResult) : Prop :=
  r = .nak ∨ (∃ b : Byte, r = .reply b ∧
    ((b.toNat % 16 = 1 ∧ b.getLsbD 7 ≠ toggle) ∨ b.toNat % 16 = 0 ∨ 3 < b.toNat % 16))

/-- What curve `c` makes of record `r` (R101 to R103), `g` being the reference state and `isRef` marking the reference point's own
record: absent where it passes over it, `some none` for NO_RESPONSE, else the value it judges. -/
def Curve.reads (g : RefState) (isRef : Bool) (r : PointRecord) (c : Curve) : Option (Option Int) :=
  if c.applies r.freq = false then none
  else
    match c.measure with
    | .spl => r.spl.map some
    | .rel => if g = .valid then r.rel.map some else if isRef ∧ r.status = .noSignal then some none else none
    | .thd => if r.status = .noSignal then some none else r.thd.map some
    | .rnb => if r.status = .noSignal then some none else r.rnb.map some

/-- A point joins a judged set (R100). -/
def joinsJudged (point : Nat) (l : List Nat) : List Nat := if point ∈ l then l else l ++ [point]

/-- The records of `n` that the visit of the VALID reference record at `reference` brings to curve `u`, in index order: every VALID or
NO_SIGNAL record for a REL curve, the reference point's own for the others (R102). -/
def Nest.visited (u : Curve) (reference : Nat) (n : Nest) : List PointRecord :=
  (n.slots.filterMap id).filter fun y =>
    (y.status = .valid || y.status = .noSignal) && (u.measure = .rel || y.index = reference)

/-- The 22 bytes of a job record from place `i` of a body, where the job states them (R183). -/
structure Job.StandsAt (i : Nat) (body : List Byte) (j : Job) : Prop where
  ticket   : ∀ t, j.ticket = some t → u16At body i = t.toNat
  serial   : u16At body (i + 2) + 65536 * u8At body (i + 4) = j.serial % 16777216
  flags    : u8At body (i + 5) = (match j.nest with | .a => 0 | .b => 1) + 2 * j.fails.toNat +
    4 * (match j.role with | .label => 0 | .reject => 1) + 8 * j.reprint.toNat +
    ((List.range 4).map fun c => if ((j.margins[c]?).join).isSome then 2 ^ (4 + c) else 0).sum
  bin      : u8At body (i + 6) = (j.bin + 16 * j.attempt) % 256
  shift    : u16At body (i + 7) = j.shift % 65536
  planId   : u32At body (i + 9) = j.planId.toNat
  restarts : u8At body (i + 13) = j.restarts % 256
  margins  : ∀ c v, c < 4 → (j.margins[c]?).join = some v → (body.drop (i + 14 + 2 * c)).take 2 = leSigned v

/-! ### Safe states -/

/-- The lists keep within the bounds the spec gives them: the retest list (R120), the outcome ring (R138), the shift records
(R143) and the label queue (R165). -/
structure State.ListsBounded (s : State) : Prop where
  retest : s.units.retest.length ≤ 32
  ring   : s.accounts.ring.length ≤ 64
  shifts : s.accounts.shifts.length ≤ 8
  labels : s.marker.queue.length ≤ 8

/-- labels_enqueued = labels_done + labels_failed + jobs in the label queue, in the counters' arithmetic (R165). -/
def State.LabelsBalance (s : State) : Prop :=
  s.marker.enqueued = s.marker.done + s.marker.failed + BitVec.ofNat 32 s.marker.queue.length

/-- The remaining count lies between 0 and the active plan's window length (R126), and while the station is unverified both
ports' unverified marks are set (R175). -/
structure State.VerificationSound (s : State) : Prop where
  bound : s.units.remaining ≤ s.windowLength
  marks : s.verified = false → s.station.unverified = true ∧ s.line.unverified = true

/-- Who holds the chain, who waits for it, and who is measured agree: a nest is MEASURING exactly when it holds the chain,
it stands in the queue once while it is WAITING and not otherwise, and a free chain has an empty queue (R36); a CHAIN CHECK stands in
the queue once while its request runs and does not hold the chain, and not otherwise, and one that holds it runs (R36, R38); the
generator serves no nest but the holder (R37), and the wait list holds nests in LABEL_WAIT, each once (R155). A request that a port
has started and not answered belongs to that port, and its slot is RUNNING (R170, R173); a loader in CHECKING has its PLAN CLOSE
running (R13). -/
structure State.ChainSound (s : State) : Prop where
  measuring : ∀ n, (s.nest n).state = .measuring ↔ s.chain.holder = some (.nest n)
  queued    : ∀ n, s.chain.queue.count (.nest n) = if (s.nest n).state = .waiting then 1 else 0
  free      : s.chain.holder = none → s.chain.queue = []
  generator : ∀ n, s.gen.claimant = some (.nest n) → s.chain.holder = some (.nest n)
  waits     : ∀ n, s.marker.waitList.countP (fun w => w.nest = n) = if (s.nest n).state = .labelWait then 1 else 0
  check     : s.chain.queue.count .check =
    if s.runs .station .chainCheck = true ∧ s.chain.holder ≠ some .check then 1 else 0
  checking  : s.chain.holder = some .check → s.runs .station .chainCheck = true
  requests  : ∀ p r, (s.port p).running = some r → (s.port p).slot = .running ∧ onPort p r.request = true
  closing   : s.loader.state = .checking → s.runs .station .planClose = true

/-- What every nest record keeps to: a SKIPPED point stands only beside a detected reason (R58, R107); a nest MEASURING or ANALYSING has
no verdict (R37); and a record with the verdict PASS has no OVERLOAD, NOISY or SKIPPED point and no detected reason (R107). -/
structure State.RecordsSound (s : State) : Prop where
  skipped : ∀ n, (s.nest n).hasStatus .skipped = true → (s.nest n).detected ≠ []
  unruled : ∀ n, (s.nest n).state = .measuring ∨ (s.nest n).state = .analysing → (s.nest n).verdict = none
  pass    : ∀ n, (s.nest n).verdict = some .pass → (s.nest n).detected = [] ∧
    ∀ y, some y ∈ (s.nest n).slots → y.status ≠ .overload ∧ y.status ≠ .noisy ∧ y.status ≠ .skipped

/-- The engine, its queue and the capture halves agree: an IDLE engine has an empty queue; the half under analysis of a BUSY one is the
head of the queue and IN_ANALYSIS; a half behind it is QUEUED; the queue has no repeats and holds the halves QUEUED or IN_ANALYSIS and
no others (R61, R77, R78, R82). -/
structure State.EngineSound (s : State) : Prop where
  idle   : s.engine.under = none → s.engine.queue = []
  busy   : ∀ h, s.engine.under = some h → s.engine.queue.head? = some h ∧ (s.half h).state = .inAnalysis
  behind : ∀ h ∈ s.engine.queue.tail, (s.half h).state = .queued
  once   : s.engine.queue.Nodup
  holds  : ∀ h, h ∈ s.engine.queue ↔ (s.half h).state = .queued ∨ (s.half h).state = .inAnalysis

/-- A nest that holds a unit not yet settled or given back: LOADED or in test (R31, R136). -/
def Nest.holdsUnit (n : Nest) : Bool := n.state = .loaded || n.state.inTest

/-- Every unit stands where its accounts say (R120, R136): issued is the sum of the five ends, the retest list and the
unsettled units in nests; a unit in a nest has a kind, a production unit a serial, and a retest its held entry; no serial is
twice in the list, in both nest records, whatever their states, or in the list and unsettled in a nest; and each list entry's
attempts made are below the active plan's maximum. -/
structure State.UnitsBalance (s : State) : Prop where
  issued : s.accounts.counts.issued =
    s.accounts.counts.firstPass + s.accounts.counts.retestPass + s.accounts.counts.finalFail + s.accounts.counts.expired +
    s.accounts.counts.releasedUntested + BitVec.ofNat 32 (s.units.retest.length + s.unsettledUnits)
  kinds  : ∀ n, (s.nest n).holdsUnit → (s.nest n).kind ≠ none
  serial : ∀ n, (s.nest n).unsettled → (s.nest n).serial ≠ none
  held   : ∀ n, (s.nest n).unsettled → (s.nest n).attempt ≠ some 1 → (s.units.held n).map (·.serial) = (s.nest n).serial
  list   : (s.units.retest.map (·.serial)).Nodup
  apart  : ∀ n, (s.nest n).unsettled → ∀ e ∈ s.units.retest, (s.nest n).serial ≠ some e.serial
  nests  : s.nestA.serial ≠ none → s.nestA.serial ≠ s.nestB.serial
  below  : ∀ c, s.plan = some c → ∀ e ∈ s.units.retest, e.attempts < c.policy.maxAttempts

/-- A safe state: every law of the part that the spec states over its whole state holds in it. -/
structure State.Safe (s : State) : Prop where
  lists        : s.ListsBounded
  labels       : s.LabelsBalance
  verification : s.VerificationSound
  chain        : s.ChainSound
  records      : s.RecordsSound
  engine       : s.EngineSound
  units        : s.UnitsBalance

end Sys2Proof.Machine
end

