-- ==== Sys2Proof/Certificates/Slice0/Obligations.lean ====
section
/-! DEFINITION. The statements about the part, for the provers: ports and resets, plans, nests, the chain and the sweep, analysis
and verdicts, lists and accounts, the marker link, and the laws every step keeps. -/

section
open Sys2Proof Sys2Proof.Machine

/-! ### The queue, resets, ports -/

/-- One step takes the command at the front of the queue and runs it with the queue's rest; on an empty queue one sample period
passes. The queue and the sample period on an empty queue are the model's choices (assumption logs 1 and 4). -/
def Obligations.StepRunsTheFrontCommand : Prop :=
  (∀ (c : Instr) (rest : List Instr) (s : State), s.pending = c :: rest → step s = exec c { s with pending := rest }) ∧
  (∀ s : State, s.pending = [] → step s = .next s.tick)

/-- RESET_RELEASE (R187): when the last cause goes, each port's event set holds RESET alone with its mark set and its mask
masking every event, no attention is asserted, the line address is 58h plus the straps, and every block has its power-on values;
the pin levels applied from outside and the waiting commands stand, a transaction under way is marked as lost, whose port attends to
it no more, a Line Port read that sends no offset continues from 00h (R188), and the window attempt keeps its value (R68; the model's reading, assumption log 42). The values the spec does not give are those of
assumption log 10. While another cause stands the part stays held. -/
def Obligations.ReleaseGivesPowerOnValues : Prop :=
  (∀ (c : HoldCause) (a : BitVec 2) (b : ReleasePins) (s : State), s.hold.has c = true →
    s.hold.set c false = ⟨false, false⟩ →
    ∃ t, exec (.resetRelease c a b) s = .next t ∧
      t.held = false ∧ t.straps = ⟨a, b.ambient⟩ ∧ t.lineAddress = 0x58 + a.toNat ∧
      (∀ p, (t.port p).events = 0x8000 ∧ (t.port p).unverified = true ∧ (t.port p).mask = 0xFFFFFFFF ∧
        t.attention p = false ∧ (t.port p).slot = .idle ∧ (t.port p).sequence = 0 ∧ (t.port p).lastCode = 0 ∧
        (t.port p).params = Vector.replicate 64 0 ∧ (t.port p).reply = Vector.replicate 64 0) ∧
      t.loader.state = .idle ∧ t.loader.active = none ∧ t.loader.staged = none ∧ t.loader.writePtr = 0 ∧
      t.loader.overrun = false ∧ t.loader.burstRunning = false ∧
      (∀ i : Fin 8, t.lines.line[i].function = .unused ∧ t.lines.line[i].pin = s.lines.line[i].pin) ∧
      (∀ n, (t.nest n).state = .empty ∧ (t.nest n).tag = 0 ∧ (t.nest n).lastRefusal = none) ∧
      t.chain.queue = [] ∧ t.chain.holder = none ∧ t.gen.mode = .silent ∧
      t.capture.half0.state = .free ∧ t.capture.half1.state = .free ∧ t.capture.active = none ∧ t.engine.under = none ∧
      t.units = UnitTable.reset ∧ t.accounts.counts = Counts.zero ∧ t.accounts.ring = [] ∧ t.accounts.shift = 1 ∧
      t.marker = Marker.reset ∧ t.pending = s.pending ∧
      t.attends .station = !b.stationInside ∧ t.attends .line = !b.lineInside ∧
      (∀ n, (t.lineRead none n).map (·.1) = some (t.windowBytes .line 0 n)) ∧
      t = { State.powerOn ⟨a, b.ambient⟩ with
        station := { Port.reset with lost := b.stationInside }
        line := { Port.reset with lost := b.lineInside }
        lines := { Lines.reset with line := s.lines.line.map (fun x => { Line.reset with pin := x.pin }) }
        capture := { Capture.reset with attempt := s.capture.attempt }
        freeCount := s.freeCount, pending := s.pending }) ∧
  (∀ (c : HoldCause) (a : BitVec 2) (b : ReleasePins) (s : State), s.hold.has c = true →
    s.hold.set c false ≠ ⟨false, false⟩ → exec (.resetRelease c a b) s = .next { s with hold := s.hold.set c false })

/-- RESET_HOLD (R186): the attention outputs are released, no event line is driven, the DAC gives 0, the amplifier switch selects
neither nest, the Marker Bus is idle and neither port answers; no reply is written, no event latched, no account incremented. A
hold that begins while the part is held changes nothing but the cause noted. While the part is
held no request and no event reaches it: every command but a hold, a release and a change of a pin level leaves it as it was.
A transaction under way at the release is lost whole (R188): no byte of it is applied, also where it ends after the release, and the
port does not attend to it. Every other transaction, the first after the release with it, does what it does once the lost one is
over, and the port attends from then on: a write of a request or of other bytes, a read of the Station Port, and a read of the Line
Port. That the nests, lists and the plan stand until the release, and that the end of a lost transaction, whatever it carries, comes
as a PARAMETER_AREA_WRITE, are the model's choices (assumption logs 20 and 38). -/
def Obligations.HoldStopsThePart : Prop :=
  (∀ (c : HoldCause) (s : State), s.held = false →
    ∃ t, exec (.resetHold c) s = .next t ∧ t.held = true ∧
      (∀ p, t.attention p = false) ∧ (∀ i, t.lineDrive i = none) ∧ t.gen.dac = 0 ∧ t.gen.mode = .silent ∧
      t.amplifier = none ∧ t.loopback = false ∧ t.marker.bus = none ∧ t.marker.head.timer = none ∧
      (∀ a o n, t.stationRead a o n = none) ∧ (∀ o n, t.lineRead o n = none) ∧ (∀ p, t.attends p = false) ∧
      (∀ i : Fin 8, t.lines.line[i].timer = false) ∧ t.loader.burstRunning = false ∧ t.loader.state ≠ .checking ∧
      t.engine.under = none ∧ t.station = s.station ∧ t.line = s.line ∧ t.accounts = s.accounts ∧ t.units = s.units ∧
      t.nestA = s.nestA ∧ t.nestB = s.nestB ∧ t.pending = s.pending) ∧
  (∀ (c : HoldCause) (s : State), s.held = true → exec (.resetHold c) s = .next { s with hold := s.hold.set c true }) ∧
  (∀ (i : Instr) (s : State), s.held = true → (∀ c, i ≠ .resetHold c) → (∀ c a b, i ≠ .resetRelease c a b) →
    (∀ l v, i ≠ .linePinChange l v) → exec i s = .next s) ∧
  (∀ (p : PortId) (access start : Byte) (data : List Byte) (s : State), s.held = false →
    exec (.parameterAreaWrite p access start data .interrupted) s = .next (s.modPort p fun q => { q with lost := false })) ∧
  (∀ (p : PortId) (i : Instr) (s : State), s.held = false →
    (∃ r params t, i = commandOf r p params t) ∨ (∃ code params, i = .unknownRequest p code params) ∨
      (∃ access start data fate, i = .parameterAreaWrite p access start data fate) →
    exec i s = exec i (s.modPort p fun q => { q with lost := false }) ∧
    ∀ t, exec i s = .next t → t.attends p = true) ∧
  (∀ (p : PortId) (s : State), (s.port p).lost = true → s.attends p = false) ∧
  (∀ (access : Byte) (o : Option Byte) (start n : Nat) (s : State), s.held = false →
    (∃ bs t, s.stationRead access start n = some (bs, t) ∧ t.attends .station = true) ∧
    (∃ bs t, s.lineRead o n = some (bs, t) ∧ t.attends .line = true))

/-- A request written on a port it does not belong to is refused with NOT_ON_THIS_PORT, subcode 0 and an empty body, and
reaches no block (R173). A code that names no request is answered by the port with
UNKNOWN_REQUEST and an empty body, and the slot is REFUSED (R170). A nest selector other than A and B is refused with BAD_PARAM,
subcode 0 (R26, R27, R31, R32, R173). -/
def Obligations.PortsRefuseWhatNobodyCanTake : Prop :=
  (∀ (r : Request) (p : PortId) (params : List Byte) (t : Taking) (s : State), s.ready p → onPort p r = false →
    exec (commandOf r p params t) s = .next (s.replied p r params .notOnThisPort 0 [])) ∧
  (∀ (p : PortId) (code : Byte) (params : List Byte) (s : State), s.ready p → requestOf code = none →
    exec (.unknownRequest p code params) s = .next (s.modPort p (Port.replied p code params .unknownRequest 0 [])) ∧
    (Port.replied p code params .unknownRequest 0 [] (s.port p)).slot = .refused) ∧
  (∀ (r : Request) (p : PortId) (v : Byte) (rest : List Byte) (s : State), s.ready p → onPort p r = true → v ≠ 1 → v ≠ 2 →
    r = .loadUnit ∨ r = .releaseNest ∨ r = .startNest ∨ r = .abortNest ∨ r = .readNest ∨ r = .readPoints →
    exec (commandOf r p (v :: rest) .atOnce) s = .next (s.replied p r (v :: rest) .badParam 0 []))

/-- A code other than ABANDON's written to a RUNNING slot: COLLISION, bit 13, is latched on that port alone; the running request,
the slot, the sequence, the last-started code and the reply area are unchanged, and the parameter area may be written (R171). -/
def Obligations.CollisionIsLatchedOnItsPort : Prop :=
  ∀ (i : Instr) (p : PortId) (params : List Byte) (s : State), s.listens p → (s.port p).slot = .running →
    ((∃ r t, r ≠ .abandon ∧ i = commandOf r p params t) ∨ (∃ code, code ≠ 0x7F ∧ i = .unknownRequest p code params)) →
    exec i s = .next (s.modPort p fun q =>
      { q with
        params := writeBytes q.params 0 params
        readOffset := (q.written p params).readOffset
        events := q.events ||| 0x2000 })

/-- A request that waits is RUNNING with its copy of the parameter area and the old reply; its block's taking of it at
REQUEST_TAKEN gives what taking it at once gives (R170). That REQUEST_TAKEN with no request waiting changes nothing is the model's
choice (assumption log 3). -/
def Obligations.LaterTakingEqualsTakingAtOnce : Prop :=
  (∀ (r : Request) (p : PortId) (params : List Byte) (s : State), r ≠ .abandon → s.ready p → onPort p r = true →
    exec (commandOf r p params .later) s = .next (s.begun p r params false) ∧
    ((s.begun p r params false).port p).reply = (s.port p).reply ∧
    ∃ u, exec (.requestTaken p) (s.begun p r params false) = .next u ∧ exec (commandOf r p params .atOnce) s = .next u) ∧
  (∀ (p : PortId) (s : State), (s.port p).running = none → exec (.requestTaken p) s = .next s)

/-- PARAMETER_AREA_WRITE (R167 to R169): bytes that fall in the parameter area stand there and nothing else of the part changes
but the place where a Line Port read continues; a Station Port transaction whose access byte is not that of a write changes
nothing. A Line Port read that sends no offset continues after the last byte written or read; that a write without data leaves the
pointer at its offset, and one that breaks off in a byte leaves the pointer, are the model's choices (assumption log 31). On the
Station Port, a request whose parameters were written before its code acts as one written with them (assumption log 30).
A read gives the window from its offset on, byte by byte: slot status, last code, sequence, parameter area, reply area, and 00h
elsewhere and beyond FFh; it changes nothing but the Line Port's read pointer, and ends a transaction that a hold interrupted (R188). With another access byte than that of a read the Station
Port gives 00h (R168; for a write the model's choice, assumption log 37). That reads are functions of the state is log 31. -/
def Obligations.ParameterAreaWriteFillsTheArea : Prop :=
  (∀ (p : PortId) (access start : Byte) (data : List Byte) (s : State), s.listens p → writeApplies p access .whole = true →
    0x40 ≤ start.toNat → start.toNat + data.length ≤ 0x80 →
    ∃ t, exec (.parameterAreaWrite p access start data .whole) s = .next t ∧
      (∀ j (h : j < 64), (t.port p).params[j] =
        if start.toNat - 0x40 ≤ j ∧ j < start.toNat - 0x40 + data.length then data.getD (j - (start.toNat - 0x40)) 0
        else (s.port p).params[j]) ∧
      (t.port p).readOffset = (match p with | .station => s.station.readOffset | .line => start.toNat + data.length) ∧
      t = s.modPort p fun q => { q with params := (t.port p).params, readOffset := (t.port p).readOffset }) ∧
  (∀ (p : PortId) (access start : Byte) (data : List Byte) (s : State), (s.port p).lost = false →
    exec (.parameterAreaWrite p access start data .broken) s = .next s) ∧
  (∀ (access start : Byte) (data : List Byte) (k : WriteEnd) (s : State), s.station.lost = false → access ≠ 1 →
    exec (.parameterAreaWrite .station access start data k) s = .next s) ∧
  (∀ (r : Request) (t : Taking) (params : List Byte) (s u : State), s.listens .station → params.length ≤ 64 →
    exec (.parameterAreaWrite .station 1 0x40 params .whole) s = .next u →
    exec (commandOf r .station [] t) u = exec (commandOf r .station params t) s) ∧
  (∀ (start n : Nat) (s : State), s.held = false →
    ∃ bs, s.stationRead 2 start n = some (bs, { s with station := { s.station with lost := false } }) ∧
      bs.length = n ∧ s.Shows .station start bs) ∧
  (∀ (access : Byte) (start n : Nat) (s : State), s.held = false → access ≠ 2 →
    s.stationRead access start n = some (List.replicate n 0, { s with station := { s.station with lost := false } })) ∧
  (∀ (offset : Option Byte) (start n : Nat) (s : State), s.held = false →
    start = (match offset with | some b => b.toNat | none => s.line.readOffset) →
    ∃ bs, s.lineRead offset n =
        some (bs, { s with line := { s.line with readOffset := min 256 (start + n), lost := false } }) ∧
      bs.length = n ∧ s.Shows .line start bs)

/-- ABANDON (R172): a slot that is IDLE, DONE or REFUSED becomes IDLE and keeps its reply; a request that its block has not taken
is withdrawn with status ABANDONED and an empty body, and its slot becomes IDLE. The sequence does not advance and nothing is
latched. A taken PLAN CLOSE ends: the loader is RECEIVING again with its burst timer running and its bytes, write pointer and
overrun mark unchanged; the reply is ABANDONED with the loader fields and no check result; nothing is latched (R17). That the reply
shows the loader as the abandon leaves it is the model's choice (assumption log 34). -/
def Obligations.AbandonClearsWithdrawsOrReopens : Prop :=
  (∀ (p : PortId) (params : List Byte) (s : State), s.ready p →
    exec (.abandon p params) s = .next (s.modPort p fun q => { q.written p params with slot := .idle })) ∧
  (∀ (p : PortId) (params : List Byte) (r : RunningRequest) (s : State), s.listens p → (s.port p).slot = .running →
    (s.port p).running = some r → r.taken = false →
    exec (.abandon p params) s = .next (s.modPort p fun q =>
      { q.written p params with
        slot := .idle, running := none
        reply := writeBytes q.reply 0 (replyHeader q.lastCode q.sequence .abandoned 0 0) })) ∧
  (∀ (ps : Vector Byte 64) (s : State), s.listens .station → s.station.slot = .running →
    s.station.running = some ⟨.planClose, ps, true⟩ → s.loader.state = .checking →
    exec (.abandon .station []) s = .next
      { s with
        loader := { s.loader with state := .receiving, burstRunning := true }
        station := { s.station with
          slot := .done, running := none
          reply := writeBytes s.station.reply 0
            (replyHeader s.station.lastCode s.station.sequence .abandoned 0 16 ++
              (byte 1 ++ le 2 s.loader.writePtr ++ le 2 s.loader.declared ++ flag s.loader.overrun ++
                lePlanId (s.loader.staged.map (·.content.id)) ++ lePlanId (s.loader.active.map (·.content.id)))) } })

/-- ABANDON of a CHAIN CHECK. While it waits, its entry leaves the queue (R38). While it holds the chain, the generator stops at
once, its windows not under analysis are freed and the chain is freed (R40). The slot is DONE with ABANDONED and an empty body,
nothing is latched and verification stands. -/
def Obligations.AbandonOfChainCheck : Prop :=
  (∀ (ps : Vector Byte 64) (s : State), s.listens .station → s.station.slot = .running →
    s.station.running = some ⟨.chainCheck, ps, true⟩ → s.chain.holder ≠ some .check →
    exec (.abandon .station []) s = .next
      { s with
        chain := { s.chain with queue := s.chain.queue.filter (· ≠ .check) }
        station := { s.station with
          slot := .done, running := none
          reply := writeBytes s.station.reply 0 (replyHeader s.station.lastCode s.station.sequence .abandoned 0 0) } }) ∧
  (∀ (ps : Vector Byte 64) (s : State), s.listens .station → s.station.slot = .running →
    s.station.running = some ⟨.chainCheck, ps, true⟩ → s.chain.holder = some .check → s.chain.queue = [] →
    s.loader.state ≠ .pending →
    ∃ t, exec (.abandon .station []) s = .next t ∧
      t.chain = { s.chain with holder := none } ∧ t.gen = { s.gen with mode := .silent, dac := 0, stopMark := false, claimant := none } ∧
      t.loopback = false ∧ t.capture.holdoff = none ∧
      (∀ h, (s.half h).claimant = .check → (s.half h).tag = s.chain.checkTag →
        (s.half h).state = .filling ∨ (s.half h).state = .queued → (t.half h).state = .free ∧ h ∉ t.engine.queue) ∧
      (∀ h, (s.half h).claimant ≠ .check → t.half h = s.half h) ∧ t.engine.under = s.engine.under ∧
      t.station = { s.station with
        slot := .done, running := none
        reply := writeBytes s.station.reply 0 (replyHeader s.station.lastCode s.station.sequence .abandoned 0 0) } ∧
      t.line = s.line ∧ t.units = s.units ∧ t.accounts = s.accounts ∧ t.marker = s.marker ∧ t.loader = s.loader ∧
      t.lines = s.lines ∧ t.nestA = s.nestA ∧ t.nestB = s.nestB)

/-- ABANDON of a MARKER START: every NEGOTIATING device is DOWN with NAK count 0 and its retry wait stopped, the others stand, a probe
under way is discarded, and the slot is DONE with ABANDONED and an empty body (R151). With label jobs waiting, a head job bound to a
device that goes DOWN is unbound and matched again: it returns to page 0, its BUSY wait is stopped, its label timer runs on, and it
binds to the first READY device of its role, if any is READY; the head job bound to another device, or to none, stands (R156, R160).
The jobs keep their restart counts. An idle bus takes the page that is then ready (R152). -/
def Obligations.AbandonOfMarkerStart : Prop :=
  (∀ (ps : Vector Byte 64) (s : State), s.listens .station → s.station.slot = .running →
    s.station.running = some ⟨.markerStart, ps, true⟩ → s.marker.queue = [] → s.marker.head.bound = none →
    ∃ t, exec (.abandon .station []) s = .next t ∧
      t.marker.devices = (s.marker.devices.map fun d =>
        if d.state = .negotiating then { d with state := .down, naks := 0, retryWait := false } else d) ∧
      t.marker.bus = (s.marker.bus.map fun x => if x.work = .probe then { x with fate := .discarded } else x) ∧
      t = { s with
        marker := { s.marker with devices := t.marker.devices, bus := t.marker.bus }
        station := { s.station with
          slot := .done, running := none
          reply := writeBytes s.station.reply 0 (replyHeader s.station.lastCode s.station.sequence .abandoned 0 0) } }) ∧
  (∀ (ps : Vector Byte 64) (j : Job) (rest : List Job) (s : State), s.listens .station → s.station.slot = .running →
    s.station.running = some ⟨.markerStart, ps, true⟩ → s.marker.queue = j :: rest →
    (∃ y ∈ s.marker.devices, y.role = j.role) →
    ∃ t, exec (.abandon .station []) s = .next t ∧
      t.marker.devices = (s.marker.devices.map fun d =>
        if d.state = .negotiating then { d with state := .down, naks := 0, retryWait := false } else d) ∧
      (s.marker.bus ≠ none →
        t.marker.bus = (s.marker.bus.map fun x => if x.work = .probe then { x with fate := .discarded } else x)) ∧
      (s.marker.bus = none → t.marker.Served) ∧
      (∀ d x, s.marker.head.bound = some d → s.marker.devices[d]? = some x → x.state = .negotiating →
        t.marker.head = { s.marker.head with
          bound := s.marker.devices.findIdx? fun y => y.role = j.role && y.state = .ready, page := 0, busyWait := false }) ∧
      ((∀ d x, s.marker.head.bound = some d → s.marker.devices[d]? = some x → x.state ≠ .negotiating) →
        t.marker.head = s.marker.head) ∧
      t = { s with
        marker := { s.marker with devices := t.marker.devices, bus := t.marker.bus, head := t.marker.head }
        station := { s.station with
          slot := .done, running := none
          reply := writeBytes s.station.reply 0 (replyHeader s.station.lastCode s.station.sequence .abandoned 0 0) } })

/-! ### Plans -/

/-- PLAN OPEN (R10): good parameters in IDLE, RECEIVING or STAGED open a transfer, with the loader fields in the reply, and in PENDING
are refused with STATE, the pending activation standing, as they are in CHECKING, where the spec lets none arrive (the model's choice,
assumption log 3); a size or a timeout out of range is refused with BAD_PARAM in every state and leaves the loader as it was. -/
def Obligations.PlanOpenOpensATransfer : Prop :=
  (∀ (size timeout : Nat) (s : State), s.ready .station → 64 ≤ size → size ≤ 16384 → size % 4 = 0 → 1 ≤ timeout →
    timeout ≤ 63 → s.loader.state = .idle ∨ s.loader.state = .receiving ∨ s.loader.state = .staged →
    exec (.planOpen .station (le 2 size ++ byte timeout) .atOnce) s = .next (State.replied .station .planOpen
      (le 2 size ++ byte timeout) .ok 0
      (byte 1 ++ le 2 0 ++ le 2 size ++ byte 0 ++ lePlanId none ++ lePlanId (s.loader.active.map (·.content.id)))
      { s with loader := { s.loader with
          state := .receiving, staging := [], writePtr := 0, declared := size, timeout := timeout, overrun := false,
          burstRunning := true, staged := none } })) ∧
  (∀ (size timeout : Nat) (s : State), s.ready .station → size < 65536 → timeout < 256 →
    size < 64 ∨ 16384 < size ∨ size % 4 ≠ 0 →
    exec (.planOpen .station (le 2 size ++ byte timeout) .atOnce) s = .next (State.replied .station .planOpen
      (le 2 size ++ byte timeout) .badParam 0 (loaderBody s.loader) s)) ∧
  (∀ (size timeout : Nat) (s : State), s.ready .station → 64 ≤ size → size ≤ 16384 → size % 4 = 0 → timeout < 256 →
    timeout < 1 ∨ 63 < timeout →
    exec (.planOpen .station (le 2 size ++ byte timeout) .atOnce) s = .next (State.replied .station .planOpen
      (le 2 size ++ byte timeout) .badParam 2 (loaderBody s.loader) s)) ∧
  (∀ (size timeout : Nat) (s : State), s.ready .station → 64 ≤ size → size ≤ 16384 → size % 4 = 0 → 1 ≤ timeout →
    timeout ≤ 63 → s.loader.state = .checking ∨ s.loader.state = .pending →
    exec (.planOpen .station (le 2 size ++ byte timeout) .atOnce) s = .next (State.replied .station .planOpen
      (le 2 size ++ byte timeout) .state (loaderStateCode s.loader.state) (loaderBody s.loader) s))

/-- PLAN DATA (R11): in RECEIVING the bytes that fit below the declared size are stored at the write pointer, the others set the
overrun mark, and the burst timer runs again; in any other state the burst is refused with STATE, and a byte count of 0 or above
56 with BAD_PARAM in every state. -/
def Obligations.PlanDataStoresWhatFits : Prop :=
  (∀ (bs : List Byte) (s : State), s.ready .station → 1 ≤ bs.length → bs.length ≤ 56 → s.loader.state = .receiving →
    ∃ t, exec (.planData .station (byte bs.length ++ bs) .atOnce) s = .next t ∧
      t.loader = { s.loader with
        staging := s.loader.staging ++ bs.take (s.loader.declared - s.loader.writePtr)
        writePtr := s.loader.writePtr + min bs.length (s.loader.declared - s.loader.writePtr)
        overrun := s.loader.overrun || decide (s.loader.declared - s.loader.writePtr < bs.length)
        burstRunning := true } ∧
      t = State.replied .station .planData (byte bs.length ++ bs) .ok 0
        (loaderBody t.loader ++ byte (min bs.length (s.loader.declared - s.loader.writePtr))) { s with loader := t.loader }) ∧
  (∀ (bs : List Byte) (s : State), s.ready .station → 1 ≤ bs.length → bs.length ≤ 56 → s.loader.state ≠ .receiving →
    exec (.planData .station (byte bs.length ++ bs) .atOnce) s = .next (State.replied .station .planData
      (byte bs.length ++ bs) .state (loaderStateCode s.loader.state) (loaderBody s.loader) s)) ∧
  (∀ (count : Nat) (bs : List Byte) (s : State), s.ready .station → count < 256 → count < 1 ∨ 56 < count →
    exec (.planData .station (byte count ++ bs) .atOnce) s = .next (State.replied .station .planData (byte count ++ bs)
      .badParam 0 (loaderBody s.loader) s))

/-- PLAN CLOSE (R13): in RECEIVING the burst timer stops, the loader is CHECKING and the slot stays RUNNING; in any other state
it is refused with STATE.
BURST_TIMER_EXPIRY (R12): in RECEIVING with the timer running the bytes received are discarded, the loader is IDLE, and
PLAN_TIMEOUT (bit 4) is latched in both sets. That the declared size stands, and that nothing happens in any other loader state,
are the model's choices (assumption logs 11 and 3). -/
def Obligations.CloseAndBurstExpiryEndATransfer : Prop :=
  (∀ s : State, s.ready .station → s.loader.state = .receiving →
    exec (.planClose .station [] .atOnce) s = .next (State.begun .station .planClose [] true
      { s with loader := { s.loader with state := .checking, burstRunning := false } })) ∧
  (∀ s : State, s.ready .station → s.loader.state ≠ .receiving →
    exec (.planClose .station [] .atOnce) s = .next (State.replied .station .planClose [] .state
      (loaderStateCode s.loader.state) (loaderBody s.loader) s)) ∧
  (∀ s : State, s.held = false → s.loader.state = .receiving → s.loader.burstRunning = true →
    exec .burstTimerExpiry s = .next
      { s with
        loader := { s.loader with state := .idle, staging := [], writePtr := 0, overrun := false, burstRunning := false }
        station := { s.station with events := s.station.events ||| 0x0010 }
        line := { s.line with events := s.line.events ||| 0x0010 } }) ∧
  (∀ s : State, s.loader.state ≠ .receiving → exec .burstTimerExpiry s = .next s)

/-- CHECKS_COMPLETE (R16): a plan that passed is STAGED with its point list, and PLAN_STAGED (bit 2) is latched in both sets; one
that failed leaves the loader RECEIVING with its bytes and its burst timer running, and PLAN_REJECTED (bit 3) is latched.
REQUEST_DONE (bit 14) is latched on the Station Port, whose slot is DONE. That the reply shows the loader as the completion leaves it
is the model's choice (assumption log 34), and so is that the bytes of an absent CRC are free values, past which the model's own
counter moves (log 9). After the loader fields the reply carries, in 20 bytes, the check status, the section index, the missing type,
the two CRCs and the plan id with their presence, and the point count (R185); what these are PassedImageIsWhole says. -/
def Obligations.ChecksCompleteStagesOrRejects : Prop :=
  ∀ s : State, s.held = false → s.loader.state = .checking →
    ∃ t, exec .checksComplete s = .next t ∧
      (∀ plan, s.checkResult.plan = some plan →
        t.loader = { s.loader with state := .staged, staged := some plan } ∧ t.line.events = s.line.events ||| 0x0004 ∧
        t.station.events = s.station.events ||| 0x4004) ∧
      (s.checkResult.plan = none →
        t.loader = { s.loader with state := .receiving, burstRunning := true } ∧ t.line.events = s.line.events ||| 0x0008 ∧
        t.station.events = s.station.events ||| 0x4008) ∧
      t.station.slot = .done ∧ t.station.sequence = s.station.sequence ∧
      t.station.reply = writeBytes s.station.reply 0 (replyHeader s.station.lastCode s.station.sequence .ok 0
        (loaderBody t.loader ++ s.checkBody s.checkResult).length ++ (loaderBody t.loader ++ s.checkBody s.checkResult)) ∧
      (∀ (r : CheckResult) (body : List Byte), r = s.checkResult → body = s.checkBody r →
        body.length = 20 ∧ u8At body 0 = r.status ∧ u16At body 1 = r.sectionIdx.getD 0xFFFF ∧
        u8At body 3 = r.missing.getD 0 ∧ u8At body 4 = r.computed.isSome.toNat ∧
        (∀ v, r.computed = some v → u32At body 5 = v.toNat) ∧ u8At body 9 = r.header.isSome.toNat ∧
        (∀ v, r.header = some v → u32At body 10 = v.toNat) ∧ u8At body 14 = r.planId.isSome.toNat ∧
        u32At body 15 = (r.planId.map (·.toNat)).getD 0 ∧
        u8At body 19 = (r.plan.map (·.points.length)).getD 0xFF) ∧
      t = { s with
        loader := t.loader, line := { s.line with events := t.line.events }, freeCount := s.freeCount + checkUnstated
        station := { s.station with
          events := t.station.events, slot := .done, running := none, reply := t.station.reply } }

/-- Only a whole and sound image passes the checks of PLAN CLOSE: every byte received and none dropped, format version 1, the
header's CRC right, at most 128 points, and the plan's id that of the header (R3, R13).
The first check that fails gives the result (R13 to R16, R182): SIZE_MISMATCH, with no CRC and no plan id; TOO_MUCH_DATA and
BAD_VERSION, with the header's CRC and plan id; CRC_MISMATCH, with both CRCs; BAD_SECTION, with index 255 for the section count, the
index of the first entry that breaks a condition of R14, or index 255 and the first missing type; BAD_CONTENT, with the index of the
first section in directory order whose content breaks a range or a condition of R3 to R8, or that of LIMITS where a REL curve stands
without a reference point, once both sections have met their own. An image that breaks nothing passes: status PASSED, its plan with the
header's id and one point for each of the expanded list. -/
def Obligations.PassedImageIsWhole : Prop :=
  (∀ (image : List Byte) (writePtr declared : Nat) (overrun : Bool) (p : StagedPlan),
    (checkImage image writePtr declared overrun).plan = some p →
    writePtr = declared ∧ u32At image 8 = declared ∧ overrun = false ∧ u16At image 0 = 1 ∧
    imageCrc image = headerCrc image ∧ p.content.id = headerId image ∧ p.points.length ≤ 128 ∧
    (checkImage image writePtr declared overrun).status = 0) ∧
  (∀ (image : List Byte) (writePtr declared : Nat) (overrun : Bool),
    (writePtr ≠ declared ∨ u32At image 8 ≠ declared →
      checkImage image writePtr declared overrun = ⟨1, none, none, none, none, none, none⟩) ∧
    (writePtr = declared → u32At image 8 = declared →
      (overrun = true → checkImage image writePtr declared overrun =
        ⟨2, none, none, none, some (headerCrc image), some (headerId image), none⟩) ∧
      (overrun = false → u16At image 0 ≠ 1 → checkImage image writePtr declared overrun =
        ⟨3, none, none, none, some (headerCrc image), some (headerId image), none⟩) ∧
      (overrun = false → u16At image 0 = 1 → imageCrc image ≠ headerCrc image →
        checkImage image writePtr declared overrun = resultOf image 4 none none none))) ∧
  (∀ (image : List Byte) (writePtr declared : Nat) (overrun : Bool), ImageWhole image writePtr declared overrun →
    (u16At image 2 = 0 ∨ 7 < u16At image 2 →
      checkImage image writePtr declared overrun = resultOf image 5 (some 255) none none) ∧
    (∀ i, 1 ≤ u16At image 2 → u16At image 2 ≤ 7 → i < u16At image 2 → (∀ j, j < i → EntrySound image j) →
      ¬ EntrySound image i → checkImage image writePtr declared overrun = resultOf image 5 (some i) none none) ∧
    (∀ t, 1 ≤ u16At image 2 → u16At image 2 ≤ 7 → (∀ i, i < u16At image 2 → EntrySound image i) → 1 ≤ t → t ≤ 5 →
      (∀ u, 1 ≤ u → u < t → ∃ i, i < u16At image 2 ∧ (sectionAt image i).type = u) →
      (∀ i, i < u16At image 2 → (sectionAt image i).type ≠ t) →
      checkImage image writePtr declared overrun = resultOf image 5 (some 255) (some t) none)) ∧
  (∀ (image : List Byte) (writePtr declared : Nat) (overrun : Bool), ImageWhole image writePtr declared overrun →
    StructureSound image →
    (∀ i, i < u16At image 2 → (∀ j, j < i → SectionMeets image j) → ¬ SectionMeets image i →
      (∀ a l, a < i → l < i → ¬ RelAlone image a l) →
      checkImage image writePtr declared overrun = resultOf image 6 (some i) none none) ∧
    (∀ a l, a < u16At image 2 → l < u16At image 2 → (∀ j, j ≤ a ∨ j ≤ l → SectionMeets image j) → RelAlone image a l →
      checkImage image writePtr declared overrun = resultOf image 6 (some l) none none) ∧
    ((∀ i, i < u16At image 2 → SectionMeets image i) →
      (∀ a l, a < u16At image 2 → l < u16At image 2 → ¬ RelAlone image a l) →
      ∃ p, checkImage image writePtr declared overrun = resultOf image 0 none none (some p) ∧
        p.content.id = headerId image ∧
        ∀ a, a < u16At image 2 → (sectionAt image a).type = 1 →
          p.points.length = sweepPointCount ((sectionAt image a).bytes image)))

/-- PLAN ACTIVATE of a staged plan while the outgoing plan is in use: the loader is PENDING and the activation field reads PENDING
(R18). In any state but STAGED it is refused with STATE. -/
def Obligations.PlanActivateWaitsWhileInUse : Prop :=
  (∀ s : State, s.ready .station → s.loader.state = .staged → s.planInUse = true →
    exec (.planActivate .station [] .atOnce) s = .next (State.replied .station .planActivate [] .ok 0
      (loaderBody { s.loader with state := .pending } ++ byte 2) { s with loader := { s.loader with state := .pending } })) ∧
  (∀ s : State, s.ready .station → s.loader.state ≠ .staged →
    exec (.planActivate .station [] .atOnce) s = .next (State.replied .station .planActivate [] .state
      (loaderStateCode s.loader.state) (loaderBody s.loader) s))

/-- PLAN ACTIVATE of a staged plan out of use (R18, R20, R124, R129, R133, R142): the staged image, contents and points are the
active plan; verification is withdrawn and the consecutive-fail count 0; the retest list is emptied, each entry counted expired,
and its sequence advances once; the shift closes with reason PLAN_CHANGE and the outgoing plan's id, after the expiries; the ring
is empty with its sequence kept; the lines carry the new map, a line newly bound being undetermined with its timer running and a
function that loses its line at its default virtual level (R41 to R43); the table holds the new devices, all NEGOTIATING, those of the
old table with their histories (R147); a transaction under way is discarded, an idle bus takes the first probe; the head job is unbound
at page 0 with the new label timeout, and jobs in front whose role the table lacks fail with NO_DEVICE (R160); PLAN_ACTIVATED (bit 5)
is latched in both sets; nests, chain, generator, capture and engine stand but for LABEL_WAIT nests. The reply carries the loader
fields and the activation as DONE (R185). That the loader's write pointer, declared size and overrun mark stand is the model's choice
(assumption log 11). -/
def Obligations.ActivationReplacesThePlan : Prop :=
  ∀ (p : StagedPlan) (s : State), s.ready .station → s.loader.state = .staged → s.loader.staged = some p →
    s.planInUse = false →
    ∃ t, exec (.planActivate .station [] .atOnce) s = .next t ∧ State.Activated p s t ∧ t.station.slot = .done ∧
      t.station = { Port.replied .station (requestCode .planActivate) [] .ok 0
          (([0] : List Byte) ++ le 2 s.loader.writePtr ++ le 2 s.loader.declared ++ (if s.loader.overrun then [1] else [0]) ++
            [0, 0, 0, 0, 0] ++ ([1] : List Byte) ++ le 4 p.content.id.toNat ++ [1]) s.station with
        unverified := true, events := t.station.events }

/-- PLAN REVOKE (R22): in STAGED and PENDING the staged plan is discarded and the loader is IDLE; in IDLE and RECEIVING it is
refused with STATE. The active plan stands and nothing is latched. That the loader's write pointer, declared size and overrun mark
stand, as the reply shows them, is the model's choice (assumption log 11). -/
def Obligations.PlanRevokeDiscardsTheStagedPlan : Prop :=
  (∀ s : State, s.ready .station → s.loader.state = .staged ∨ s.loader.state = .pending →
    ∃ t, exec (.planRevoke .station [] .atOnce) s = .next t ∧
      t.loader = { s.loader with state := .idle, staging := [], staged := none } ∧
      t = State.replied .station .planRevoke [] .ok 0 (loaderBody t.loader) { s with loader := t.loader }) ∧
  (∀ s : State, s.ready .station → s.loader.state = .idle ∨ s.loader.state = .receiving →
    exec (.planRevoke .station [] .atOnce) s = .next (State.replied .station .planRevoke [] .state
      (loaderStateCode s.loader.state) (loaderBody s.loader) s))

/-! ### The station computer's requests -/

/-- CALIBRATE (R74, R76, R129): each offset is clamped to 5,000 to 16,000 cdB; the record is pending while a nest holds the chain
and active otherwise, replacing any pending one; verification is withdrawn and nothing is latched; the reply is CLAMPED when a
value was changed, and carries the three offsets as stored, their placement, ACTIVE or PENDING, and the active record (R185). -/
def Obligations.CalibrateStoresTheRecord : Prop :=
  ∀ (a b m : Int) (s : State), s.ready .station → -32768 ≤ a → a ≤ 32767 → -32768 ≤ b → b ≤ 32767 → -32768 ≤ m → m ≤ 32767 →
    ∃ t, exec (.calibrate .station (leSigned a ++ leSigned b ++ leSigned m) .atOnce) s = .next t ∧
      (∃ r : Calibration, r = ⟨max 5000 (min a 16000), max 5000 (min b 16000), max 5000 (min m 16000)⟩ ∧
        (s.nestHoldsChain = true → t.capture = { s.capture with pending := some r }) ∧
        (s.nestHoldsChain = false → t.capture = { s.capture with active := some r, pending := none }) ∧
        (t.station.reply[2] = if r = ⟨a, b, m⟩ then 0 else 17) ∧
        t.station = { Port.replied .station (requestCode .calibrate) (leSigned a ++ leSigned b ++ leSigned m)
            (if r = ⟨a, b, m⟩ then .ok else .clamped) 0
            (leSigned r.micA ++ leSigned r.micB ++ leSigned r.ambient ++
              (match t.capture.pending with | some _ => ([2] : List Byte) | none => [1]) ++
              (match t.capture.active with
                | some x => ([1] : List Byte) ++ leSigned x.micA ++ leSigned x.micB ++ leSigned x.ambient
                | none => [0, 0, 0, 0, 0, 0, 0])) s.station with unverified := true }) ∧
      t.units = { s.units with remaining := 0, qualifiedA := false, qualifiedB := false } ∧
      t.station.unverified = true ∧ t.station.events = s.station.events ∧ t.station.slot = .done ∧
      t = { s with capture := t.capture, units := t.units, station := t.station, line := { s.line with unverified := true } }

/-- CHAIN CHECK taken while the chain is free and nobody waits (R38, R39, R50): it is granted at once, under the next chain-check
tag; the loopback is on and the amplifier switch selects neither nest; the generator begins 100,000 cHz at −2,000 cdB in SETTLE
from phase 0 with its fade-in, and a pending calibration record is active; the slot stays RUNNING. While another holds the chain
it joins the tail of the queue. -/
def Obligations.ChainCheckIsGrantedOrQueued : Prop :=
  (∀ s : State, s.ready .station → s.chain.holder = none → s.chain.queue = [] →
    ∃ t, exec (.chainCheck .station [] .atOnce) s = .next t ∧
      t.chain = { s.chain with
        holder := some .check, checkTag := s.chain.checkTag + 1, checkA := none, checkB := none, checkFaded := false } ∧
      t.loopback = true ∧ t.amplifier = none ∧
      t.gen = { s.gen with
        mode := .settle, acc := 0, inc := 89478485, amp := 838861, ramp := 0, cursor := 0, samples := 0, wraps := 0,
        stopMark := false, claimant := some .check, tag := s.chain.checkTag + 1, postWrap := false, windowPlayed := 0 } ∧
      t.capture.active = s.capture.pending.or s.capture.active ∧ t.capture.pending = none ∧ t.capture.attempt = 1 ∧
      t = State.begun .station .chainCheck [] true
        { s with chain := t.chain, gen := t.gen, capture := { s.capture with
            active := t.capture.active, pending := none, attempt := 1 } }) ∧
  (∀ (c : Claimant) (s : State), s.ready .station → s.chain.holder = some c →
    exec (.chainCheck .station [] .atOnce) s = .next (State.begun .station .chainCheck [] true
      { s with chain := { s.chain with queue := s.chain.queue ++ [.check] } }))

/-- SERIAL BASE (R117): a base from 1 to 16,777,215 becomes the counter, with the counter before and after in the reply; 0 or a
value above is refused with BAD_PARAM and the counter stands. Nothing else of the part changes. On the Line Port it is refused with
NOT_ON_THIS_PORT. -/
def Obligations.SerialBaseSetsTheCounter : Prop :=
  (∀ (base : Nat) (s : State), s.ready .station → 1 ≤ base → base ≤ 16777215 →
    exec (.serialBase .station (le 4 base) .atOnce) s = .next (State.replied .station .serialBase (le 4 base) .ok 0
      (le 3 s.units.serialCounter ++ le 3 base) { s with units := { s.units with serialCounter := base } })) ∧
  (∀ (base : Nat) (s : State), s.ready .station → base < 2 ^ 32 → base = 0 ∨ 16777215 < base →
    exec (.serialBase .station (le 4 base) .atOnce) s =
      .next (State.replied .station .serialBase (le 4 base) .badParam 0 [] s)) ∧
  (∀ (params : List Byte) (t : Taking) (s : State), s.ready .line →
    exec (.serialBase .line params t) s = .next (State.replied .line .serialBase params .notOnThisPort 0 [] s))

/-- CLOSE SHIFT (R141, R143): a record with the shift's number, reason REQUESTED, the active plan's id, each count less its
baseline and the two yields over them joins the records, of which at most 8 stand; the baseline takes the counts, no count is
cleared, and the number after 65,535 is 1. -/
def Obligations.CloseShiftMakesARecord : Prop :=
  ∀ s : State, s.ready .station →
    ∃ (r : ShiftRecord) (t : State), exec (.closeShift .station [] .atOnce) s = .next t ∧
      r.number = s.accounts.shift ∧ r.reason = .requested ∧ r.planId = s.plan.map (·.id) ∧
      r.deltas = s.accounts.counts.minus s.accounts.baseline ∧
      r.firstYield = r.deltas.firstYield ∧ r.finalYield = r.deltas.finalYield ∧
      t.accounts = { s.accounts with
        shifts := (s.accounts.shifts ++ [r]).drop (s.accounts.shifts.length + 1 - 8)
        baseline := s.accounts.counts
        shift := if s.accounts.shift = 65535 then 1 else s.accounts.shift + 1 } ∧
      t = State.replied .station .closeShift [] .ok 0
        (le 2 r.number ++ leYield r.firstYield ++ leYield r.finalYield ++ le 2 t.accounts.shift)
        { s with accounts := t.accounts }

/-- MARKER START (R148, R151): with a plan and devices, every device is NEGOTIATING with its abilities, format and cause cleared,
its NAK count 0 and its retry wait stopped, keeping its toggle and history, and the slot stays RUNNING. A transaction under way with a device of the table is discarded; an idle
bus takes the probe of the first device. A head job bound to a device stays bound to it and returns to page 0 with its BUSY wait
stopped; it keeps its restart count and its label timer (R160). With no plan it is refused with NO_PLAN; with an empty table it
completes as soon as it is taken. -/
def Obligations.MarkerStartNegotiatesEveryDevice : Prop :=
  (∀ s : State, s.ready .station → s.plan ≠ none → s.marker.devices ≠ [] →
    ∃ t, exec (.markerStart .station [] .atOnce) s = .next t ∧
      t.marker.devices = (s.marker.devices.map fun d =>
        { d with state := .negotiating, cause := none, abilities := none, resolved := none, naks := 0, retryWait := false }) ∧
      t.marker.bus ≠ none ∧ t.marker.queue = s.marker.queue ∧ t.marker.waitList = s.marker.waitList ∧
      t.marker.head.bound = s.marker.head.bound ∧ t.marker.head.timer = s.marker.head.timer ∧
      (∀ d, s.marker.head.bound = some d → d < s.marker.devices.length →
        t.marker.head = { s.marker.head with page := 0, busyWait := false }) ∧
      (s.marker.head.bound = none → t.marker.head = s.marker.head) ∧
      (∀ x, s.marker.bus = some x → x.device < s.marker.devices.length →
        t.marker.bus = some { x with fate := .discarded }) ∧
      (s.marker.bus = none → t.marker.bus = some ⟨0, .probe, .live⟩) ∧
      t = State.begun .station .markerStart [] true
        { s with marker := { s.marker with devices := t.marker.devices, bus := t.marker.bus, head := t.marker.head } }) ∧
  (∀ s : State, s.ready .station → s.plan = none →
    exec (.markerStart .station [] .atOnce) s = .next (State.replied .station .markerStart [] .noPlan 0 [] s)) ∧
  (∀ s : State, s.ready .station → s.plan ≠ none → s.marker.devices = [] →
    exec (.markerStart .station [] .atOnce) s = .next (State.replied .station .markerStart [] .ok 0 (byte 0) s))

/-- STATION RESET (R9, R23, R35, R41 to R43, R45, R49, R73, R77, R115, R132, R146, R178): accepted in every state; the active plan,
the active calibration, the serial counter, both masks and the Line Port's sequence and parameter area stand; every other block has
its reset values, with the device table rebuilt DOWN, the line map taken from the active plan and the virtual levels at their
defaults; a line that keeps its function keeps its level and timer, one newly bound is undetermined with its timer running. Every
output function is false but UNVERIFIED, which is true while the window length is above 0. RESET (bit 15) is latched and the mark
set on both ports; the reply carries the serial counter and the active plan's id. A Line Port request not yet taken ends with
ABANDONED, and REQUEST_DONE (bit 14) is latched there with RESET. That the declared size, the burst timeout and the
generator's tag are 0 and what a free half holds are assumption log 10, that the window attempt keeps its value is assumption log 42, that a nest record shows no
curves though the plan stands is assumption log 36, and that the rebuilt devices expect toggle 0 is assumption log 19: these four
are the model's choices. -/
def Obligations.StationResetClearsTheBlocks : Prop :=
  ∀ s : State, s.ready .station →
    ∃ t, exec (.stationReset .station [] .atOnce) s = .next t ∧
      t.loader = { Loader.reset with active := s.loader.active } ∧ t.nestA = Nest.reset ∧ t.nestB = Nest.reset ∧
      t.chain = Chain.reset ∧ t.gen = Generator.reset ∧
      t.capture = { Capture.reset with active := s.capture.active, attempt := s.capture.attempt } ∧
      t.engine = Engine.reset ∧ t.units = { UnitTable.reset with serialCounter := s.units.serialCounter } ∧
      t.accounts = Accounts.reset ∧
      t.marker = { Marker.reset with devices :=
        (s.planDevices.map fun d => ⟨d.address, d.role, .down, none, none, none, false, 0, false, none⟩ : List Device) } ∧
      (∀ i : Fin 8, t.lines.line[i].function = s.planLines.getD i .unused ∧ t.lines.line[i].pin = s.lines.line[i].pin ∧
        (t.lines.line[i].function = s.lines.line[i].function → t.lines.line[i] = s.lines.line[i]) ∧
        (t.lines.line[i].function ≠ s.lines.line[i].function → t.lines.line[i].debounced = none ∧
          (t.lines.line[i].timer = true ↔ ∃ f, t.lines.line[i].function = .input f))) ∧
      (∀ n, t.lines.virtual (.present n) = some true ∧ t.lines.virtual (.clamp n) = some true) ∧
      t.lines.virtual .doorClosed = some true ∧ t.lines.virtual .stop = some false ∧
      (∀ (i : Fin 8) (f : OutputFunction), t.lines.line[i].function = .output f →
        t.lineDrive i = some (decide (f = .unverified ∧ 0 < s.windowLength))) ∧
      t.station = { Port.replied .station 0x1F [] .ok 0
          (le 3 s.units.serialCounter ++ lePlanId (s.loader.active.map (·.content.id))) s.station with
        events := s.station.events ||| 0x8000, unverified := true } ∧
      (∀ r, s.line.running = some r → r.taken = false →
        t.line = { s.line with
          slot := .done, running := none, events := s.line.events ||| 0xC000, unverified := true
          reply := writeBytes s.line.reply 0 (replyHeader s.line.lastCode s.line.sequence .abandoned 0 0) }) ∧
      ((∀ r, s.line.running = some r → r.taken = true) →
        t.line = { s.line with events := s.line.events ||| 0x8000, unverified := true }) ∧
      t.hold = s.hold ∧ t.straps = s.straps ∧ t.freeCount = s.freeCount ∧ t.pending = s.pending

/-! ### Nests -/

/-- LOAD UNIT of kind NEW into an EMPTY nest (R26, R116, R118, R133): the candidate serial is issued, the counter stands one past it
(0 after 16,777,215), `issued` rises by one and the nest is LOADED at attempt 1. With no candidate it is refused with SERIAL_UNSET
and the counter is 0. The
candidate is the first value from the counter upward that is held nowhere: not by a nest, as its serial or in its held entry, and not
in the retest list. There is none when the counter is 0 or every value from it to 16,777,215 is held (R116). -/
def Obligations.NewLoadIssuesASerial : Prop :=
  (∀ (n : NestId) (s : State), s.ready .line → (s.nest n).state = .empty → s.candidate ≠ 0 →
    exec (.loadUnit .line [selector n, 1] .atOnce) s = .next (State.replied .line .loadUnit [selector n, 1] .ok 0
      (le 3 s.candidate ++ byte 1)
      (State.modNest n (fun x => { x with
          state := .loaded, kind := some .production, serial := some s.candidate, attempt := some 1 })
        { s with
          units := { s.units with serialCounter := if s.candidate = 16777215 then 0 else s.candidate + 1 }
          accounts := { s.accounts with counts := { s.accounts.counts with issued := s.accounts.counts.issued + 1 } } }))) ∧
  (∀ (n : NestId) (s : State), s.ready .line → (s.nest n).state = .empty → s.candidate = 0 →
    exec (.loadUnit .line [selector n, 1] .atOnce) s = .next (State.replied .line .loadUnit [selector n, 1] .serialUnset 0 []
      { s with units := { s.units with serialCounter := 0 } })) ∧
  (∀ s : State, s.candidate ≠ 0 → s.candidate ∉ s.serialsInUse ∧ s.units.serialCounter ≤ s.candidate ∧
    ∀ v, s.units.serialCounter ≤ v → v < s.candidate → v ∈ s.serialsInUse) ∧
  (∀ s : State, s.units.serialCounter ≤ 16777215 → s.candidate ≤ 16777215 ∧
    (s.candidate = 0 ↔ s.units.serialCounter = 0 ∨
      ∀ v, s.units.serialCounter ≤ v → v ≤ 16777215 → v ∈ s.serialsInUse)) ∧
  (∀ (v : Nat) (s : State), v ∈ s.serialsInUse ↔ (∃ n, (s.nest n).serial = some v) ∨
    (∃ n e, s.units.held n = some e ∧ e.serial = v) ∨ ∃ e ∈ s.units.retest, e.serial = v)

/-- LOAD UNIT of kind RETEST and REFERENCE into an EMPTY nest (R118, R119, R121): a retest takes the serial's entry out of the
list, which becomes the nest's held entry, at the attempt after those made; a serial the other nest holds is refused with IN_USE
and one not in the list with UNKNOWN_SERIAL; a reference takes nothing from the Unit Table. Before these checks, a kind other than
the three, and a retest serial of 0 or above 16,777,215, are refused with BAD_PARAM, and then a load of any kind into a nest that is
not EMPTY with STATE (R26). -/
def Obligations.RetestAndReferenceLoads : Prop :=
  (∀ (n : NestId) (e : RetestEntry) (s : State), s.ready .line → (s.nest n).state = .empty → 1 ≤ e.serial →
    e.serial ≤ 16777215 → s.units.retest.find? (fun x => x.serial = e.serial) = some e →
    (s.nest (otherNest n)).serial ≠ some e.serial →
    ∃ t, exec (.loadUnit .line ([selector n, 2] ++ le 4 e.serial) .atOnce) s = .next t ∧
      t.units.retest = s.units.retest.filter (fun x => x.serial ≠ e.serial) ∧ t.units.held n = some e ∧
      t.units.held (otherNest n) = s.units.held (otherNest n) ∧ t.units.listSequence = s.units.listSequence + 1 ∧
      t = State.replied .line .loadUnit ([selector n, 2] ++ le 4 e.serial) .ok 0 (le 3 e.serial ++ byte (e.attempts + 1))
        (State.modNest n (fun x => { x with
            state := .loaded, kind := some .production, serial := some e.serial, attempt := some (e.attempts + 1) })
          { s with units := { s.units with
              retest := t.units.retest, listSequence := t.units.listSequence, heldA := t.units.heldA, heldB := t.units.heldB } })) ∧
  (∀ (n : NestId) (v : Nat) (s : State), s.ready .line → (s.nest n).state = .empty → 1 ≤ v → v ≤ 16777215 →
    (s.nest (otherNest n)).serial = some v →
    exec (.loadUnit .line ([selector n, 2] ++ le 4 v) .atOnce) s =
      .next (State.replied .line .loadUnit ([selector n, 2] ++ le 4 v) .inUse 0 [] s)) ∧
  (∀ (n : NestId) (v : Nat) (s : State), s.ready .line → (s.nest n).state = .empty → 1 ≤ v → v ≤ 16777215 →
    (s.nest (otherNest n)).serial ≠ some v → (∀ e ∈ s.units.retest, e.serial ≠ v) →
    exec (.loadUnit .line ([selector n, 2] ++ le 4 v) .atOnce) s =
      .next (State.replied .line .loadUnit ([selector n, 2] ++ le 4 v) .unknownSerial 0 [] s)) ∧
  (∀ (n : NestId) (s : State), s.ready .line → (s.nest n).state = .empty →
    exec (.loadUnit .line [selector n, 3] .atOnce) s = .next (State.replied .line .loadUnit [selector n, 3] .ok 0
      (le 3 0 ++ byte 1)
      (s.modNest n fun x => { x with state := .loaded, kind := some .reference, serial := none, attempt := some 1 }))) ∧
  (∀ (n : NestId) (k : Byte) (v : Nat) (s : State), s.ready .line → (s.nest n).state ≠ .empty →
    k = 1 ∨ k = 3 ∨ (k = 2 ∧ 1 ≤ v ∧ v ≤ 16777215) →
    exec (.loadUnit .line ([selector n, k] ++ le 4 v) .atOnce) s = .next (State.replied .line .loadUnit
      ([selector n, k] ++ le 4 v) .state (nestStateCode (s.nest n).state) [] s)) ∧
  (∀ (n : NestId) (k : Byte) (more : List Byte) (s : State), s.ready .line → k ≠ 1 → k ≠ 2 → k ≠ 3 →
    exec (.loadUnit .line ([selector n, k] ++ more) .atOnce) s =
      .next (State.replied .line .loadUnit ([selector n, k] ++ more) .badParam 1 [] s)) ∧
  (∀ (n : NestId) (v : Nat) (s : State), s.ready .line → v < 2 ^ 32 → v = 0 ∨ 16777215 < v →
    exec (.loadUnit .line ([selector n, 2] ++ le 4 v) .atOnce) s =
      .next (State.replied .line .loadUnit ([selector n, 2] ++ le 4 v) .badParam 2 [] s))

/-- RELEASE NEST (R31, R123, R133): a DONE nest is EMPTY and nothing is counted; a LOADED reference unit counts nothing; a LOADED
production unit at attempt 1 counts released_untested; the result fields stand. A LOADED retest unit gives its held entry back
unchanged to the young end of the list while its attempts made are below the plan's maximum, the oldest of 32 entries expiring
first (R21, R122); else it expires itself. An expiry counts `expired` and joins the ring (R138), and latches YIELD_LOW (bit 11)
where the alarm condition becomes true (R139). In any other state it is refused with STATE. -/
def Obligations.ReleaseNestEmptiesTheNest : Prop :=
  (∀ (n : NestId) (s : State), s.ready .line →
    (s.nest n).state = .done ∨ ((s.nest n).state = .loaded ∧ (s.nest n).kind = some .reference) →
    exec (.releaseNest .line [selector n] .atOnce) s = .next (State.replied .line .releaseNest [selector n] .ok 0 []
      (s.modNest n fun x => { x with state := .empty, kind := none, serial := none, attempt := none }))) ∧
  (∀ (n : NestId) (s : State), s.ready .line → (s.nest n).state = .loaded → (s.nest n).kind = some .production →
    (s.nest n).attempt = some 1 →
    exec (.releaseNest .line [selector n] .atOnce) s = .next (State.replied .line .releaseNest [selector n] .ok 0 []
      (State.modNest n (fun x => { x with state := .empty, kind := none, serial := none, attempt := none })
        { s with accounts := { s.accounts with counts := { s.accounts.counts with
            releasedUntested := s.accounts.counts.releasedUntested + 1 } } }))) ∧
  (∀ (n : NestId) (e : RetestEntry) (c : PlanContent) (s : State), s.ready .line → (s.nest n).state = .loaded →
    (s.nest n).kind = some .production → (s.nest n).attempt ≠ some 1 → s.units.held n = some e → s.plan = some c →
    ∃ t, exec (.releaseNest .line [selector n] .atOnce) s = .next t ∧
      t.units.held n = none ∧ t.units.held (otherNest n) = s.units.held (otherNest n) ∧
      (e.attempts < c.policy.maxAttempts → s.units.retest.length < 32 →
        t.units.retest = s.units.retest ++ [e] ∧ t.units.listSequence = s.units.listSequence + 1 ∧
        t.accounts = s.accounts ∧ (∀ q, (t.port q).events = (s.port q).events)) ∧
      (∀ serial, (c.policy.maxAttempts ≤ e.attempts ∧ serial = e.serial) ∨
          (e.attempts < c.policy.maxAttempts ∧ 32 ≤ s.units.retest.length ∧
            s.units.retest.head?.map (·.serial) = some serial) →
        t.accounts = { s.accounts with
          counts := { s.accounts.counts with expired := s.accounts.counts.expired + 1 }
          ring := keepLast 64 (s.accounts.ring ++ [⟨serial, .expired⟩]), ringSeq := s.accounts.ringSeq + 1 } ∧
        ∀ q, (t.port q).events = (s.port q).events |||
          (if s.yieldAlarm = false ∧ t.yieldAlarm = true then 0x0800 else 0)) ∧
      (c.policy.maxAttempts ≤ e.attempts →
        t.units.retest = s.units.retest ∧ t.units.listSequence = s.units.listSequence) ∧
      (∀ old rest, s.units.retest = old :: rest → 31 ≤ rest.length → e.attempts < c.policy.maxAttempts →
        t.units.retest = rest ++ [e] ∧ t.units.listSequence = s.units.listSequence + 2) ∧
      t = State.replied .line .releaseNest [selector n] .ok 0 []
        (State.modNest n (fun x => { x with state := .empty, kind := none, serial := none, attempt := none })
          { s with
            units := { s.units with
              retest := t.units.retest, listSequence := t.units.listSequence, heldA := t.units.heldA, heldB := t.units.heldB }
            accounts := t.accounts
            station := { s.station with events := t.station.events }, line := { s.line with events := t.line.events } })) ∧
  (∀ (n : NestId) (s : State), s.ready .line → (s.nest n).state ≠ .loaded → (s.nest n).state ≠ .done →
    exec (.releaseNest .line [selector n] .atOnce) s = .next (State.replied .line .releaseNest [selector n] .state
      (nestStateCode (s.nest n).state) [] s))

/-- START NEST accepted while the chain is free and nobody waits (R25, R27, R28, R37, R50, R100, R127, R128): the nest is MEASURING
under its next tag with every result field cleared and one empty slot for each point; the amplifier selects it; the generator is
in SETTLE at point 0, with its increment and amplitude; a production unit spends one of the remaining count while the window length
is above 0, and the last one spent sets the unverified marks; a reference unit alone qualifies its nest; the reply is OK. Accepted while
another holds the chain, the nest is WAITING at the tail of the queue, its result fields standing (R28, R36). -/
def Obligations.StartNestBeginsTheTest : Prop :=
  (∀ (p : PortId) (n : NestId) (s : State), s.ready p → s.startRefusal n = none → s.chain.holder = none →
    s.chain.queue = [] →
    ∃ t, exec (.startNest p [selector n] .atOnce) s = .next t ∧
      t.nest n = { s.nest n with
        state := .measuring, tag := (s.nest n).tag + 1, slots := List.replicate s.planPoints.length none,
        judged := List.replicate s.curveCount [], refState := if s.hasReference then .awaited else .none, detected := [],
        failList := [], overflow := 0, causeNoisy := false, causeOverload := false, verdict := none, bin := none,
        worst := List.replicate s.curveCount none, ticket := none } ∧
      t.nest (otherNest n) = s.nest (otherNest n) ∧
      t.chain = { s.chain with holder := some (.nest n) } ∧ t.amplifier = some n ∧
      t.gen.mode = .settle ∧ t.gen.cursor = 0 ∧ t.gen.acc = 0 ∧ t.gen.ramp = 0 ∧ t.gen.claimant = some (.nest n) ∧
      t.gen.tag = (s.nest n).tag + 1 ∧ t.gen.inc = (s.planPoints.getD 0 noPoint).inc ∧
      t.gen.amp = (s.planPoints.getD 0 noPoint).amp ∧
      ((s.nest n).kind ≠ some .reference → t.units.qualified n = s.units.qualified n) ∧
      t.capture = { s.capture with active := s.capture.pending.or s.capture.active, pending := none, attempt := 1 } ∧
      t.units.remaining = s.remainingAfterStart n ∧ (∀ q, (t.port q).unverified = s.marksAfterStart n q) ∧
      ((s.nest n).kind = some .reference → t.units.qualified n = true) ∧
      t.units.qualified (otherNest n) = s.units.qualified (otherNest n) ∧ t.units.retest = s.units.retest ∧
      (t.port p).slot = .done ∧ (t.port p).reply[2] = 0 ∧ (t.port p).reply[5] = 3 ∧ (t.port p).events = (s.port p).events ∧
      t.accounts = s.accounts ∧ t.marker = s.marker ∧ t.loader = s.loader ∧ t.lines = s.lines ∧ t.engine = s.engine) ∧
  (∀ (p : PortId) (n : NestId) (c : Claimant) (s : State), s.ready p → s.startRefusal n = none → s.chain.holder = some c →
    exec (.startNest p [selector n] .atOnce) s = .next (State.replied p .startNest [selector n] .ok 0 [2]
      (State.modNest n (fun x => { x with state := .waiting })
        { s with
          chain := { s.chain with queue := s.chain.queue ++ [.nest n] }
          units := { s.units with remaining := s.remainingAfterStart n }
          station := { s.station with unverified := s.marksAfterStart n .station }
          line := { s.line with unverified := s.marksAfterStart n .line } })))

/-- START NEST refused (R27): the first check that fails, in the order nest state, plan, pending plan, calibration, fixture (presence,
clamp, door, stop), verification, gives the status and subcode, and nothing but the port's window changes. A START that passes every
check is not refused. -/
def Obligations.StartChecksInOrder : Prop :=
  (∀ (p : PortId) (n : NestId) (r : StartRefusal) (s : State), s.ready p → s.startRefusal n = some r →
    exec (.startNest p [selector n] .atOnce) s =
      .next (State.replied p .startNest [selector n] r.status r.subcode [] s)) ∧
  (∀ (n : NestId) (s : State), (s.nest n).state ≠ .loaded → s.startRefusal n = some ⟨.state, nestStateCode (s.nest n).state⟩) ∧
  (∀ (n : NestId) (s : State), (s.nest n).state = .loaded → s.plan = none → s.startRefusal n = some ⟨.noPlan, 0⟩) ∧
  (∀ (n : NestId) (s : State), (s.nest n).state = .loaded → s.plan ≠ none → s.loader.state = .pending →
    s.startRefusal n = some ⟨.planPending, 0⟩) ∧
  (∀ (n : NestId) (s : State), (s.nest n).state = .loaded → s.plan ≠ none → s.loader.state ≠ .pending →
    s.capture.active = none → s.startRefusal n = some ⟨.notCalibrated, 0⟩) ∧
  (∀ (n : NestId) (s : State), (s.nest n).state = .loaded → s.plan ≠ none → s.loader.state ≠ .pending →
    s.capture.active ≠ none →
    (s.lines.level (.present n) ≠ some true → s.startRefusal n = some ⟨.fixture, match n with | .a => 1 | .b => 2⟩) ∧
    (s.lines.level (.present n) = some true →
      (s.lines.level (.clamp n) ≠ some true → s.startRefusal n = some ⟨.fixture, match n with | .a => 3 | .b => 4⟩) ∧
      (s.lines.level (.clamp n) = some true →
        (s.lines.level .doorClosed ≠ some true → s.startRefusal n = some ⟨.fixture, 7⟩) ∧
        (s.lines.level .doorClosed = some true → s.lines.level .stop ≠ some false →
          s.startRefusal n = some ⟨.fixture, 8⟩)))) ∧
  (∀ (n : NestId) (s : State), (s.nest n).state = .loaded → s.plan ≠ none → s.loader.state ≠ .pending →
    s.capture.active ≠ none → s.lines.level (.present n) = some true → s.lines.level (.clamp n) = some true →
    s.lines.level .doorClosed = some true → s.lines.level .stop = some false →
    ((s.nest n).kind = some .production → s.windowLength ≠ 0 → s.units.remaining = 0 →
      s.startRefusal n = some ⟨.unverified, 0⟩) ∧
    ((s.nest n).kind ≠ some .production ∨ s.windowLength = 0 ∨ 1 ≤ s.units.remaining → s.startRefusal n = none))

/-- ABORT NEST (R32, R33): a MEASURING nest's generator stops at once and frees the chain, an ANALYSING nest's windows not begun are
freed, a WAITING nest leaves the queue; the nest is LOADED with its result fields standing but the verdict and the bin, and
`aborted` rises by one. That an abort from WAITING makes an earlier verdict and bin absent, that a freed half keeps its other fields, and
that the loader's write pointer, declared size and overrun mark stand after the activation are the model's choices (assumption logs
35, 22 and 11). A claimant that waits for the freed chain is granted. An abort that takes a pending plan's predecessor out of use is
counted first, in the shift that the activation then closes; while the other nest is in test the activation still waits (R19). A
nest not in test is refused with STATE. -/
def Obligations.AbortStopsTheTest : Prop :=
  (∀ (p : PortId) (n : NestId) (s : State), s.ready p → (s.nest n).state = .measuring → s.chain.queue = [] →
    s.loader.state ≠ .pending →
    ∃ t, exec (.abortNest p [selector n] .atOnce) s = .next t ∧ t.nest n = (s.nest n).abortedTest ∧
      t.chain = { s.chain with holder := none } ∧
      t.gen = { s.gen with mode := .silent, dac := 0, stopMark := false, claimant := none } ∧ t.amplifier = none ∧
      s.WindowsFreed (.nest n) (s.nest n).tag t ∧
      t.capture = { s.capture with half0 := t.capture.half0, half1 := t.capture.half1, holdoff := none } ∧
      t = State.replied p .abortNest [selector n] .ok 0 [] (State.modNest n Nest.abortedTest
        { s with
          chain := t.chain, gen := t.gen, capture := t.capture, engine := t.engine
          accounts := { s.accounts with counts := { s.accounts.counts with aborted := s.accounts.counts.aborted + 1 } } })) ∧
  (∀ (p : PortId) (n : NestId) (d : Claimant) (s : State), s.ready p → (s.nest n).state = .waiting →
    s.chain.holder = some d → s.loader.state ≠ .pending →
    exec (.abortNest p [selector n] .atOnce) s = .next (State.replied p .abortNest [selector n] .ok 0 []
      (State.modNest n Nest.abortedTest
        { s with
          chain := { s.chain with queue := s.chain.queue.filter (· ≠ .nest n) }
          accounts := { s.accounts with counts := { s.accounts.counts with aborted := s.accounts.counts.aborted + 1 } } }))) ∧
  (∀ (p : PortId) (n : NestId) (s : State), s.ready p → (s.nest n).state = .analysing →
    s.chain.holder ≠ none ∨ s.chain.queue = [] → s.loader.state ≠ .pending →
    ∃ t, exec (.abortNest p [selector n] .atOnce) s = .next t ∧ s.WindowsFreed (.nest n) (s.nest n).tag t ∧
      t.capture = { s.capture with half0 := t.capture.half0, half1 := t.capture.half1 } ∧
      t = State.replied p .abortNest [selector n] .ok 0 [] (State.modNest n Nest.abortedTest
        { s with
          capture := t.capture, engine := t.engine
          accounts := { s.accounts with counts := { s.accounts.counts with aborted := s.accounts.counts.aborted + 1 } } })) ∧
  (∀ (p : PortId) (n : NestId) (c : Claimant) (rest : List Claimant) (s : State), s.ready p →
    (s.nest n).state = .measuring → s.chain.queue = c :: rest → s.loader.state ≠ .pending →
    ∃ t, exec (.abortNest p [selector n] .atOnce) s = .next t ∧ t.chain.holder = some c ∧ t.chain.queue = rest ∧
      t.gen.mode = .settle ∧ t.gen.claimant = some c ∧ t.gen.cursor = 0 ∧ t.gen.acc = 0 ∧ t.capture.attempt = 1 ∧
      (c ≠ .nest n → t.nest n = (s.nest n).abortedTest) ∧
      (∀ m, c = .nest m → (t.nest m).state = .measuring ∧ (t.nest m).tag = (s.nest m).tag + 1 ∧ t.amplifier = some m) ∧
      (c = .check → t.loopback = true ∧ t.amplifier = none) ∧
      t.accounts.counts = { s.accounts.counts with aborted := s.accounts.counts.aborted + 1 } ∧ (t.port p).slot = .done) ∧
  (∀ (p : PortId) (n : NestId) (q : StagedPlan) (s : State), s.ready p → s.loader.state = .pending →
    s.loader.staged = some q → (s.nest n).state = .measuring → (s.nest (otherNest n)).state.inTest = false →
    s.chain.queue = [] → s.marker.waitList = [] →
    ∃ t, exec (.abortNest p [selector n] .atOnce) s = .next t ∧ t.nest n = (s.nest n).abortedTest ∧
      t.loader = { s.loader with
        state := .idle, staging := [], staged := none, active := some ⟨s.loader.staging, q.content, q.points⟩ } ∧
      t.accounts.counts = { s.accounts.counts with
        aborted := s.accounts.counts.aborted + 1
        expired := s.accounts.counts.expired + BitVec.ofNat 32 s.units.retest.length } ∧
      (∃ r, t.accounts.shifts.getLast? = some r ∧ r.number = s.accounts.shift ∧ r.reason = .planChange ∧
        r.planId = s.plan.map (·.id) ∧ r.deltas = t.accounts.counts.minus s.accounts.baseline) ∧
      t.accounts.baseline = t.accounts.counts ∧ (∀ q, t.latched q .planActivated = true) ∧
      t.chain.holder = none ∧ t.gen.mode = .silent ∧ (t.port p).slot = .done) ∧
  (∀ (p : PortId) (n : NestId) (s : State), s.ready p → s.loader.state = .pending → (s.nest n).state.inTest = true →
    (s.nest (otherNest n)).state.inTest = true →
    ∃ t, exec (.abortNest p [selector n] .atOnce) s = .next t ∧ t.loader = s.loader ∧ (t.port p).slot = .done) ∧
  (∀ (p : PortId) (n : NestId) (s : State), s.ready p → (s.nest n).state.inTest = false →
    exec (.abortNest p [selector n] .atOnce) s = .next (State.replied p .abortNest [selector n] .state
      (nestStateCode (s.nest n).state) [] s))

/-- LINE EVENT (R43, R44): setting true (action 1) for an unbound level function completes and leaves its virtual level true; where it
raises no STOP edge the virtual level is all that changes and the reply is OK with it. Setting false (action 2) gives the falling
edge of a level that was true: presence loss and CLAMP_x act as an abort and a release of their nest would, DOOR_CLOSED aborts both
nests and frees their windows not begun (R71, R81), as STOP does when it rises, and a CHAIN CHECK that waits is then granted the
chain, or a pending activation follows (R19, R37; log 11 on the loader fields that stand); where no nest is concerned the level alone changes. PULSE (action 3) gives a START from the line
side: refused, it sets the nest's last start refusal and latches START_REFUSED (bit 12) on both ports; accepted, it acts as START
NEST and clears the last refusal; the reply carries the start result. A bound function is refused with BOUND_TO_LINE; a code that is
no input function, or an action that does not go with it, with BAD_PARAM. Its subcode 1 in the last case, the level that the reply
carries, that DOOR_CLOSED and STOP abort both nests before the chain is granted, and that a WAITING nest so aborted has no verdict
and bin are the model's choices (assumption logs 17, 16, 14 and 35). -/
def Obligations.LineEventSetsTheVirtualLevel : Prop :=
  (∀ (f : InputFunction) (s : State), s.ready .line → (∀ n, f ≠ .start n) → s.lines.bound f = none →
    ∃ t, exec (.lineEvent .line (byte (inputCode f) ++ [1]) .atOnce) s = .next t ∧
      (f ≠ .stop ∨ s.lines.virtual f = some true →
        t = State.replied .line .lineEvent (byte (inputCode f) ++ [1]) .ok 0 [1, 0xFF, 0]
          { s with lines := s.lines.setVirtual f true }) ∧
      t.lines.virtual f = some true) ∧
  (∀ (f : InputFunction) (s : State), s.ready .line → (∀ n, f ≠ .start n) → s.lines.bound f = none →
    f = .stop ∨ s.lines.virtual f = some false ∨ (∃ n, f = .present n ∧ (s.nest n).state = .empty) ∨
      (∃ n, f = .clamp n ∧ (s.nest n).state.inTest = false) ∨
      (f = .doorClosed ∧ ∀ n, (s.nest n).state.inTest = false) →
    exec (.lineEvent .line (byte (inputCode f) ++ [2]) .atOnce) s =
      .next (State.replied .line .lineEvent (byte (inputCode f) ++ [2]) .ok 0 [0, 0xFF, 0]
        { s with lines := s.lines.setVirtual f false })) ∧
  (∀ (f : InputFunction) (a : Byte) (s : State), s.ready .line → (f = .doorClosed ∧ a = 2) ∨ (f = .stop ∧ a = 1) →
    s.lines.bound f = none → s.lines.virtual f = some (decide (a = 2)) → s.loader.state ≠ .pending →
    .check ∉ s.chain.queue → (∀ n, .nest n ∈ s.chain.queue → (s.nest n).state = .waiting) →
    ∃ t, exec (.lineEvent .line (byte (inputCode f) ++ [a]) .atOnce) s = .next t ∧ s.TestsAborted t ∧
      t.lines = s.lines.setVirtual f (decide (a = 1)) ∧ t.station = s.station ∧
      t.line = Port.replied .line 0x22 (byte (inputCode f) ++ [a]) .ok 0 [if a = 1 then 1 else 0, 0xFF, 0] s.line) ∧
  (∀ (f : InputFunction) (a : Byte) (s : State), s.ready .line → (f = .doorClosed ∧ a = 2) ∨ (f = .stop ∧ a = 1) →
    s.lines.bound f = none → s.lines.virtual f = some (decide (a = 2)) →
    ∃ u t, exec (.lineEvent .line (byte (inputCode f) ++ [a]) .atOnce) s.alone = .next u ∧
      exec (.lineEvent .line (byte (inputCode f) ++ [a]) .atOnce) s = .next t ∧ s.TestsLeft u t) ∧
  (∀ (n : NestId) (s : State), s.ready .line → s.lines.bound (.clamp n) = none → s.lines.virtual (.clamp n) = some true →
    (s.nest n).state.inTest = true → s.loader.state ≠ .pending →
    ∃ u, exec (.abortNest .line [selector n] .atOnce) s = .next u ∧
      exec (.lineEvent .line (byte (inputCode (.clamp n)) ++ [2]) .atOnce) s = .next
        { u with
          lines := s.lines.setVirtual (.clamp n) false
          line := Port.replied .line 0x22 (byte (inputCode (.clamp n)) ++ [2]) .ok 0 [0, 0xFF, 0] s.line }) ∧
  (∀ (n : NestId) (s : State), s.ready .line → s.lines.bound (.present n) = none →
    s.lines.virtual (.present n) = some true → (s.nest n).state = .loaded ∨ (s.nest n).state = .done →
    ∃ u, exec (.releaseNest .line [selector n] .atOnce) s = .next u ∧
      exec (.lineEvent .line (byte (inputCode (.present n)) ++ [2]) .atOnce) s = .next
        { u with
          lines := s.lines.setVirtual (.present n) false
          line := Port.replied .line 0x22 (byte (inputCode (.present n)) ++ [2]) .ok 0 [0, 0xFF, 0]
            { s.line with events := u.line.events } }) ∧
  (∀ (n : NestId) (s : State), s.ready .line → s.lines.bound (.present n) = none →
    s.lines.virtual (.present n) = some true → (s.nest n).state.inTest = true → s.loader.state ≠ .pending →
    (s.nest n).state = .waiting ∨ .nest n ∉ s.chain.queue →
    ∃ u v, exec (.abortNest .line [selector n] .atOnce) s = .next u ∧
      exec (.releaseNest .line [selector n] .atOnce) u = .next v ∧
      exec (.lineEvent .line (byte (inputCode (.present n)) ++ [2]) .atOnce) s = .next
        { v with
          lines := s.lines.setVirtual (.present n) false
          line := Port.replied .line 0x22 (byte (inputCode (.present n)) ++ [2]) .ok 0 [0, 0xFF, 0]
            { s.line with events := v.line.events } }) ∧
  (∀ (n : NestId) (r : StartRefusal) (s : State), s.ready .line → s.lines.bound (.start n) = none →
    s.startRefusal n = some r →
    exec (.lineEvent .line (byte (inputCode (.start n)) ++ [3]) .atOnce) s =
      .next (State.replied .line .lineEvent (byte (inputCode (.start n)) ++ [3]) .ok 0
        ([0xFF] ++ byte (statusCode r.status) ++ byte r.subcode)
        (State.modNest n (fun x => { x with lastRefusal := some r })
          { s with
            station := { s.station with events := s.station.events ||| 0x1000 }
            line := { s.line with events := s.line.events ||| 0x1000 } }))) ∧
  (∀ (n : NestId) (s : State), s.ready .line → s.lines.bound (.start n) = none → s.startRefusal n = none →
    ∃ u, exec (.startNest .line [selector n] .atOnce) s = .next u ∧
      exec (.lineEvent .line (byte (inputCode (.start n)) ++ [3]) .atOnce) s = .next
        (State.modNest n (fun x => { x with lastRefusal := none })
          { u with
            line := Port.replied .line 0x22 (byte (inputCode (.start n)) ++ [3]) .ok 0 [0xFF, 0, 0]
              { s.line with unverified := u.line.unverified } })) ∧
  (∀ (f : InputFunction) (a : Byte) (x : Line) (s : State), s.ready .line → s.lines.bound f = some x →
    ((∃ n, f = .start n) ∧ a = 3) ∨ ((∀ n, f ≠ .start n) ∧ (a = 1 ∨ a = 2)) →
    exec (.lineEvent .line (byte (inputCode f) ++ [a]) .atOnce) s =
      .next (State.replied .line .lineEvent (byte (inputCode f) ++ [a]) .boundToLine 0 [] s)) ∧
  (∀ (f : InputFunction) (a : Byte) (s : State), s.ready .line →
    ((∃ n, f = .start n) ∧ a ≠ 3) ∨ ((∀ n, f ≠ .start n) ∧ a ≠ 1 ∧ a ≠ 2) →
    exec (.lineEvent .line (byte (inputCode f) ++ [a]) .atOnce) s =
      .next (State.replied .line .lineEvent (byte (inputCode f) ++ [a]) .badParam 1 [] s)) ∧
  (∀ (code a : Byte) (s : State), s.ready .line → inputOf code.toNat = none →
    exec (.lineEvent .line [code, a] .atOnce) s = .next (State.replied .line .lineEvent [code, a] .badParam 0 [] s))

/-- REPRINT (R155, R156, R164): a copy of the device's history job, with the reprint flag set and its restart count 0, enters the
queue with the next ticket, which the reply carries. In an empty queue it becomes head: its label timer starts with the plan's
timeout and it binds to the first READY device of its role, whose first page an idle bus with no negotiating device sends at
once (R152, R157, R183); with no device of its role in the table it fails with NO_DEVICE and LABEL_FAILED (bit 9) is latched on
both ports (R163). An index above 3 is refused with BAD_PARAM, a device without a history with NO_HISTORY, a full queue with
QUEUE_FULL. -/
def Obligations.ReprintQueuesACopy : Prop :=
  (∀ (p : PortId) (d : Fin 4) (j : Job) (s : State), s.ready p →
    (s.marker.devices[d.val]?).bind (·.history) = some j → s.marker.queue ≠ [] → s.marker.queue.length < 8 →
    ∃ t, exec (.reprint p (byte d.val) .atOnce) s = .next t ∧
      t.marker.queue = s.marker.queue ++ [{ j with reprint := true, restarts := 0, ticket := some (s.marker.ticket + 1) }] ∧
      t.marker.ticket = s.marker.ticket + 1 ∧ t.marker.enqueued = s.marker.enqueued + 1 ∧
      t = State.replied p .reprint (byte d.val) .ok 0 (le 2 (s.marker.ticket + 1).toNat)
        { s with marker := { s.marker with
            queue := t.marker.queue, ticket := t.marker.ticket, enqueued := t.marker.enqueued, bus := t.marker.bus } }) ∧
  (∀ (p : PortId) (d : Fin 4) (j : Job) (c : PlanContent) (m : MarkerPlan) (s : State), s.ready p →
    (s.marker.devices[d.val]?).bind (·.history) = some j → s.marker.queue = [] → s.plan = some c → c.marker = some m →
    (∃ x ∈ s.marker.devices, x.role = j.role) →
    ∃ t, exec (.reprint p (byte d.val) .atOnce) s = .next t ∧
      t.marker.queue = [{ j with reprint := true, restarts := 0, ticket := some (s.marker.ticket + 1) }] ∧
      t.marker.head =
        ⟨s.marker.devices.findIdx? fun x => x.role = j.role && x.state = .ready, 0, false, some m.timeout⟩ ∧
      (s.marker.bus ≠ none → t.marker.bus = s.marker.bus) ∧
      (∀ b x, s.marker.bus = none → (∀ y ∈ s.marker.devices, y.state ≠ .negotiating) → t.marker.head.bound = some b →
        s.marker.devices[b]? = some x →
        t.marker.bus = some ⟨b, .page
          (BitVec.ofNat 8 (4 * (decide (1 < x.resolved.getD 0)).toNat + 8 * x.toggle.toNat))
          (le 3 j.serial ++ byte (j.fails.toNat + 2) ++ byte j.bin ++ [0, 0, 0]), .live⟩) ∧
      t = State.replied p .reprint (byte d.val) .ok 0 (le 2 (s.marker.ticket + 1).toNat)
        { s with marker := { s.marker with
            queue := t.marker.queue, ticket := s.marker.ticket + 1, enqueued := s.marker.enqueued + 1
            head := t.marker.head, bus := t.marker.bus } }) ∧
  (∀ (p : PortId) (d : Fin 4) (j : Job) (s : State), s.ready p →
    (s.marker.devices[d.val]?).bind (·.history) = some j → s.marker.queue = [] → s.marker.waitList = [] →
    (∀ x ∈ s.marker.devices, x.role ≠ j.role) →
    ∃ t, exec (.reprint p (byte d.val) .atOnce) s = .next t ∧
      t = State.replied p .reprint (byte d.val) .ok 0 (le 2 (s.marker.ticket + 1).toNat)
        { s with
          marker := { s.marker with
            ticket := s.marker.ticket + 1, enqueued := s.marker.enqueued + 1, failed := s.marker.failed + 1
            head := Head.clear, bus := t.marker.bus
            lastFailed := some ⟨{ j with reprint := true, restarts := 0, ticket := some (s.marker.ticket + 1) },
              .noDevice, none, 0⟩ }
          station := { s.station with events := s.station.events ||| 0x0200 }
          line := { s.line with events := s.line.events ||| 0x0200 } }) ∧
  (∀ (p : PortId) (d : Byte) (s : State), s.ready p → 3 < d.toNat →
    exec (.reprint p [d] .atOnce) s = .next (State.replied p .reprint [d] .badParam 0 [] s)) ∧
  (∀ (p : PortId) (d : Fin 4) (s : State), s.ready p → (s.marker.devices[d.val]?).bind (·.history) = none →
    exec (.reprint p (byte d.val) .atOnce) s = .next (State.replied p .reprint (byte d.val) .noHistory 0 [] s)) ∧
  (∀ (p : PortId) (d : Fin 4) (j : Job) (s : State), s.ready p → (s.marker.devices[d.val]?).bind (·.history) = some j →
    8 ≤ s.marker.queue.length →
    exec (.reprint p (byte d.val) .atOnce) s = .next (State.replied p .reprint (byte d.val) .queueFull 0 [] s))

/-! ### Reading -/

/-- READ NEST (R24, R181): the reply is OK with a body of 57 bytes, each field where R181 lays it: state, kind, verdict and causes;
reference state, generator mode and point cursor (absent unless the nest holds the chain), engine BUSY and outstanding windows;
serial, attempt, bin and sweep tag; slot counts; overflow and curve counts; the half under analysis; the fail reasons in order and
the detected set; the ticket where one stands; the last start refusal; the judged points; the worst margins where a record stands
and the saturated marks. Nothing of the part changes but the window and the model's own counter of unstated bytes: the bytes of an
absent bin, ticket or margin are free values (assumption log 9). That the subcode of an absent refusal reads FFh, that the curve
count is that of the last grant, and that the bits R181 does not name read 0 (bit 7 of byte 11, bits 2 to 7 of byte 12, bits 14 and 15
of bytes 18 and 19), are the model's choices (assumption logs 41, 36 and 43). -/
def Obligations.NestSummaryLayout : Prop :=
  ∀ (p : PortId) (n : NestId) (s : State), s.ready p →
    ∃ (k : Nat) (body : List Byte),
      exec (.readNest p [selector n] .atOnce) s =
        .next (State.replied p .readNest [selector n] .ok 0 body { s with freeCount := k }) ∧
      body.length = 57 ∧
      u8At body 0 = (nestStateCode (s.nest n).state + 8 * kindCode (s.nest n).kind + 16 * verdictCode (s.nest n).verdict +
        64 * (s.nest n).causeNoisy.toNat + 128 * (s.nest n).causeOverload.toNat) ∧
      u8At body 1 = (match (s.nest n).refState with | .none => 0 | .awaited => 1 | .valid => 2 | .notValid => 3) +
        4 * (if s.chain.holder = some (.nest n) then
            (match s.gen.mode with
              | .silent => 0 | .settle => 1 | .window => 2 | .holdoff => 3 | .runOut => 4 | .fadeOut => 5)
          else 7) + 32 * s.engine.under.isSome.toNat + 64 * s.outstanding n ∧
      u16At body 2 + 65536 * u8At body 4 = ((s.nest n).serial.getD 0) % 16777216 ∧
      u8At body 5 % 8 = (s.nest n).attempt.getD 0 % 8 ∧
      (∀ b, (s.nest n).bin = some b →
        u8At body 5 = ((s.nest n).attempt.getD 0 + 8 * (b % 16) + 128 * (s.nest n).ticket.isSome.toNat) % 256) ∧
      ((s.nest n).attempt.getD 0 < 8 → u8At body 5 / 128 = (s.nest n).ticket.isSome.toNat) ∧
      u16At body 6 = (s.nest n).tag.toNat ∧
      u8At body 8 = (s.nest n).slots.length % 256 ∧
      u8At body 9 = ((s.nest n).slots.countP (·.isSome)) % 256 ∧
      u8At body 10 = (if s.chain.holder = some (.nest n) then s.gen.cursor % 256 else 0xFF) ∧
      u8At body 11 = ((s.nest n).overflow + 8 * (s.nest n).worst.length) % 256 ∧
      u8At body 12 = (match s.engine.under with
        | none => 0
        | some h => match (s.half h).claimant with | .nest .a => 1 | .nest .b => 2 | .check => 3) ∧
      u8At body 13 = (match s.engine.under with | none => 0xFF | some h => (s.half h).point % 256) ∧
      (∀ i, i < 4 → u8At body (14 + i) =
        ((s.nest n).failList.getD (2 * i) 0 + 16 * (s.nest n).failList.getD (2 * i + 1) 0) % 256) ∧
      (0 ∉ (s.nest n).detected → ∀ code, 1 ≤ code → code ≤ 16 →
        ((u16At body 18).testBit (code - 1) = true ↔ code ∈ (s.nest n).detected)) ∧
      (∀ v, (s.nest n).ticket = some v → u16At body 20 = v.toNat) ∧
      u8At body 22 = (match (s.nest n).lastRefusal with | some r => statusCode r.status | none => 0) ∧
      u8At body 23 = (match (s.nest n).lastRefusal with | some r => r.subcode % 256 | none => 0xFF) ∧
      (∀ i, i < 8 → u8At body (24 + i) = ((s.nest n).judged.getD i []).length % 256) ∧
      (∀ i, i < 8 →
        (∀ w, ((s.nest n).worst[i]?).join = some w →
          (body.drop (32 + 3 * i)).take 3 = leSigned w.margin ++ byte w.point) ∧
        (((s.nest n).worst[i]?).join = none → u8At body (34 + 3 * i) = 0xFF) ∧
        ((u8At body 56).testBit i = true ↔ ∃ w, ((s.nest n).worst[i]?).join = some w ∧ w.saturated = true))

/-- READ POINTS (R95, R181): up to four slots from the start index on, with the sweep tag, the slot count, the start and the count
returned, each slot's record in its 13 bytes, or those of an empty slot; a start above 127 is refused with BAD_PARAM. Nothing but
the port's window changes.
READ UNIT TABLE (R125, R184): counter, remaining count, window length, verification flags, consecutive-fail count and limit, the
held serials, list count and sequence, and up to eight entries from the start position on, each in its 4 bytes; a start above 31
is refused with BAD_PARAM. Nothing but the port's window changes. That bits 5 to 7 of the flags and bit 7 of an entry's last byte
read 0 is the model's choice (assumption log 43). -/
def Obligations.PagedListReplies : Prop :=
  (∀ (p : PortId) (n : NestId) (start : Byte) (s : State), s.ready p → start.toNat ≤ 127 →
    ∃ body, exec (.readPoints p [selector n, start] .atOnce) s =
        .next (State.replied p .readPoints [selector n, start] .ok 0 body s) ∧
      body.length = 5 + 13 * min 4 ((s.nest n).slots.length - start.toNat) ∧
      u16At body 0 = (s.nest n).tag.toNat ∧ u8At body 2 = (s.nest n).slots.length % 256 ∧ u8At body 3 = start.toNat ∧
      u8At body 4 = min 4 ((s.nest n).slots.length - start.toNat) ∧
      ∀ i, i < 4 →
        (∀ r, (s.nest n).slots[start.toNat + i]? = some (some r) → (body.drop (5 + 13 * i)).take 13 =
          byte r.index ++ le 3 r.freq ++ byte (pointStatusCode r.status + 8 * r.attempts) ++ leLevel r.spl ++
          leLevel r.thd ++ leLevel r.rnb ++ leLevel r.rel) ∧
        ((s.nest n).slots[start.toNat + i]? = some none → (body.drop (5 + 13 * i)).take 13 =
          byte (start.toNat + i) ++ [0, 0, 0, 7, 0, 0x80, 0, 0x80, 0, 0x80, 0, 0x80])) ∧
  (∀ (p : PortId) (n : NestId) (start : Byte) (s : State), s.ready p → 127 < start.toNat →
    exec (.readPoints p [selector n, start] .atOnce) s =
      .next (State.replied p .readPoints [selector n, start] .badParam 1 [] s)) ∧
  (∀ (p : PortId) (start : Byte) (s : State), s.ready p → start.toNat ≤ 31 →
    ∃ body, exec (.readUnitTable p [start] .atOnce) s = .next (State.replied p .readUnitTable [start] .ok 0 body s) ∧
      body.length = 21 + 4 * min 8 (s.units.retest.length - start.toNat) ∧
      u16At body 0 + 65536 * u8At body 2 = s.units.serialCounter % 16777216 ∧
      u16At body 3 = s.units.remaining % 65536 ∧
      u16At body 5 = (match s.plan with | some c => c.policy.windowLength % 65536 | none => 0xFFFF) ∧
      u8At body 7 = s.verified.toNat + 2 * s.units.qualifiedA.toNat + 4 * s.units.qualifiedB.toNat +
        8 * refOutcomeCode s.units.lastReference ∧
      u8At body 8 = s.units.failCount % 256 ∧
      u8At body 9 = (match s.plan with | some c => c.policy.failLimit % 256 | none => 0xFF) ∧
      u16At body 10 + 65536 * u8At body 12 = ((s.units.heldA.map (·.serial)).getD 0) % 16777216 ∧
      u16At body 13 + 65536 * u8At body 15 = ((s.units.heldB.map (·.serial)).getD 0) % 16777216 ∧
      u8At body 16 = s.units.retest.length % 256 ∧ u16At body 17 = s.units.listSequence.toNat ∧
      u8At body 19 = start.toNat ∧ u8At body 20 = min 8 (s.units.retest.length - start.toNat) ∧
      ∀ i e, i < 8 → s.units.retest[start.toNat + i]? = some e → (body.drop (21 + 4 * i)).take 4 =
        le 3 e.serial ++ byte (e.attempts + (if e.verdict = .retest then 4 else 0) + 8 * e.bin)) ∧
  (∀ (p : PortId) (start : Byte) (s : State), s.ready p → 31 < start.toNat →
    exec (.readUnitTable p [start] .atOnce) s = .next (State.replied p .readUnitTable [start] .badParam 0 [] s))

/-- READ ACCOUNTS (R144, R184): TOTALS, the twelve unit accounts in order; BINS, eight counts a page; SUMMARY, with D and the yields
in exact arithmetic (R137) and the yield alarm, which holds while a plan is active, the ring is full and its FIRST_PASS entries are
below the limit count (R139); RING, up to eight entries from a start; a page above 4 or a start above 63 is refused with BAD_PARAM.
READ SHIFT (R145, R184): the four parts of the record at a position, 0 the one closed most recently; the replies of an absent record
and, in full, of the refusals rest on assumption logs 18 and 40.
READ MARKER (R166, R183, R184): DEVICES, QUEUE, COUNTERS with each waiting nest in order, FAILED and HISTORY; bytes that an absent field
leaves unstated are free values, and absent ability bytes are FFh (assumption logs 9, 28 and 41). Nothing but the port's window and
the model's own counter of unstated bytes changes. -/
def Obligations.AccountAndCounterReplies : Prop :=
  (∀ (p : PortId) (s : State), s.ready p →
    ∃ body, exec (.readAccounts p [0] .atOnce) s = .next (State.replied p .readAccounts [0] .ok 0 body s) ∧
      body.length = 49 ∧ u8At body 0 = 0 ∧ u32At body 1 = s.accounts.counts.issued.toNat ∧
      u32At body 5 = s.accounts.counts.firstPass.toNat ∧ u32At body 9 = s.accounts.counts.retestPass.toNat ∧
      u32At body 13 = s.accounts.counts.finalFail.toNat ∧ u32At body 17 = s.accounts.counts.expired.toNat ∧
      u32At body 21 = s.accounts.counts.releasedUntested.toNat ∧ u32At body 25 = s.accounts.counts.aborted.toNat ∧
      u32At body 29 = s.accounts.counts.failVerdicts.toNat ∧ u32At body 33 = s.accounts.counts.retestVerdicts.toNat ∧
      u32At body 37 = s.accounts.counts.guardHits.toNat ∧ u32At body 41 = s.accounts.counts.noisyPoints.toNat ∧
      u32At body 45 = s.accounts.counts.overloadPoints.toNat) ∧
  (∀ (p : PortId) (high : Bool) (s : State), s.ready p →
    ∃ body, exec (.readAccounts p (byte (1 + high.toNat)) .atOnce) s =
        .next (State.replied p .readAccounts (byte (1 + high.toNat)) .ok 0 body s) ∧
      body.length = 33 ∧ u8At body 0 = 1 + high.toNat ∧
      ∀ (i : Fin 8), u32At body (1 + 4 * i.val) = (s.accounts.counts.bins.toList.getD (8 * high.toNat + i.val) 0).toNat) ∧
  (∀ (p : PortId) (s : State), s.ready p →
    ∃ body, exec (.readAccounts p [3] .atOnce) s = .next (State.replied p .readAccounts [3] .ok 0 body s) ∧
      body.length = 28 ∧ u8At body 0 = 3 ∧ u32At body 1 = s.accounts.counts.refTests.toNat ∧
      u32At body 5 = s.accounts.counts.refPass.toNat ∧
      (∀ (d f r : Nat), f = s.accounts.counts.firstPass.toNat → r = s.accounts.counts.retestPass.toNat →
        d = f + r + s.accounts.counts.finalFail.toNat + s.accounts.counts.expired.toNat →
        (d < 4294967296 → u32At body 9 = d) ∧
        u16At body 13 = (if d = 0 then 0xFFFF else 10000 * f / d) ∧
        u16At body 15 = (if d = 0 then 0xFFFF else 10000 * (f + r) / d)) ∧
      u8At body 17 = s.units.retest.length % 256 ∧ u8At body 18 = s.unsettledUnits ∧
      u16At body 19 = s.accounts.shift % 65536 ∧ u8At body 21 = s.accounts.shifts.length % 256 ∧
      u8At body 22 = s.accounts.ring.length % 256 ∧
      u8At body 23 = (s.accounts.ring.countP fun e => e.kind = .firstPass) % 256 ∧
      u16At body 24 = s.accounts.ringSeq.toNat ∧
      u8At body 26 = (match s.plan with | some c => c.policy.alarm * 64 / 10000 % 256 | none => 0xFF) ∧
      u8At body 27 = (match s.plan with
        | some c => if s.accounts.ring.length = 64 ∧
            (s.accounts.ring.countP fun e => e.kind = .firstPass) < c.policy.alarm * 64 / 10000 then 1 else 0
        | none => 0)) ∧
  (∀ (p : PortId) (start : Byte) (s : State), s.ready p → start.toNat ≤ 63 →
    ∃ body, exec (.readAccounts p [4, start] .atOnce) s = .next (State.replied p .readAccounts [4, start] .ok 0 body s) ∧
      body.length = 5 + 4 * min 8 (s.accounts.ring.length - start.toNat) ∧ u8At body 0 = 4 ∧
      u16At body 1 = s.accounts.ringSeq.toNat ∧ u8At body 3 = start.toNat ∧
      u8At body 4 = min 8 (s.accounts.ring.length - start.toNat) ∧
      ∀ i e, i < 8 → s.accounts.ring[start.toNat + i]? = some e →
        (body.drop (5 + 4 * i)).take 4 = le 3 e.serial ++ byte (completionCode e.kind)) ∧
  (∀ (p : PortId) (start : Byte) (s : State), s.ready p → 63 < start.toNat →
    exec (.readAccounts p [4, start] .atOnce) s = .next (State.replied p .readAccounts [4, start] .badParam 1 [] s)) ∧
  (∀ (p : PortId) (page : Byte) (s : State), s.ready p → 4 < page.toNat →
    exec (.readAccounts p [page] .atOnce) s = .next (State.replied p .readAccounts [page] .badParam 0 [] s)) ∧
  (∀ (p : PortId) (pos : Fin 8) (r : ShiftRecord) (s : State), s.ready p → s.accounts.shifts.reverse[pos.val]? = some r →
    ∃ body, exec (.readShift p (byte pos.val ++ [0]) .atOnce) s =
        .next (State.replied p .readShift (byte pos.val ++ [0]) .ok 0 body s) ∧
      body.length = 29 ∧ u16At body 0 = s.accounts.shift % 65536 ∧ u8At body 2 = s.accounts.shifts.length % 256 ∧
      u8At body 3 = 1 ∧ u16At body 4 = r.number % 65536 ∧ u8At body 6 = 0 ∧
      u8At body 7 = (match r.reason with | .requested => 1 | .planChange => 2) ∧
      (body.drop 8).take 5 = lePlanId r.planId ∧ u32At body 13 = r.deltas.refTests.toNat ∧
      u32At body 17 = r.deltas.refPass.toNat ∧ (r.deltas.ended < 4294967296 → u32At body 21 = r.deltas.ended) ∧
      u16At body 25 = r.firstYield.getD 0xFFFF % 65536 ∧ u16At body 27 = r.finalYield.getD 0xFFFF % 65536) ∧
  (∀ (p : PortId) (pos : Fin 8) (part : Fin 4) (r : ShiftRecord) (s : State), s.ready p →
    s.accounts.shifts.reverse[pos.val]? = some r →
    exec (.readShift p (byte pos.val ++ byte part.val) .atOnce) s =
      .next (State.replied p .readShift (byte pos.val ++ byte part.val) .ok 0
        (le 2 s.accounts.shift ++ byte s.accounts.shifts.length ++ ([1] : List Byte) ++ le 2 r.number ++ byte part.val ++
          r.part part.val) s) ∧
    r.part 1 = ([r.deltas.issued, r.deltas.firstPass, r.deltas.retestPass, r.deltas.finalFail, r.deltas.expired,
      r.deltas.releasedUntested, r.deltas.aborted, r.deltas.failVerdicts, r.deltas.retestVerdicts, r.deltas.guardHits,
      r.deltas.noisyPoints, r.deltas.overloadPoints].map fun v => le 4 v.toNat).flatten ∧
    r.part 2 ++ r.part 3 = (r.deltas.bins.toList.map fun v => le 4 v.toNat).flatten ∧ (r.part 2).length = 32) ∧
  (∀ (p : PortId) (pos : Fin 8) (part : Fin 4) (s : State), s.ready p → s.accounts.shifts.length ≤ pos.val →
    exec (.readShift p (byte pos.val ++ byte part.val) .atOnce) s =
      .next (State.replied p .readShift (byte pos.val ++ byte part.val) .ok 0
        (le 2 s.accounts.shift ++ byte s.accounts.shifts.length ++ ([0, 0, 0] : List Byte) ++ byte part.val ++
          List.replicate (match part with | 0 => 22 | 1 => 48 | 2 => 32 | 3 => 32) (0 : Byte)) s)) ∧
  (∀ (p : PortId) (pos part : Byte) (s : State), s.ready p → 7 < pos.toNat ∨ 3 < part.toNat →
    exec (.readShift p [pos, part] .atOnce) s =
      .next (State.replied p .readShift [pos, part] .badParam (if 7 < pos.toNat then 0 else 1)
        (le 2 s.accounts.shift ++ byte s.accounts.shifts.length) s)) ∧
  (∀ (p : PortId) (s : State), s.ready p →
    ∃ k body, exec (.readMarker p [0] .atOnce) s =
        .next (State.replied p .readMarker [0] .ok 0 body { s with freeCount := k }) ∧
      body.length = 2 + 9 * s.marker.devices.length ∧ u8At body 0 = 0 ∧ u8At body 1 = s.marker.devices.length % 256 ∧
      ∀ i d, s.marker.devices[i]? = some d →
        u8At body (2 + 9 * i) = d.address % 256 ∧
        u8At body (3 + 9 * i) = (match d.role with | .label => 0 | .reject => 1) + 2 * deviceStateCode d.state +
          8 * deviceFaultCode d.cause + 32 * d.toggle.toNat + 64 * d.history.isSome.toNat + 128 * d.abilities.isSome.toNat ∧
        u8At body (4 + 9 * i) = (d.resolved.getD 0 + 4 * d.naks) % 256 ∧
        (body.drop (5 + 9 * i)).take 4 = (match d.abilities with
          | some a => [a.version, a.formats, a.maxPages, a.kind]
          | none => [0xFF, 0xFF, 0xFF, 0xFF]) ∧
        ∀ v, d.history.bind (·.ticket) = some v → u16At body (9 + 9 * i) = v.toNat) ∧
  (∀ (p : PortId) (s : State), s.ready p →
    ∃ k body, exec (.readMarker p [1] .atOnce) s =
        .next (State.replied p .readMarker [1] .ok 0 body { s with freeCount := k }) ∧
      body.length = 5 + 6 * s.marker.queue.length ∧ u8At body 0 = 1 ∧ u8At body 1 = s.marker.queue.length % 256 ∧
      u8At body 2 = s.marker.head.bound.getD 0xFF % 256 ∧
      (∀ j rest, s.marker.queue = j :: rest → u8At body 3 = s.marker.head.page % 256 ∧
        u8At body 4 = (j.restarts + 4 * s.marker.head.busyWait.toNat + 8 * s.marker.head.timer.isSome.toNat) % 256) ∧
      ∀ i j, s.marker.queue[i]? = some j →
        (∀ v, j.ticket = some v → u16At body (5 + 6 * i) = v.toNat) ∧
        u16At body (7 + 6 * i) + 65536 * u8At body (9 + 6 * i) = j.serial % 16777216 ∧
        u8At body (10 + 6 * i) = (match j.role with | .label => 0 | .reject => 1) + 2 * j.reprint.toNat) ∧
  (∀ (p : PortId) (s : State), s.ready p →
    ∃ body, exec (.readMarker p [2] .atOnce) s = .next (State.replied p .readMarker [2] .ok 0 body s) ∧
      body.length = 21 + 4 * s.marker.waitList.length ∧ u8At body 0 = 2 ∧ u32At body 1 = s.marker.enqueued.toNat ∧
      u32At body 5 = s.marker.done.toNat ∧
      u32At body 9 = s.marker.failed.toNat ∧ u32At body 13 = s.marker.dropped.toNat ∧
      u16At body 17 = s.marker.ticket.toNat ∧ u8At body 19 = s.marker.bus.isSome.toNat ∧
      u8At body 20 = s.marker.waitList.length % 256 ∧
      ∀ i w, s.marker.waitList[i]? = some w →
        u8At body (21 + 4 * i) =
          (match w.nest with | .a => 0 | .b => 1) + 2 * (match w.job.role with | .label => 0 | .reject => 1) ∧
        u16At body (22 + 4 * i) + 65536 * u8At body (24 + 4 * i) = w.job.serial % 16777216) ∧
  (∀ (p : PortId) (s : State), s.ready p →
    ∃ k body, exec (.readMarker p [3] .atOnce) s =
        .next (State.replied p .readMarker [3] .ok 0 body { s with freeCount := k }) ∧
      body.length = 27 ∧ u8At body 0 = 3 ∧ (s.marker.lastFailed = none → body = 3 :: List.replicate 26 0) ∧
      ∀ f, s.marker.lastFailed = some f → u8At body 1 = 1 ∧ u8At body 2 = jobFaultCode f.cause ∧
        u8At body 3 = f.device.getD 0xFF % 256 ∧ u8At body 4 = f.page % 256 ∧ f.job.StandsAt 5 body) ∧
  (∀ (p : PortId) (d : Fin 4) (s : State), s.ready p →
    ∃ k body, exec (.readMarker p (byte 4 ++ byte d.val) .atOnce) s =
        .next (State.replied p .readMarker (byte 4 ++ byte d.val) .ok 0 body { s with freeCount := k }) ∧
      body.length = 25 ∧
      ((s.marker.devices[d.val]?).bind (·.history) = none → body = byte 4 ++ byte d.val ++ List.replicate 23 0) ∧
      ∀ j, (s.marker.devices[d.val]?).bind (·.history) = some j →
        u8At body 0 = 4 ∧ u8At body 1 = d.val ∧ u8At body 2 = 1 ∧ j.StandsAt 3 body) ∧
  (∀ (p : PortId) (page d : Byte) (s : State), s.ready p → 4 < page.toNat ∨ (page = 4 ∧ 3 < d.toNat) →
    exec (.readMarker p [page, d] .atOnce) s =
      .next (State.replied p .readMarker [page, d] .badParam (if 4 < page.toNat then 0 else 1) [] s))

/-- READ EVENTS (R175, R176, R180): the reply carries the sixteen events as they stood, STATION_VERIFIED in bit 16 (1 only with the
mark clear and the station verified) and the mask; the port's events are cleared, its mark takes the current status, and the
other port is untouched. -/
def Obligations.ReadEventsReportsAndClears : Prop :=
  ∀ (p : PortId) (s : State), s.ready p →
    exec (.readEvents p [] .atOnce) s = .next (State.modPort p
      (fun q => { q with events := 0, unverified := decide (s.units.remaining = 0) })
      (State.replied p .readEvents [] .ok 0
        (le 2 (s.port p).events.toNat ++
          (if (s.port p).unverified = false ∧ 1 ≤ s.units.remaining then le 2 1 else le 2 0) ++
          le 4 (s.port p).mask.toNat) s))

/-- SET MASK (R177): the mask becomes the one given, the reply carries the one before, and attention follows the events not
masked. IDENTIFY (R179) changes nothing but the window and carries part number, revision, port, address and strap, then the loader state,
the active and the staged plan id with their presence, the two calibration marks and the shift number. -/
def Obligations.SetMaskAndIdentify : Prop :=
  (∀ (p : PortId) (m : BitVec 32) (s : State), s.ready p →
    ∃ t, exec (.setMask p (le 4 m.toNat) .atOnce) s = .next t ∧
      t = State.modPort p (fun q => { q with mask := m })
        (State.replied p .setMask (le 4 m.toNat) .ok 0 (le 4 (s.port p).mask.toNat) s) ∧
      (t.attention p = true ↔ ∃ i, i < 16 ∧ (s.port p).events.getLsbD i = true ∧ m.getLsbD i = false)) ∧
  (∀ (p : PortId) (s : State), s.ready p →
    exec (.identify p [] .atOnce) s = .next (State.replied p .identify [] .ok 0
      ([0x20, 0x46, 1, (match p with | .station => 1 | .line => 2), 0x58 + s.straps.address.setWidth 8,
        (if s.straps.ambient then 1 else 0),
        (match s.loader.state with | .idle => 0 | .receiving => 1 | .checking => 2 | .staged => 3 | .pending => 4)] ++
        (match s.loader.active with | some a => 1 :: le 4 a.content.id.toNat | none => [0, 0, 0, 0, 0]) ++
        (match s.loader.staged with | some x => 1 :: le 4 x.content.id.toNat | none => [0, 0, 0, 0, 0]) ++
        [(if s.capture.active = none then 0 else 1), (if s.capture.pending = none then 0 else 1)] ++ le 2 s.accounts.shift)
      s))

/-! ### Event lines -/

/-- LINE_PIN_CHANGE and DEBOUNCE_EXPIRY (R42): a change of the pin of a line bound to an input function restarts its timer and
moves nothing else, any other pin change moves the pin level alone (in a hold, assumption log 20, the model's choice). At the expiry
the debounced level takes the pin level, and a first level after a change of map, one that does not differ, or an edge that R44 gives no effect, moves
nothing else. An expiry of a timer that does not run changes nothing (the model's choice, assumption log 3).
A bound PRESENT_x that falls: DONE empties (R34); LOADED at attempt 1 empties and counts released_untested; EMPTY stands; LABEL_WAIT
empties and drops its job, labels_dropped rises by one, and the label queue stands (R30). A bound CLAMP_x that falls aborts its
MEASURING nest; DOOR_CLOSED that falls and STOP that rises abort both nests and free their windows not begun (R33, R44, R81), before
the chain is granted, a WAITING nest's verdict and bin being absent then and a freed half keeping its other fields (the model's
choices, assumption logs 14, 35 and 22). There a CHAIN CHECK that waits is then granted the chain, or a pending activation follows
(R19, R37; the loader fields that stand are log 11); in the other clauses no activation is pending.
A START_x that rises is refused as R27 says, setting the nest's last refusal and latching START_REFUSED (bit 12) on both ports, or
is accepted, clearing it, and the nest is MEASURING or WAITING (R28, R44).
Each output function has its value of R45, YIELD_LOW that of R139. -/
def Obligations.DebounceAndPresenceLoss : Prop :=
  (∀ (l : Fin 8) (v : Bool) (f : InputFunction) (s : State), s.held = false → s.lines.line[l].pin ≠ v →
    s.lines.line[l].function = .input f →
    exec (.linePinChange l v) s = .next { s with lines := { s.lines with
      line := s.lines.line.set l { s.lines.line[l] with pin := v, timer := true } } }) ∧
  (∀ (l : Fin 8) (v : Bool) (s : State),
    s.held = true ∨ s.lines.line[l].pin = v ∨ (∀ f, s.lines.line[l].function ≠ .input f) →
    exec (.linePinChange l v) s = .next { s with lines := { s.lines with
      line := s.lines.line.set l { s.lines.line[l] with pin := v } } }) ∧
  (∀ (l : Fin 8) (s : State), s.held = false → s.lines.line[l].timer = true →
    s.lines.line[l].debounced = none ∨ s.lines.line[l].debounced = some s.lines.line[l].pin ∨
      (∃ f, s.lines.line[l].function = .input f ∧
        ((s.lines.line[l].pin = true ∧ ((∃ n, f = .present n) ∨ (∃ n, f = .clamp n) ∨ f = .doorClosed)) ∨
          (s.lines.line[l].pin = false ∧ (f = .stop ∨ ∃ n, f = .start n)))) →
    exec (.debounceExpiry l) s = .next { s with lines := s.lines.settle l }) ∧
  (∀ (l : Fin 8) (s : State), s.lines.line[l].timer = false → exec (.debounceExpiry l) s = .next s) ∧
  (∀ (l : Fin 8) (n : NestId) (s : State), s.AtEdge l (.present n) false → s.loader.state ≠ .pending →
    ∃ t, exec (.debounceExpiry l) s = .next t ∧ t.lines = s.lines.settle l ∧
      ((s.nest n).state = .done →
        t.nest n = { s.nest n with state := .empty, kind := none, serial := none, attempt := none } ∧
        t.accounts = s.accounts ∧ t.units = s.units) ∧
      ((s.nest n).state = .loaded → (s.nest n).kind = some .production → (s.nest n).attempt = some 1 →
        t.nest n = { s.nest n with state := .empty, kind := none, serial := none, attempt := none } ∧
        t.accounts.counts = { s.accounts.counts with releasedUntested := s.accounts.counts.releasedUntested + 1 } ∧
        t.units = s.units) ∧
      ((s.nest n).state = .empty → t.nest n = s.nest n ∧ t.accounts = s.accounts ∧ t.units = s.units) ∧
      ((s.nest n).state = .labelWait →
        (t.nest n).state = .empty ∧ t.marker.waitList = s.marker.waitList.filter (·.nest ≠ n) ∧
        t.marker.dropped = s.marker.dropped + 1 ∧ t.marker.queue = s.marker.queue ∧ t.accounts = s.accounts)) ∧
  (∀ (l : Fin 8) (n : NestId) (s : State), s.AtEdge l (.clamp n) false → s.loader.state ≠ .pending →
    ((s.nest n).state.inTest = false → exec (.debounceExpiry l) s = .next { s with lines := s.lines.settle l }) ∧
    ((s.nest n).state = .measuring → s.chain.queue = [] →
      ∃ t, exec (.debounceExpiry l) s = .next t ∧ s.WindowsFreed (.nest n) (s.nest n).tag t ∧
        t.capture = { s.capture with half0 := t.capture.half0, half1 := t.capture.half1, holdoff := none } ∧
        t = State.modNest n Nest.abortedTest
          { s with
            lines := s.lines.settle l, chain := { s.chain with holder := none }
            gen := { s.gen with mode := .silent, dac := 0, stopMark := false, claimant := none }
            capture := t.capture, engine := t.engine
            accounts := { s.accounts with counts := { s.accounts.counts with aborted := s.accounts.counts.aborted + 1 } } })) ∧
  (∀ (l : Fin 8) (s : State), s.AtEdge l .doorClosed false ∨ s.AtEdge l .stop true → s.loader.state ≠ .pending →
    .check ∉ s.chain.queue → (∀ n, .nest n ∈ s.chain.queue → (s.nest n).state = .waiting) →
    ∃ t, exec (.debounceExpiry l) s = .next t ∧ s.TestsAborted t ∧ t.lines = s.lines.settle l ∧ t.station = s.station ∧
      t.line = s.line) ∧
  (∀ (l : Fin 8) (s : State), s.AtEdge l .doorClosed false ∨ s.AtEdge l .stop true →
    ∃ u t, exec (.debounceExpiry l) s.alone = .next u ∧ exec (.debounceExpiry l) s = .next t ∧ s.TestsLeft u t) ∧
  (∀ (l : Fin 8) (n : NestId) (s : State), s.AtEdge l (.start n) true →
    (∀ r, s.startRefusal n = some r → exec (.debounceExpiry l) s = .next
      (State.modNest n (fun x => { x with lastRefusal := some r })
        { s with
          lines := s.lines.settle l
          station := { s.station with events := s.station.events ||| 0x1000 }
          line := { s.line with events := s.line.events ||| 0x1000 } })) ∧
    (s.startRefusal n = none → ∃ t, exec (.debounceExpiry l) s = .next t ∧ (t.nest n).lastRefusal = none ∧
      (∀ c, s.chain.holder = some c → (t.nest n).state = .waiting ∧ t.chain.queue = s.chain.queue ++ [.nest n]) ∧
      (s.chain.holder = none → s.chain.queue = [] →
        (t.nest n).state = .measuring ∧ (t.nest n).tag = (s.nest n).tag + 1 ∧ t.chain.holder = some (.nest n)) ∧
      t.units.remaining = s.remainingAfterStart n ∧ t.lines = s.lines.settle l)) ∧
  (∀ (i : Fin 8) (f : OutputFunction) (s : State), s.held = false → s.lines.line[i].function = .output f →
    s.lineDrive i = some (match f with
      | .busy n => decide ((s.nest n).state = .waiting ∨ (s.nest n).state = .measuring ∨ (s.nest n).state = .analysing)
      | .pass n => decide (((s.nest n).state = .labelWait ∨ (s.nest n).state = .done) ∧ (s.nest n).verdict = some .pass)
      | .fail n => decide (((s.nest n).state = .labelWait ∨ (s.nest n).state = .done) ∧
          ((s.nest n).verdict = some .fail ∨ (s.nest n).verdict = some .retest))
      | .unverified => decide (s.plan ≠ none ∧ 0 < s.windowLength ∧ s.units.remaining = 0)
      | .yieldLow => decide (∃ c ∈ s.plan, s.accounts.ring.length = 64 ∧
          (s.accounts.ring.countP fun e => e.kind = .firstPass) < c.policy.alarm * 64 / 10000)))

/-! ### Sweeps and windows -/

/-- `k` sample periods at once are `k` sample periods of R48, one after another: the sample, the addition modulo 2^32, the wraps,
the post-wrap mark, the ramp and the counts (R48, R51; assumption log 5). -/
def Obligations.PlayIsPlayOneRepeated : Prop :=
  ∀ (k : Nat) (g : Generator), g.play k = Nat.repeat Generator.playOne k g

/-- A window of a plan's point, begun at a post-wrap sample, holds between 1 and 4,001 samples, and its last addition is the one
that completes its C_eff-th wrap (R54). -/
def Obligations.WindowHoldsAtMost4001Samples : Prop :=
  ∀ (f window : Nat) (p0 : Phase), 2000 ≤ f → f ≤ 2000000 → 4 ≤ window → window ≤ 256 →
    p0.toNat < (phaseIncrement f).toNat →
    1 ≤ windowSamples (effectiveCycles window f) p0 (phaseIncrement f) ∧
    windowSamples (effectiveCycles window f) p0 (phaseIncrement f) ≤ 4001 ∧
    effectiveCycles window f * 2 ^ 32 ≤
      p0.toNat + windowSamples (effectiveCycles window f) p0 (phaseIncrement f) * (phaseIncrement f).toNat ∧
    p0.toNat + (windowSamples (effectiveCycles window f) p0 (phaseIncrement f) - 1) * (phaseIncrement f).toNat <
      effectiveCycles window f * 2 ^ 32

/-- WINDOW_BEGIN in SETTLE with a free half (R52, R54, R61 to R63): the generator plays on to the first post-wrap sample that follows
the settle cycles and 480 samples of its point, and a half is FILLING for its claimant with its tag, the point's index, frequency,
increment, cycles, harmonic count and guard flag, the phase of that sample as p0, N by R54, the window attempt, the input that the
claimant measures and, for a nest, the active calibration's offset for it; nothing is recorded yet. The guard flag of a CHAIN CHECK
point, which the spec does not give, is the model's choice (assumption log 44). In HOLDOFF with its timer stopped
the first post-wrap sample begins the retry window of the same point, and no settle is repeated (R56). That the generator plays on
inside the command is the model's (assumption log 5). With no free half the settle, or the wait after the holdoff, is extended and no
window begins (R53, R56; assumption log 27). -/
def Obligations.WindowBeginsAtAPostWrapSample : Prop :=
  (∀ (c : Claimant) (s : State), s.held = false → s.gen.mode = .settle → s.gen.claimant = some c → s.gen.stopMark = false →
    0 < s.gen.inc.toNat → s.freeHalf ≠ none →
    ∃ (k : Nat) (h : HalfId) (t : State), exec .windowBegin s = .next t ∧ s.freeHalf = some h ∧
      t.gen = { s.gen.play k with mode := .window, windowPlayed := 0 } ∧
      (s.gen.play k).settled s.currentPoint.settle ∧ (∀ j, j < k → ¬ (s.gen.play j).settled s.currentPoint.settle) ∧
      t.half h = s.windowHalf c t.gen.acc ∧
      (∀ g, g ≠ h → t.half g = s.half g) ∧ t = { s with gen := t.gen, capture := t.capture }) ∧
  (∀ (c : Claimant) (s : State), s.held = false → s.gen.mode = .holdoff → s.capture.holdoff = none →
    s.gen.claimant = some c → s.gen.stopMark = false → 0 < s.gen.inc.toNat → s.freeHalf ≠ none →
    ∃ (k : Nat) (h : HalfId) (t : State), exec .windowBegin s = .next t ∧ s.freeHalf = some h ∧
      t.gen = { s.gen.play k with mode := .window, windowPlayed := 0 } ∧
      (s.gen.play k).postWrap = true ∧ (∀ j, j < k → (s.gen.play j).postWrap = false) ∧
      t.half h = s.windowHalf c t.gen.acc ∧
      (∀ g, g ≠ h → t.half g = s.half g) ∧ t = { s with gen := t.gen, capture := t.capture }) ∧
  (∀ s : State, s.held = false → s.gen.mode = .settle ∨ (s.gen.mode = .holdoff ∧ s.capture.holdoff = none) →
    s.freeHalf = none →
    ∃ t, exec .windowBegin s = .next t ∧ t.gen.mode = s.gen.mode ∧ t.gen.cursor = s.gen.cursor ∧
      t.capture.half0 = s.capture.half0 ∧ t.capture.half1 = s.capture.half1 ∧
      t = { s with gen := t.gen, capture := t.capture })

/-- WINDOW_END of a CHAIN CHECK window (R54, R55, R63, R70, R92): its samples stand in the half, which joins the queue of a BUSY engine
or is under analysis at once in an IDLE one; no check is made and no account changes; the generator is in SETTLE at the second point,
or after the second window in FADE_OUT.
WINDOW_END of a nest's window contaminated with a retry left (R64, R66 to R68, R72): the half is freed, guard_hits rises by one,
the window attempt advances, and the generator is in HOLDOFF with 48 sample periods for each millisecond of the holdoff; the
other half and the engine stand, the half freed standing in no queue.
WINDOW_END of a nest's clean window (R63, R64, R70, R78): samples and both peaks stand in the half, which joins the queue of a BUSY
engine, or is under analysis at once in an IDLE one; the sweep steps on to the next point or, after the last, to the fade-out (R55).
A peak at or above the overload limit ends the point as OVERLOAD before the guard is looked at (R65), contamination with no retry
left ends it as NOISY (R69): the half is freed, the account rises by one, the record with its attempts stands in its slot and the
cause is set, and the sweep steps on. At the reference point the reference is NOT_VALID then, and with a REL curve in the plan the
cause NOISY is set too (R103). In the first and third case an IDLE engine has an empty queue, a law that every step keeps
(StepKeepsTheLists). -/
def Obligations.WindowEndDecisions : Prop :=
  (∀ (samples : List (Sample × Sample)) (h : HalfId) (s : State), s.held = false → s.gen.mode = .window →
    s.fillingHalf = some h → (s.half h).claimant = .check → s.gen.claimant = some .check →
    samples.length = (s.half h).length → (s.engine.under = none → s.engine.queue = []) →
    ∃ t, exec (.windowEnd samples) s = .next t ∧
      ((t.half h).samples.map (·.1)) = (samples.map fun x => x.1.toInt) ∧ (∀ g, g ≠ h → t.half g = s.half g) ∧
      (∀ other, s.engine.under = some other →
        (t.half h).state = .queued ∧ t.engine = { s.engine with queue := s.engine.queue ++ [h] }) ∧
      (s.engine.under = none → (t.half h).state = .inAnalysis ∧
        t.engine = { s.engine with
          under := some h, queue := [h], inPhase := List.replicate 12 0, quad := List.replicate 12 0, residual := 0 }) ∧
      (s.gen.cursor = 0 → t.gen.mode = .settle ∧ t.gen.cursor = 1 ∧ t.gen.samples = 0 ∧ t.gen.wraps = 0) ∧
      (1 ≤ s.gen.cursor → t.gen.mode = .fadeOut ∧ t.gen.ramp = 0 ∧ t.gen.cursor = s.gen.cursor) ∧
      t.capture.attempt = 1 ∧ t = { s with gen := t.gen, capture := t.capture, engine := t.engine }) ∧
  (∀ (samples : List (Sample × Sample)) (n : NestId) (h : HalfId) (c : PlanContent) (s : State), s.held = false →
    s.gen.mode = .window → s.fillingHalf = some h → (s.half h).claimant = .nest n → s.plan = some c →
    samples.length = (s.half h).length → (peakOf (samples.map (·.1))) < c.guard.overload →
    s.straps.ambient = true → (s.half h).guard = true →
    c.guard.threshold < guardLevel (peakOf (samples.map (·.2))) ((s.capture.active.map (·.ambient)).getD 0) →
    (s.half h).attempt ≤ c.guard.retries →
    ∃ t, exec (.windowEnd samples) s = .next t ∧ (t.half h).state = .free ∧
      t.accounts.counts = { s.accounts.counts with guardHits := s.accounts.counts.guardHits + 1 } ∧
      t.capture.attempt = s.capture.attempt + 1 ∧ t.capture.holdoff = some (48 * c.guard.holdoffMs) ∧
      t.gen.mode = .holdoff ∧ t.gen.cursor = s.gen.cursor ∧
      (∀ g, g ≠ h → t.half g = s.half g) ∧ t.engine = { s.engine with queue := s.engine.queue.filter (· ≠ h) } ∧
      t.capture = { s.capture with
        half0 := t.capture.half0, half1 := t.capture.half1, attempt := t.capture.attempt, holdoff := t.capture.holdoff } ∧
      t = { s with
        gen := t.gen, capture := t.capture, engine := t.engine
        accounts := { s.accounts with counts := t.accounts.counts } }) ∧
  (∀ (samples : List (Sample × Sample)) (n : NestId) (h : HalfId) (c : PlanContent) (s : State),
    s.AtWindowEnd n h c samples → peakOf (samples.map (·.1)) < c.guard.overload → ¬ s.guardFails h c samples →
    (s.engine.under = none → s.engine.queue = []) →
    ∃ t, exec (.windowEnd samples) s = .next t ∧ s.SteppedOn t ∧
      ((t.half h).samples.map (·.1)) = (samples.map fun x => x.1.toInt) ∧
      (t.half h).peak = peakOf (samples.map (·.1)) ∧
      (t.half h).ambient = (if s.straps.ambient then peakOf (samples.map (·.2)) else 0) ∧
      t.half h = { s.half h with
        state := (t.half h).state, samples := (t.half h).samples, peak := (t.half h).peak, ambient := (t.half h).ambient } ∧
      (∀ g, g ≠ h → t.half g = s.half g) ∧
      (∀ other, s.engine.under = some other →
        (t.half h).state = .queued ∧ t.engine = { s.engine with queue := s.engine.queue ++ [h] }) ∧
      (s.engine.under = none → (t.half h).state = .inAnalysis ∧
        t.engine = { s.engine with
          under := some h, queue := [h], inPhase := List.replicate 12 0, quad := List.replicate 12 0, residual := 0 }) ∧
      t = { s with gen := t.gen, capture := t.capture, engine := t.engine }) ∧
  (∀ (samples : List (Sample × Sample)) (n : NestId) (h : HalfId) (c : PlanContent) (noisy : Bool) (s : State),
    s.AtWindowEnd n h c samples → (s.nest n).state = .measuring → (s.half h).tag = (s.nest n).tag →
    (noisy = false ∧ c.guard.overload ≤ peakOf (samples.map (·.1))) ∨
      (noisy = true ∧ peakOf (samples.map (·.1)) < c.guard.overload ∧ s.guardFails h c samples ∧
        c.guard.retries < (s.half h).attempt) →
    ∃ t, exec (.windowEnd samples) s = .next t ∧ s.SteppedOn t ∧ (t.half h).state = .free ∧
      (∀ g, g ≠ h → t.half g = s.half g) ∧
      t.nest n = { s.nest n with
        slots := (s.nest n).slots.set (s.half h).point (some ⟨(s.half h).point, (s.half h).freq,
          if noisy then .noisy else .overload, (s.half h).attempt, none, none, none, none⟩)
        causeNoisy := (s.nest n).causeNoisy || noisy ||
          decide (c.sweep.reference = some (s.half h).point ∧ ∃ u ∈ c.limits, u.measure = .rel)
        causeOverload := (s.nest n).causeOverload || !noisy
        refState := if c.sweep.reference = some (s.half h).point then .notValid else (s.nest n).refState } ∧
      t.engine = { s.engine with queue := s.engine.queue.filter (· ≠ h) } ∧
      t = State.modNest n (fun _ => t.nest n)
        { s with
          gen := t.gen, capture := t.capture, engine := t.engine
          accounts := { s.accounts with counts := { s.accounts.counts with
            overloadPoints := s.accounts.counts.overloadPoints + (if noisy then 0 else 1)
            noisyPoints := s.accounts.counts.noisyPoints + (if noisy then 1 else 0) } } })

/-- HOLDOFF_END, RUN_OUT_FADE_OUT (R56, R59, R68): at the end of the holdoff its timer is stopped and the generator still waits for
a window; a run-out ends at a post-wrap sample, where the fade-out begins with factor 479. That the holdoff's end is taken
before the sample of its last period is the model's choice (assumption log 7).
LAST_FADE_OUT_SAMPLE of a nest's sweep with windows outstanding and nobody waiting (R29, R57): the generator is SILENT and
feeds 0, the nest is ANALYSING and the chain is free.
LAST_FADE_OUT_SAMPLE of a CHAIN CHECK (R39): with a result missing, the check waits for it. With both in, and here nobody waiting and
no activation pending, the chain is free and the reply is OK with PASS when both levels lie within −2,050 to −1,950 cdB, else FAIL,
and both levels; REQUEST_DONE (bit 14) is latched on the Station Port; a FAIL withdraws verification and latches CHAIN_FAULT (bit 6)
on both ports.
Where the last fade-out sample, a completion or an ABANDON frees the chain and a claimant waits, the first one is granted it (R36, R37),
in the state that the same event leaves with nobody waiting and no activation pending; a pending activation then goes on waiting.
Where it takes the outgoing plan out of use with nobody waiting, the pending activation follows it (R19, R20); that the loader's
write pointer, declared size and overrun mark stand then is log 11. That the grant comes after the event's own effects and before the
judgement of a pending activation are the model's readings (assumption logs 13 and 24). -/
def Obligations.HoldoffRunOutAndFadeOutEnd : Prop :=
  (∀ (k : Nat) (s : State), s.held = false → s.gen.mode = .holdoff → s.capture.holdoff = some (k + 1) →
    ∃ t, exec .holdoffEnd s = .next t ∧ t.capture.holdoff = none ∧ t.gen.mode = .holdoff ∧
      t.gen.samples = s.gen.samples + k ∧ t.gen.cursor = s.gen.cursor ∧
      t = { s with gen := t.gen, capture := { s.capture with holdoff := none } }) ∧
  (∀ s : State, s.held = false → s.gen.mode = .runOut → 0 < s.gen.inc.toNat → s.capture.holdoff = none →
    ∃ t, exec .runOutFadeOut s = .next t ∧ t.gen.mode = .fadeOut ∧ t.gen.postWrap = true ∧ t.gen.ramp = 0 ∧
      rampFactor t.gen.mode t.gen.ramp = 479 ∧ t.gen.cursor = s.gen.cursor ∧ t = { s with gen := t.gen }) ∧
  (∀ (n : NestId) (s : State), s.held = false → s.gen.mode = .fadeOut → s.gen.claimant = some (.nest n) → s.gen.ramp < 480 →
    s.outstanding n ≠ 0 → s.chain.queue = [] → s.capture.holdoff = none →
    ∃ t, exec .lastFadeOutSample s = .next t ∧ t.gen.mode = .silent ∧ t.gen.dac = 0 ∧ t.gen.claimant = none ∧
      t.nest n = { s.nest n with state := .analysing } ∧ t.chain = { s.chain with holder := none } ∧ t.amplifier = none ∧
      t = State.modNest n (fun x => { x with state := .analysing }) { s with gen := t.gen, chain := t.chain }) ∧
  (∀ s : State, s.held = false → s.gen.mode = .fadeOut → s.gen.claimant = some .check → s.gen.ramp < 480 →
    s.capture.holdoff = none → s.chain.holder = some .check →
    (s.chain.checkA = none ∨ s.chain.checkB = none →
      ∃ t, exec .lastFadeOutSample s = .next t ∧ t.gen.mode = .silent ∧ t.gen.dac = 0 ∧ t.gen.claimant = none ∧
        t = { s with gen := t.gen, chain := { s.chain with checkFaded := true } }) ∧
    (∀ (a b : Int) (ps : Vector Byte 64), s.chain.checkA = some a → s.chain.checkB = some b → s.chain.queue = [] →
      s.loader.state ≠ .pending → s.station.running = some ⟨.chainCheck, ps, true⟩ →
      ∃ (pass : Bool) (t : State), exec .lastFadeOutSample s = .next t ∧
        (pass = true ↔ -2050 ≤ a ∧ a ≤ -1950 ∧ -2050 ≤ b ∧ b ≤ -1950) ∧
        t.gen.mode = .silent ∧ t.gen.dac = 0 ∧ t.gen.claimant = none ∧
        t = State.checkEnded a b pass { s with gen := t.gen })) ∧
  (∀ (i : Instr) (c : Claimant) (rest : List Claimant) (s u : State),
    i = .lastFadeOutSample ∨ i = .analysisCompletion ∨ i = .abandon .station [] →
    s.chain.holder ≠ none → s.chain.queue = c :: rest → exec i s.alone = .next u → u.chain.holder = none →
    ∃ t, exec i s = .next t ∧ State.Granted c rest { u with loader := s.loader } t) ∧
  (∀ (i : Instr) (p : StagedPlan) (s u : State),
    i = .lastFadeOutSample ∨ i = .analysisCompletion ∨ i = .abandon .station [] →
    s.chain.queue = [] → s.loader.state = .pending → s.loader.staged = some p → s.planInUse = true →
    exec i s.alone = .next u → u.planInUse = false →
    ∃ t, exec i s = .next t ∧ State.Activated p { u with loader := s.loader } t)

/-! ### Analysis, judgement, verdicts -/

/-- ANALYSIS_COMPLETION (R25, R39, R79, R80, R92): the half is freed and leaves the queue, and with no other window waiting the engine is
IDLE. A result that its claimant discards changes no slot, curve, account, nest or CHAIN CHECK and ends no test: that of a nest neither
MEASURING nor ANALYSING, or under another sweep tag, and that of a CHAIN CHECK that does not hold the chain, or under another tag; the
next window then begins (R40, R81). A record of a MEASURING nest under its current tag,
in a plan without stop-on-fail, is taken into its record (what that brings is RecordsAreJudged): without a reference point it stands
as it is in the slot of its point. A record of an ANALYSING nest is taken too: with another of its windows outstanding the engine begins
that one and the nest stays ANALYSING; the last outstanding one makes the verdict (R29), whose effects are those that
VerdictFollowsTheRecord states at the last fade-out sample, and a pending activation follows (R19). The result of a CHAIN CHECK is its
Lfs for the input it recorded; where the fade-out has ended and the other result is in, it ends the check, here with nobody waiting
and no activation pending: the chain is free, the reply is OK with PASS when both levels lie within −2,050 to −1,950 cdB, else FAIL,
and both levels; REQUEST_DONE (bit 14) is latched on the Station Port; a FAIL withdraws verification and latches CHAIN_FAULT (bit 6)
on both ports. That a half and the loader keep their other fields is the model's choice (assumption logs 22 and 11), and so is what a
RETEST verdict adds to the causes (log 45). -/
def Obligations.CompletionGoesToItsClaimant : Prop :=
  (∀ (h : HalfId) (rest : List HalfId) (s : State), s.held = false → s.engine.under = some h → s.engine.queue = h :: rest →
    h ∉ rest → s.discards h → ∃ t, exec .analysisCompletion s = .next t ∧ s.HalfFinished h rest t) ∧
  (∀ (n : NestId) (h : HalfId) (c : PlanContent) (s : State), s.held = false → s.engine.under = some h → s.engine.queue = [h] →
    (s.half h).claimant = .nest n → (s.nest n).state = .measuring → (s.half h).tag = (s.nest n).tag → s.plan = some c →
    c.sweep.stopOnFail = false →
    ∃ t, exec .analysisCompletion s = .next t ∧ (t.half h).state = .free ∧ t.engine.under = none ∧ t.engine.queue = [] ∧
      t.nest n = (s.nest n).take c (recordOf c.sweep.minResponse (s.half h) (analyse (s.half h))) ∧
      (c.sweep.reference = none → (t.nest n).slots = (s.nest n).slots.set (s.half h).point
        (some (recordOf c.sweep.minResponse (s.half h) (analyse (s.half h))))) ∧
      (t.nest n).state = .measuring ∧
      t = State.modNest n (fun _ => t.nest n) { s with engine := t.engine, capture := t.capture }) ∧
  (∀ (h : HalfId) (s : State), s.held = false → s.engine.under = some h → s.engine.queue = [h] →
    (s.half h).claimant = .check → s.chain.holder = some .check → (s.half h).tag = s.chain.checkTag →
    s.chain.checkFaded = false ∨ (match (s.half h).input with | .a => s.chain.checkB | .b => s.chain.checkA) = none →
    ∃ t, exec .analysisCompletion s = .next t ∧ (t.half h).state = .free ∧ t.engine.under = none ∧ t.engine.queue = [] ∧
      t.chain = (match (s.half h).input with
        | .a => { s.chain with checkA := some (analyse (s.half h)).lfs }
        | .b => { s.chain with checkB := some (analyse (s.half h)).lfs }) ∧
      t = { s with engine := t.engine, capture := t.capture, chain := t.chain }) ∧
  (∀ (h : HalfId) (a b : Int) (ps : Vector Byte 64) (s : State), s.held = false → s.engine.under = some h →
    s.engine.queue = [h] → (s.half h).claimant = .check → s.chain.holder = some .check → (s.half h).tag = s.chain.checkTag →
    s.chain.checkFaded = true →
    ((s.half h).input = .a ∧ a = (analyse (s.half h)).lfs ∧ s.chain.checkB = some b) ∨
      ((s.half h).input = .b ∧ b = (analyse (s.half h)).lfs ∧ s.chain.checkA = some a) →
    s.chain.queue = [] → s.loader.state ≠ .pending → s.station.running = some ⟨.chainCheck, ps, true⟩ →
    ∃ (pass : Bool) (t : State), exec .analysisCompletion s = .next t ∧
      (pass = true ↔ -2050 ≤ a ∧ a ≤ -1950 ∧ -2050 ≤ b ∧ b ≤ -1950) ∧
      (t.half h).state = .free ∧ t.engine.under = none ∧ t.engine.queue = [] ∧
      t = State.checkEnded a b pass { s with engine := t.engine, capture := t.capture }) ∧
  (∀ (n : NestId) (h g : HalfId) (c : PlanContent) (s : State), s.held = false → s.engine.under = some h →
    s.engine.queue = [h, g] → h ≠ g → (s.half h).claimant = .nest n → (s.half g).claimant = .nest n →
    (s.half h).tag = (s.nest n).tag → (s.half g).tag = (s.nest n).tag → (s.half g).state = .queued →
    (s.nest n).state = .analysing → s.plan = some c →
    ∃ t, exec .analysisCompletion s = .next t ∧ t.half h = { s.half h with state := .free } ∧
      t.half g = { s.half g with state := .inAnalysis } ∧
      t.engine = { s.engine with
        under := some g, queue := [g], inPhase := List.replicate 12 0, quad := List.replicate 12 0, residual := 0 } ∧
      t.nest n = (s.nest n).take c (recordOf c.sweep.minResponse (s.half h) (analyse (s.half h))) ∧
      (t.nest n).state = .analysing ∧
      t = State.modNest n (fun _ => t.nest n) { s with engine := t.engine, capture := t.capture }) ∧
  (∀ (n : NestId) (h : HalfId) (c : PlanContent) (x : Nest) (v k : Nat) (r w : Verdict) (last pend suspect : Bool) (s : State),
    s.AtLastCompletion n h c x → s.loader.state ≠ .pending → s.AtRuling n c x v k r w last pend suspect →
    ∃ (b : Nat) (t : State), exec .analysisCompletion s = .next t ∧ s.VerdictMade n c x v k r w last pend suspect b t ∧
      s.Completed h t) ∧
  (∀ (n : NestId) (h : HalfId) (c : PlanContent) (x : Nest) (w : Verdict) (s : State), s.AtLastCompletion n h c x →
    s.loader.state ≠ .pending → x.kind = some .reference → w = x.resolve c.limits →
    ∃ t, exec .analysisCompletion s = .next t ∧ s.ReferenceVerdictMade n c x w t ∧ s.Completed h t) ∧
  (∀ (n : NestId) (h : HalfId) (c : PlanContent) (x : Nest) (q : StagedPlan) (s : State), s.AtLastCompletion n h c x →
    s.loader.state = .pending → s.loader.staged = some q → (s.nest (otherNest n)).state.inTest = false →
    s.chain.holder ≠ some .check →
    ∃ t, exec .analysisCompletion s = .next t ∧ (t.nest n).verdict ≠ none ∧ (t.nest n).state ≠ .analysing ∧
      s.Completed h t ∧ (∀ p, t.latched p (.nestDone n) = true ∧ t.latched p .planActivated = true) ∧
      t.loader = { s.loader with
        state := .idle, staging := [], staged := none, active := some ⟨s.loader.staging, q.content, q.points⟩ })

/-- Every measurement of a record lies within ±15,000 cdB, REL is absent until it is filled, and a NO_SIGNAL record carries no THD
or RNB (R87, R89, R91, R93).
The values are those of the exact sums, amplitudes and residual peak of R84 to R86, rounded and clamped as R87 says: Lfs is
2,000 × log10(A_1 / 8,388,607), and −15,000 where A_1 is 0; SPL is Lfs plus the half's mic offset, clamped (R88); the record is NO_SIGNAL
exactly where A_1 is 0 or SPL is below the minimum response, else VALID (R91); a VALID record has THD, where H_eff is at least 2, of
1,000 × log10(D / A_1²), and −15,000 where D is 0 (R89), and for a nest's window RNB of 2,000 × log10(P / A_1), and −15,000 where P
is 0 (R90). -/
def Obligations.MeasurementsAreClamped : Prop :=
  (∀ (minResponse : Int) (h : Half),
    let r := recordOf minResponse h (analyse h)
    (∀ v, r.spl = some v ∨ r.thd = some v ∨ r.rnb = some v → -15000 ≤ v ∧ v ≤ 15000) ∧ r.rel = none ∧
    (r.status = .valid ∨ r.status = .noSignal) ∧ (r.status = .noSignal → r.thd = none ∧ r.rnb = none) ∧
    r.index = h.point ∧ r.freq = h.freq ∧ r.attempts = h.attempt) ∧
  (∀ (minResponse offset : Int) (h : Half) (H : Nat) (I Q : Nat → Int) (A : Nat → ℝ) (D P : ℝ),
    h.Analysis H I Q A D P → 1 ≤ H → 1 ≤ h.length → h.micOffset = some offset →
    let a := analyse h
    let r := recordOf minResponse h a
    (A 1 = 0 → a.lfs = -15000) ∧ (A 1 ≠ 0 → Measures (2000 * Real.logb 10 (A 1 / 8388607)) a.lfs) ∧
    r.spl = some (max (-15000) (min 15000 (a.lfs + offset))) ∧
    (r.status = .noSignal ↔ A 1 = 0 ∨ max (-15000) (min 15000 (a.lfs + offset)) < minResponse) ∧
    (r.status = .valid → 2 ≤ H →
      ∃ v, r.thd = some v ∧ (D = 0 → v = -15000) ∧ (D ≠ 0 → Measures (1000 * Real.logb 10 (D / A 1 ^ 2)) v)) ∧
    (r.status = .valid → ∀ n, h.claimant = .nest n →
      ∃ v, r.rnb = some v ∧ (P = 0 → v = -15000) ∧ (P ≠ 0 → Measures (2000 * Real.logb 10 (P / A 1)) v)))

/-- H_eff is min(H, floor(2,399,999 / f)): a harmonic k is counted exactly when k is at most H and k × f at most 2,399,999; at
1,200,000 cHz and above H_eff is at most 1, and below it at least 2 for H at least 2. The analysis accumulates the harmonics 1 to
H_eff, and while H_eff is below 2 the record's THD is absent (R83). -/
def Obligations.EffectiveHarmonicsStayBelowHalfTheRate : Prop :=
  ∀ (h f : Nat), 1 ≤ f →
    (∀ k, 1 ≤ k → (k ≤ effectiveHarmonics h f ↔ k ≤ h ∧ k * f ≤ 2399999)) ∧
    (1200000 ≤ f → effectiveHarmonics h f ≤ 1) ∧ (f < 1200000 → 2 ≤ h → 2 ≤ effectiveHarmonics h f) ∧
    (∀ (x : Half) (m : Int), x.harmonics = h → x.freq = f → (analyse x).acc.length = effectiveHarmonics h f ∧
      (effectiveHarmonics h f < 2 → (recordOf m x (analyse x)).thd = none))

/-- A margin is m − L saturated to signed 16 bits; every margin lies within −32,768 to 32,767; saturation never changes its sign
and never makes a difference 0, so a condition gives the same outcome as on the exact difference; each saturation sets the saturated mark of the worst-margin
record, which nothing clears (R98). -/
def Obligations.MarginIsTheSaturatedDifference : Prop :=
  ∀ (c : Curve) (f : Nat) (m : Int),
    let d := m - limitAt f c.breakpoints
    (-32768 ≤ d → d ≤ 32767 → marginOf c f m = d) ∧ (32767 < d → marginOf c f m = 32767) ∧
    (d < -32768 → marginOf c f m = -32768) ∧ -32768 ≤ marginOf c f m ∧ marginOf c f m ≤ 32767 ∧
    (marginOf c f m < 0 ↔ d < 0) ∧ (marginOf c f m = 0 ↔ d = 0) ∧
    (∀ k : Condition, k.fails (marginOf c f m) = k.fails d) ∧
    (marginSaturates c f m = true ↔ d < -32768 ∨ 32767 < d) ∧
    (∀ (k : Condition) (p : Nat) (w : Option Worst),
      (worstAfter k (marginOf c f m) p (marginSaturates c f m) w).saturated =
        ((w.map (·.saturated)).getD false || marginSaturates c f m))

/-- The limit of a curve, whose breakpoint frequencies ascend strictly, is at a breakpoint that breakpoint's limit. Between two
neighbours it is the left limit plus the quotient of R97, truncated toward zero; it lies between their limits, never below the
exact line where the line falls and never above it where the line rises, and in the signed 16-bit range when they do (R97). -/
def Obligations.LimitLiesBetweenItsBreakpoints : Prop :=
  ∀ (pre post : List Breakpoint) (a b : Breakpoint) (f : Nat),
    (pre ++ a :: b :: post).Pairwise (fun x y => x.freq < y.freq) →
    limitAt a.freq (pre ++ a :: b :: post) = a.limit ∧ limitAt b.freq (pre ++ a :: b :: post) = b.limit ∧
    (a.freq < f → f < b.freq →
      let l := limitAt f (pre ++ a :: b :: post)
      l = a.limit + ((b.limit - a.limit) * ((f : Int) - a.freq)).tdiv ((b.freq : Int) - a.freq) ∧
      min a.limit b.limit ≤ l ∧ l ≤ max a.limit b.limit ∧
      (b.limit < a.limit → (b.limit - a.limit) * ((f : Int) - a.freq) ≤ (l - a.limit) * ((b.freq : Int) - a.freq)) ∧
      (a.limit < b.limit → (l - a.limit) * ((b.freq : Int) - a.freq) ≤ (b.limit - a.limit) * ((f : Int) - a.freq)) ∧
      (-32768 ≤ min a.limit b.limit → max a.limit b.limit ≤ 32767 → -32768 ≤ l ∧ l ≤ 32767))

/-- A PASS is never resolved for a test with an OVERLOAD or NOISY point or a detected reason; an OVERLOAD point makes RETEST ahead
of a fail; with neither, a NOISY point, or a REL curve with the reference NOT_VALID, makes RETEST, and nothing else does; a SKIPPED point
stands beside a detected reason only (RecordsSound, which every step keeps), and there makes no PASS; a RETEST at the maximum is a FAIL
with RETEST_LIMIT, reason 14 (R107, R109). The bin is 0 for PASS, the RETEST bin for RETEST, and for FAIL that of the detected code with the lowest priority number, of equal ones the lowest code (R108).
LAST_FADE_OUT_SAMPLE with no window outstanding makes the verdict: verdict and bin stand, with the cause of a RETEST; the counts and
the bin of R134 rise by one; a settled unit joins the ring (R138); a RETEST_PENDING one joins the young end of the retest list, the
oldest of 32 expiring first (R122); the consecutive-fail count follows, and at its limit verification is withdrawn and SUSPECT_FIXTURE
(bit 8) latched (R130); NEST_x_DONE, and YIELD_LOW (bit 11) where the alarm becomes true, are latched on both ports (R29, R108,
R139). The nest is DONE. In a plan with a MARKER section a settled unit's label job, LABEL for PASS and REJECT for FAIL, joins the
label queue with the next ticket, or, with 8 in it, waits with its nest in LABEL_WAIT (R153 to R155); in an empty queue it becomes head
and binds, or fails with NO_DEVICE (R156, R163).
A reference unit's verdict (R111, R128, R134) counts reference tests and passes alone; a PASS of a qualified nest sets the remaining
count to the window length; a FAIL or RETEST latches REFERENCE_FAILED (bit 7) on both ports. That the cause NOISY of a RETEST joins the
record's causes where no record set it is the model's reading of R107 (assumption log 45).
After the verdict a waiting claimant is granted the chain (R36, R37); with nobody waiting and the other nest not in test, a pending
activation follows (R19; logs 11, 13, 24). -/
def Obligations.VerdictFollowsTheRecord : Prop :=
  (∀ (curves : List Curve) (n : Nest), n.resolve curves = .pass →
    n.hasStatus .overload = false ∧ n.hasStatus .noisy = false ∧ n.detected = []) ∧
  (∀ (curves : List Curve) (n : Nest), n.hasStatus .overload = true → n.resolve curves = .retest) ∧
  (∀ (curves : List Curve) (n : Nest), n.hasStatus .overload = false → n.detected ≠ [] → n.resolve curves = .fail) ∧
  (∀ (st : PointStatus) (n : Nest), n.hasStatus st = true ↔ ∃ y, some y ∈ n.slots ∧ y.status = st) ∧
  (∀ (curves : List Curve) (n : NestId) (s : State), s.RecordsSound → (s.nest n).hasStatus .skipped = true →
    (s.nest n).resolve curves = if (s.nest n).hasStatus .overload = true then .retest else .fail) ∧
  (∀ (curves : List Curve) (n : Nest), n.hasStatus .overload = false → n.detected = [] →
    (n.resolve curves = .retest ↔
      n.hasStatus .noisy = true ∨ ((∃ u ∈ curves, u.measure = .rel) ∧ n.refState = .notValid)) ∧
    (n.resolve curves = .pass ↔
      ¬ (n.hasStatus .noisy = true ∨ ((∃ u ∈ curves, u.measure = .rel) ∧ n.refState = .notValid)))) ∧
  (∀ (b : Bins) (detected : List Nat), b.binOf .pass detected = 0 ∧ b.binOf .retest detected = b.retestBin ∧
    (∀ k, b.wins detected k → b.binOf .fail detected = (b.entries.getD (k - 1) ⟨0, 0⟩).bin) ∧
    (detected ≠ [] → ∃ k, b.wins detected k)) ∧
  (∀ (v : Verdict) (attempt maxAttempts : Nat),
    ((attemptPolicy v attempt maxAttempts).1 = .pass ↔ v = .pass) ∧
    ((attemptPolicy v attempt maxAttempts).2.2 = true ↔ v = .retest ∧ maxAttempts ≤ attempt) ∧
    ((attemptPolicy v attempt maxAttempts).2.1 = .retestPending ↔ v ≠ .pass ∧ attempt < maxAttempts)) ∧
  (∀ (n : NestId) (v : Nat) (c : PlanContent) (s : State), s.held = false → s.gen.mode = .fadeOut →
    s.gen.claimant = some (.nest n) → s.gen.ramp < 480 → s.outstanding n = 0 → s.chain.queue = [] → s.capture.holdoff = none →
    s.loader.state ≠ .pending → s.plan = some c → c.marker = none → (s.nest n).kind = some .production →
    (s.nest n).serial = some v → (s.nest n).attempt = some 1 → (s.nest n).resolve c.limits = .pass →
    ∃ t, exec .lastFadeOutSample s = .next t ∧
      t.nest n = { s.nest n with state := .done, verdict := some .pass, bin := some 0 } ∧
      t.nest (otherNest n) = s.nest (otherNest n) ∧
      t.accounts.counts = { s.accounts.counts with
        firstPass := s.accounts.counts.firstPass + 1, bins := t.accounts.counts.bins } ∧
      (∀ i : Fin 16, t.accounts.counts.bins[i] =
        if i = 0 then s.accounts.counts.bins[i] + 1 else s.accounts.counts.bins[i]) ∧
      t.accounts.ring = keepLast 64 (s.accounts.ring ++ [⟨v, .firstPass⟩]) ∧
      t.accounts.ringSeq = s.accounts.ringSeq + 1 ∧ t.units.failCount = 0 ∧ t.units.held n = none ∧
      t.units.retest = s.units.retest ∧ t.units.remaining = s.units.remaining ∧
      (∀ p, t.latched p (.nestDone n) = true) ∧ t.gen.mode = .silent ∧ t.chain = { s.chain with holder := none } ∧
      t.marker = s.marker ∧ t.loader = s.loader ∧ t.lines = s.lines ∧ t.capture = s.capture ∧ t.engine = s.engine) ∧
  (∀ (n : NestId) (v k : Nat) (c : PlanContent) (r w : Verdict) (last pend suspect : Bool) (s : State), s.AtVerdict n c →
    s.AtRuling n c (s.nest n) v k r w last pend suspect →
    ∃ (b : Nat) (t : State), exec .lastFadeOutSample s = .next t ∧
      s.VerdictMade n c (s.nest n) v k r w last pend suspect b t ∧
      t.chain = { s.chain with holder := none } ∧ t.gen.mode = .silent ∧ t.gen.dac = 0 ∧ t.gen.claimant = none ∧
      t.capture = s.capture ∧ t.engine = s.engine) ∧
  (∀ (n : NestId) (c : PlanContent) (w : Verdict) (s : State), s.AtVerdict n c → (s.nest n).kind = some .reference →
    w = (s.nest n).resolve c.limits →
    ∃ t, exec .lastFadeOutSample s = .next t ∧ s.ReferenceVerdictMade n c (s.nest n) w t ∧
      t.chain = { s.chain with holder := none } ∧ t.gen.mode = .silent ∧ t.gen.dac = 0 ∧ t.gen.claimant = none ∧
      t.capture = s.capture ∧ t.engine = s.engine) ∧
  (∀ (n : NestId) (v k : Nat) (c : PlanContent) (r w : Verdict) (last pend suspect : Bool) (d : Claimant) (rest : List Claimant)
    (s : State), s.alone.AtVerdict n c → s.alone.AtRuling n c (s.nest n) v k r w last pend suspect →
    s.chain.queue = d :: rest →
    ∃ (b : Nat) (u t : State), exec .lastFadeOutSample s.alone = .next u ∧ exec .lastFadeOutSample s = .next t ∧
      s.alone.VerdictMade n c (s.nest n) v k r w last pend suspect b u ∧
      State.Granted d rest { u with loader := s.loader } t) ∧
  (∀ (n : NestId) (v k : Nat) (c : PlanContent) (r w : Verdict) (last pend suspect : Bool) (p : StagedPlan) (s : State),
    s.alone.AtVerdict n c → s.alone.AtRuling n c (s.nest n) v k r w last pend suspect → s.chain.queue = [] →
    s.loader.state = .pending → s.loader.staged = some p → (s.nest (otherNest n)).state.inTest = false →
    ∃ (b : Nat) (u t : State), exec .lastFadeOutSample s.alone = .next u ∧ exec .lastFadeOutSample s = .next t ∧
      s.alone.VerdictMade n c (s.nest n) v k r w last pend suspect b u ∧
      State.Activated p { u with loader := s.loader } t)

/-! ### The marker link -/

/-- PROBE_END with a NAK (R149): the first and second start the retry wait of a device that stays NEGOTIATING; the third puts it in
FAULT with cause ABSENT and latches MARKER_FAULT (bit 10) on both ports.
PROBE_END with an ability page (R150): a version other than 1 puts the device in FAULT with BAD_VERSION; else the first
preferred format that the device supports within its page limit is resolved and the device is READY with toggle 0; with none it is
in FAULT with NO_COMMON_FORMAT; each FAULT latches MARKER_FAULT on both ports.
In each of these cases a MARKER START that runs completes when no device of the table is NEGOTIATING after it: its reply carries each
device, the slot is DONE and REQUEST_DONE (bit 14) is latched on the Station Port (R151, R185). In the first two clauses no label job
waits. With a label job waiting: a device that becomes READY binds an unbound head job of its role, where no other is READY (R156);
a head job bound to the device is sent its page when the device is READY and the bus has no other probe (R152, R160); the third
NAK of the device that a job of its role is bound to unbinds it, and it is matched again from page 0 with its timer running
on (R156, R160).
The resolved format is the first entry of the preference list that is in the supported set and whose page count, which is the format's
code, is within the device's limit; there is none where no entry is (R150). After each of them the bus takes the first probe that is
pending, else the head job's next page (R152). -/
def Obligations.ProbeOutcomes : Prop :=
  (∀ (prefs : List Nat) (f m : Byte),
    (∀ g, resolveFormat prefs f m = some g ↔ ∃ before after, prefs = before ++ g :: after ∧
      (f.getLsbD (g - 1) = true ∧ g ≤ m.toNat) ∧ ∀ x ∈ before, ¬ (f.getLsbD (x - 1) = true ∧ x ≤ m.toNat)) ∧
    (resolveFormat prefs f m = none ↔ ∀ x ∈ prefs, ¬ (f.getLsbD (x - 1) = true ∧ x ≤ m.toNat))) ∧
  (∀ (d : Nat) (x : Device) (s : State), s.held = false → s.marker.bus = some ⟨d, .probe, .live⟩ →
    s.marker.devices[d]? = some x → x.state = .negotiating → s.marker.queue = [] → s.marker.head.bound = none →
    ∃ t, exec (.probeEnd .nak) s = .next t ∧ t.marker.Served ∧
      (x.naks < 2 → t.marker.devices[d]? = some { x with naks := x.naks + 1, retryWait := true } ∧
        t.line = s.line ∧ t.station = s.station) ∧
      (2 ≤ x.naks → t.marker.devices[d]? = some { x with naks := x.naks + 1, state := .fault, cause := some .absent } ∧
        t.line = { s.line with events := s.line.events ||| 0x0400 } ∧
        t.station = Port.startSettled t.marker.devices { s.station with events := s.station.events ||| 0x0400 }) ∧
      (∀ j, j ≠ d → t.marker.devices[j]? = s.marker.devices[j]?) ∧
      t = { s with
        marker := { s.marker with devices := t.marker.devices, bus := t.marker.bus }, station := t.station, line := t.line }) ∧
  (∀ (d : Nat) (x : Device) (v f m k : Byte) (s : State), s.held = false → s.marker.bus = some ⟨d, .probe, .live⟩ →
    s.marker.devices[d]? = some x → x.state = .negotiating → s.marker.queue = [] → s.marker.head.bound = none →
    ∃ t, exec (.probeEnd (.page v f m k)) s = .next t ∧ t.marker.Served ∧
      (v ≠ 1 → t.marker.devices[d]? =
        some { x with abilities := some ⟨v, f, m, k⟩, state := .fault, cause := some .badVersion }) ∧
      (∀ g, v = 1 → resolveFormat s.preferences f m = some g → t.marker.devices[d]? =
          some { x with abilities := some ⟨v, f, m, k⟩, state := .ready, resolved := some g, toggle := false } ∧
        t.line = s.line ∧ t.station = Port.startSettled t.marker.devices s.station) ∧
      (v = 1 → resolveFormat s.preferences f m = none → t.marker.devices[d]? =
        some { x with abilities := some ⟨v, f, m, k⟩, state := .fault, cause := some .noCommonFormat }) ∧
      (v ≠ 1 ∨ resolveFormat s.preferences f m = none →
        t.line = { s.line with events := s.line.events ||| 0x0400 } ∧
        t.station = Port.startSettled t.marker.devices { s.station with events := s.station.events ||| 0x0400 }) ∧
      (∀ j, j ≠ d → t.marker.devices[j]? = s.marker.devices[j]?) ∧
      t = { s with
        marker := { s.marker with devices := t.marker.devices, bus := t.marker.bus }, station := t.station, line := t.line }) ∧
  (∀ (d g : Nat) (x : Device) (f m k : Byte) (j : Job) (rest : List Job) (s : State), s.held = false →
    s.marker.bus = some ⟨d, .probe, .live⟩ → s.marker.devices[d]? = some x → x.state = .negotiating →
    s.marker.queue = j :: rest → s.marker.head.bound = none → resolveFormat s.preferences f m = some g →
    (∀ y ∈ s.marker.devices, y.role = j.role → y.state ≠ .ready) →
    ∃ t, exec (.probeEnd (.page 1 f m k)) s = .next t ∧ t.marker.Served ∧
      t.marker.devices = s.marker.devices.set d
        { x with abilities := some ⟨1, f, m, k⟩, state := .ready, resolved := some g, toggle := false } ∧
      t.marker.head = { s.marker.head with bound := if x.role = j.role then some d else none } ∧
      t.marker.queue = s.marker.queue ∧ t.line = s.line ∧
      t.station = Port.startSettled t.marker.devices s.station) ∧
  (∀ (d g : Nat) (x : Device) (f m k : Byte) (j : Job) (rest : List Job) (s : State), s.held = false →
    s.marker.bus = some ⟨d, .probe, .live⟩ → s.marker.devices[d]? = some x → x.state = .negotiating →
    s.marker.queue = j :: rest → s.marker.head.bound = some d → s.marker.head.busyWait = false →
    resolveFormat s.preferences f m = some g →
    (∀ i y, i ≠ d → s.marker.devices[i]? = some y → y.state = .negotiating → y.retryWait = true) →
    ∃ t, exec (.probeEnd (.page 1 f m k)) s = .next t ∧ t.marker.Served ∧
      t.marker.devices = s.marker.devices.set d
        { x with abilities := some ⟨1, f, m, k⟩, state := .ready, resolved := some g, toggle := false } ∧
      t.marker.bus = some ⟨d, .page (controlByte s.marker.head.page g false) (pagePayload j s.marker.head.page), .live⟩ ∧
      t.station = Port.startSettled t.marker.devices s.station ∧
      t = { s with
        marker := { s.marker with devices := t.marker.devices, bus := t.marker.bus }, station := t.station }) ∧
  (∀ (d : Nat) (x : Device) (j : Job) (rest : List Job) (s : State), s.held = false →
    s.marker.bus = some ⟨d, .probe, .live⟩ → s.marker.devices[d]? = some x → x.state = .negotiating → 2 ≤ x.naks →
    s.marker.queue = j :: rest → s.marker.head.bound = some d → x.role = j.role →
    ∃ t, exec (.probeEnd .nak) s = .next t ∧ t.marker.Served ∧
      t.marker.devices = s.marker.devices.set d { x with naks := x.naks + 1, state := .fault, cause := some .absent } ∧
      t.marker.head = { s.marker.head with
        bound := s.marker.devices.findIdx? (fun y => y.role = j.role && y.state = .ready), page := 0, busyWait := false } ∧
      t.marker.queue = s.marker.queue ∧ t.line = { s.line with events := s.line.events ||| 0x0400 } ∧
      t.station = Port.startSettled t.marker.devices { s.station with events := s.station.events ||| 0x0400 })

/-- RETRY_WAIT_END and BUSY_WAIT_END (R149, R152, R158): the wait stops. A bus with a transaction under way keeps it; an idle bus
takes the first probe that is pending or, at the end of a BUSY wait with none pending, sends the head job's page again to its READY
device. That a BUSY wait that does not run changes nothing is the model's choice (assumption log 3). -/
def Obligations.WaitsEnd : Prop :=
  (∀ (d : Fin 4) (x : Device) (s : State), s.held = false → s.marker.devices[d.val]? = some x → x.retryWait = true →
    ∃ t, exec (.retryWaitEnd d) s = .next t ∧
      t.marker.devices = s.marker.devices.set d { x with retryWait := false } ∧
      (x.state = .negotiating → t.marker.bus ≠ none) ∧ (s.marker.bus ≠ none → t.marker.bus = s.marker.bus) ∧
      (x.state = .negotiating → s.marker.bus = none →
        (∀ (i : Nat) y, i < d.val → s.marker.devices[i]? = some y → y.state = .negotiating → y.retryWait = true) →
        t.marker.bus = some ⟨d.val, .probe, .live⟩) ∧
      t = { s with marker := { s.marker with devices := t.marker.devices, bus := t.marker.bus } }) ∧
  (∀ s : State, s.held = false → s.marker.head.busyWait = true →
    ∃ t, exec .busyWaitEnd s = .next t ∧ t.marker.head = { s.marker.head with busyWait := false } ∧
      (s.marker.bus ≠ none → t.marker.bus = s.marker.bus) ∧
      (∀ d x j rest, s.marker.bus = none → (∀ y ∈ s.marker.devices, y.state = .negotiating → y.retryWait = true) →
        s.marker.head.bound = some d → s.marker.devices[d]? = some x → x.state = .ready → s.marker.queue = j :: rest →
        t.marker.bus = some ⟨d, .page (controlByte s.marker.head.page (x.resolved.getD 0) x.toggle)
          (pagePayload j s.marker.head.page), .live⟩) ∧
      (∀ d : Nat, s.marker.bus = none →
        s.marker.devices.findIdx? (fun y => y.state = .negotiating && !y.retryWait) = some d →
        t.marker.bus = some ⟨d, .probe, .live⟩) ∧
      t = { s with marker := { s.marker with head := t.marker.head, bus := t.marker.bus } }) ∧
  (∀ s : State, s.marker.head.busyWait = false → exec .busyWaitEnd s = .next s)

/-- PAGE_TRANSACTION_END (R157 to R159, R183): of the reply byte the low nibble and, for code 1, the echo in bit 7 count. Code 1 with
the expected toggle flips it and advances the page; code 2 starts the BUSY wait and leaves page and toggle; a NAK, another code than
1 to 3, or a wrong echo is a link loss, which renegotiates the device: below a restart count of 3 the count rises and the job, still
bound, returns to page 0; at 3 the job fails with RESTART_LIMIT, LABEL_FAILED (bit 9) is latched on both ports (R163), and the next
job is head, as LastPageCompletesTheJob says of a REJECT. All else stands. The bus, free again, takes the first probe that is pending,
else the head job's next page (R152).
Of a transaction whose job the label timer has failed (R161) an accepted page flips the toggle alone, BUSY and REJECT change
nothing, and a link loss renegotiates the device, a head job bound to it returning to page 0 (R148). One that a negotiation start
has discarded changes nothing at all (R148, R160). Either frees the bus too. -/
def Obligations.PageOutcomes : Prop :=
  (∀ (d : Nat) (x : Device) (j : Job) (rest : List Job) (ctl : Byte) (pay : List Byte) (g : Nat) (s : State), s.held = false →
    s.marker.bus = some ⟨d, .page ctl pay, .live⟩ → s.marker.devices[d]? = some x → x.state = .ready → x.resolved = some g →
    s.marker.queue = j :: rest → s.marker.head.bound = some d →
    (∀ b : Byte, b.toNat % 16 = 1 → b.getLsbD 7 = x.toggle → s.marker.head.page + 1 < g →
      ∃ t, exec (.pageTransactionEnd (.reply b)) s = .next t ∧ t.marker.Served ∧
        t.marker.devices = s.marker.devices.set d { x with toggle := !x.toggle } ∧
        t.marker.head = { s.marker.head with page := s.marker.head.page + 1 } ∧ t.marker.queue = s.marker.queue ∧
        t = { s with marker := { s.marker with devices := t.marker.devices, head := t.marker.head, bus := t.marker.bus } }) ∧
    (∀ b : Byte, b.toNat % 16 = 2 →
      ∃ t, exec (.pageTransactionEnd (.reply b)) s = .next t ∧ t.marker.Served ∧ t.marker.devices = s.marker.devices ∧
        t.marker.head = { s.marker.head with busyWait := true } ∧ t.marker.queue = s.marker.queue ∧
        t = { s with marker := { s.marker with head := t.marker.head, bus := t.marker.bus } }) ∧
    (∀ r : PageResult, losesLink x.toggle r →
      (j.restarts < 3 →
        ∃ t, exec (.pageTransactionEnd r) s = .next t ∧ t.marker.Served ∧
        t.marker.queue = { j with restarts := j.restarts + 1 } :: rest ∧
          t.marker.head = { s.marker.head with page := 0, busyWait := false } ∧
          t.marker.devices = s.marker.devices.set d x.renegotiated ∧
          t = { s with marker := { s.marker with
              devices := t.marker.devices, head := t.marker.head, queue := t.marker.queue, bus := t.marker.bus } }) ∧
      (3 ≤ j.restarts →
        ∃ t, exec (.pageTransactionEnd r) s = .next t ∧ t.marker.Served ∧
          t.marker.devices = s.marker.devices.set d x.renegotiated ∧
          State.HeadLeft rest
            { s.marker with
              failed := s.marker.failed + 1, lastFailed := some ⟨j, .restartLimit, some d, s.marker.head.page⟩ } true s t))) ∧
  (∀ (d : Nat) (x : Device) (ctl : Byte) (pay : List Byte) (s : State), s.held = false →
    s.marker.bus = some ⟨d, .page ctl pay, .deviceOnly⟩ → s.marker.devices[d]? = some x →
    (∀ b : Byte, b.toNat % 16 = 1 → b.getLsbD 7 = x.toggle →
      ∃ t, exec (.pageTransactionEnd (.reply b)) s = .next t ∧ t.marker.Served ∧
        t.marker.devices = s.marker.devices.set d { x with toggle := !x.toggle } ∧
        t = { s with marker := { s.marker with devices := t.marker.devices, bus := t.marker.bus } }) ∧
    (∀ b : Byte, b.toNat % 16 = 2 ∨ b.toNat % 16 = 3 →
      ∃ t, exec (.pageTransactionEnd (.reply b)) s = .next t ∧ t.marker.Served ∧
        t = { s with marker := { s.marker with bus := t.marker.bus } }) ∧
    (∀ r : PageResult, losesLink x.toggle r →
      ∃ t, exec (.pageTransactionEnd r) s = .next t ∧ t.marker.Served ∧
        t.marker.devices = s.marker.devices.set d x.renegotiated ∧
        t.marker.head = (if s.marker.head.bound = some d then { s.marker.head with page := 0, busyWait := false }
          else s.marker.head) ∧
        t.marker.bus ≠ none ∧
        t = { s with marker := { s.marker with
            devices := t.marker.devices, head := t.marker.head, bus := t.marker.bus } })) ∧
  (∀ (d : Nat) (ctl : Byte) (pay : List Byte) (r : PageResult) (s : State), s.held = false →
    s.marker.bus = some ⟨d, .page ctl pay, .discarded⟩ →
    ∃ t, exec (.pageTransactionEnd r) s = .next t ∧ t.marker.Served ∧
      (∀ i : Nat, s.marker.devices.findIdx? (fun y => y.state = .negotiating && !y.retryWait) = some i →
        t.marker.bus = some ⟨i, .probe, .live⟩) ∧
      t = { s with marker := { s.marker with bus := t.marker.bus } })

/-- A job whose last page is accepted completes (R157, R162): labels_done rises by one and the job is the device's history. A
REJECT fails it with DEVICE_REJECT, labels_failed rises by one and LABEL_FAILED (bit 9) is latched (R158, R163). In both cases the job
leaves the queue and the next one is head, bound to the first READY device of its role, at page 0 with its timer running; jobs
before it whose role the table lacks fail with NO_DEVICE; with a nest in LABEL_WAIT, its job enters the freed place with the next
ticket and the nest is DONE with that ticket (R30, R155, R156). The bus takes its next work (R152). -/
def Obligations.LastPageCompletesTheJob : Prop :=
  ∀ (d : Nat) (x : Device) (j : Job) (rest : List Job) (ctl : Byte) (pay : List Byte) (g : Nat) (s : State), s.held = false →
    s.marker.bus = some ⟨d, .page ctl pay, .live⟩ → s.marker.devices[d]? = some x → x.state = .ready → x.resolved = some g →
    s.marker.queue = j :: rest → s.marker.head.bound = some d →
    (g ≤ s.marker.head.page + 1 →
      ∃ t, exec (.pageTransactionEnd (.reply (if x.toggle then 0x81 else 0x01))) s = .next t ∧ t.marker.Served ∧
        t.marker.devices = s.marker.devices.set d { x with toggle := !x.toggle, history := some j } ∧
        State.HeadLeft rest { s.marker with done := s.marker.done + 1 } false s t) ∧
    (∀ b : Byte, b.toNat % 16 = 3 →
      ∃ t, exec (.pageTransactionEnd (.reply b)) s = .next t ∧ t.marker.Served ∧ t.marker.devices = s.marker.devices ∧
        State.HeadLeft rest
          { s.marker with
            failed := s.marker.failed + 1, lastFailed := some ⟨j, .deviceReject, some d, s.marker.head.page⟩ } true s t)

/-- LABEL_TIMER_EXPIRY (R161, R163): the head job fails with cause TIMEOUT, labels_failed rises by one, it is stored with the bound
device and the page reached, LABEL_FAILED is latched, and a page transaction under way goes on for its device alone; any other
transaction stands, and an idle bus takes its next work (R152). The job leaves the queue as one that a REJECT fails does
(LastPageCompletesTheJob). -/
def Obligations.LabelTimeoutFailsTheHead : Prop :=
  ∀ (j : Job) (rest : List Job) (limit : Nat) (s : State), s.held = false → s.marker.head.timer = some limit →
    s.marker.queue = j :: rest →
    ∃ t, exec .labelTimerExpiry s = .next t ∧ t.marker.devices = s.marker.devices ∧
      (∀ d ctl pay, s.marker.bus = some ⟨d, .page ctl pay, .live⟩ → t.marker.bus = some ⟨d, .page ctl pay, .deviceOnly⟩) ∧
      (∀ x, s.marker.bus = some x → (∀ ctl pay, x.work = .page ctl pay → x.fate ≠ .live) → t.marker.bus = some x) ∧
      (s.marker.bus = none → t.marker.Served) ∧
      State.HeadLeft rest
        { s.marker with
          failed := s.marker.failed + 1
          lastFailed := some ⟨j, .timeout, s.marker.head.bound, s.marker.head.page⟩ } true s t

/-! ### The judgement of a record -/

/-- The judgement of a record (R94, R101 to R106). A curve that reads a value of it judges the point: the point joins the judged set,
the margin updates the worst margin, and a margin that fails detects the curve's reason; NO_RESPONSE detects reason 13 and forms no
margin; nothing else is detected. Reasons join in the order of detection, the first eight in the fail list, the others in the
overflow count. A NOISY, OVERLOAD or SKIPPED record is stored and sets its cause alone; as the reference point's it makes the
reference NOT_VALID. The VALID reference record gives itself REL 0 and every stored measured record its REL; the REL curves then judge
each of them and the other curves the reference point alone, in index order, each visit with its judged sets, worst margins and
reasons; a later record's REL is filled as it is taken.
Where the first reason is detected by a completion under stop-on-fail while the generator is in SETTLE, WINDOW or HOLDOFF (R58, R59,
R71), the generator is in RUN_OUT with its stop mark set, the holdoff is stopped, the window in progress is freed, and each point
from the cursor on has a SKIPPED record, which makes the reference NOT_VALID where it is the reference point's, with no cause; in
RUN_OUT and FADE_OUT it changes nothing of the sweep. -/
def Obligations.RecordsAreJudged : Prop :=
  (∀ (c : PlanContent) (n x : Nest) (r y : PointRecord) (isRef : Bool) (g : RefState), x = n.take c r →
    r.status = .valid ∨ r.status = .noSignal → x.slots[r.index]? = some (some y) →
    (c.sweep.reference ≠ some r.index ∧ isRef = false ∧ g = n.refState) ∨
      (c.sweep.reference = some r.index ∧ r.status = .noSignal ∧ isRef = true ∧ g = .notValid) →
    x.refState = g ∧
    (∀ k u, c.limits[k]? = some u → k < n.judged.length → k < n.worst.length →
      match u.reads g isRef y with
      | none => x.judged[k]? = n.judged[k]? ∧ x.worst[k]? = n.worst[k]?
      | some none =>
        x.judged[k]? = (n.judged[k]?).map (joinsJudged r.index) ∧ x.worst[k]? = n.worst[k]? ∧ 13 ∈ x.detected
      | some (some m) =>
        x.judged[k]? = (n.judged[k]?).map (joinsJudged r.index) ∧
        x.worst[k]? = some (some (worstAfter u.condition (marginOf u r.freq m) r.index (marginSaturates u r.freq m)
          (n.worst[k]?).join)) ∧
        (u.condition.fails (marginOf u r.freq m) = true → u.reason ∈ x.detected)) ∧
    (∀ code, code ∈ x.detected ↔ code ∈ n.detected ∨ ∃ u ∈ c.limits,
      (u.reads g isRef y = some none ∧ code = 13) ∨
      (∃ m, u.reads g isRef y = some (some m) ∧ u.condition.fails (marginOf u r.freq m) = true ∧ code = u.reason))) ∧
  (∀ (c : PlanContent) (n : Nest) (r : PointRecord), n.detected.Nodup → n.failList = n.detected.take 8 →
    n.overflow = n.detected.length - 8 →
    (n.take c r).detected.Nodup ∧ (n.take c r).failList = (n.take c r).detected.take 8 ∧
    (n.take c r).overflow = (n.take c r).detected.length - 8 ∧ n.detected <+: (n.take c r).detected) ∧
  (∀ (c : PlanContent) (n : Nest) (r : PointRecord), r.status = .noisy ∨ r.status = .overload ∨ r.status = .skipped →
    n.take c r = { n with
      slots := n.slots.set r.index (some r)
      causeOverload := n.causeOverload || decide (r.status = .overload)
      causeNoisy := n.causeNoisy || decide (r.status = .noisy ∨ (r.status = .overload ∧
        c.sweep.reference = some r.index ∧ ∃ u ∈ c.limits, u.measure = .rel))
      refState := if c.sweep.reference = some r.index then .notValid else n.refState }) ∧
  (∀ (c : PlanContent) (n : Nest) (r : PointRecord) (v : Int), r.status = .valid ∨ r.status = .noSignal →
    (c.sweep.reference = some r.index → r.status = .valid → r.spl = some v →
      (n.take c r).refState = .valid ∧
      (n.take c r).slots = ((n.slots.set r.index (some { r with rel := some 0 })).map fun o => o.map fun y =>
        if (y.status = .valid ∨ y.status = .noSignal) ∧ y.rel = none then
          { y with rel := y.spl.map fun w => max (-15000) (min 15000 (w - v)) }
        else y) ∧
      ∀ (k : Nat) (u : Curve) (y : PointRecord) (m : Int), c.limits[k]? = some u → u.measure = .rel →
        k < n.judged.length → some y ∈ (n.take c r).slots → y.status = .valid ∨ y.status = .noSignal → y.rel = some m →
        u.applies y.freq = true →
        y.index ∈ (n.take c r).judged.getD k [] ∧
        (u.condition.fails (marginOf u y.freq m) = true → u.reason ∈ (n.take c r).detected)) ∧
    (∀ i q, c.sweep.reference = some i → i ≠ r.index → n.slots[i]? = some (some q) → q.status = .valid → q.spl = some v →
      (n.take c r).slots = n.slots.set r.index
        (some { r with rel := r.spl.map fun w => max (-15000) (min 15000 (w - v)) }))) ∧
  (∀ (c : PlanContent) (n x : Nest) (r : PointRecord) (v : Int), c.sweep.reference = some r.index → r.status = .valid →
    r.spl = some v → x = n.take c r →
    (∀ (k : Nat) (u : Curve), c.limits[k]? = some u →
      x.judged[k]? = (n.judged[k]?).map (fun (l : List Nat) =>
        ((x.visited u r.index).filter fun y => (u.reads .valid true y).isSome).foldl (fun l y => joinsJudged y.index l) l) ∧
      x.worst[k]? = (n.worst[k]?).map (fun (w : Option Worst) => (x.visited u r.index).foldl (fun (w : Option Worst) y =>
        match u.reads .valid true y with
        | some (some m) =>
          some (worstAfter u.condition (marginOf u y.freq m) y.index (marginSaturates u y.freq m) w)
        | some none => w
        | none => w) w)) ∧
    (∀ code, code ∈ x.detected ↔ code ∈ n.detected ∨ ∃ u ∈ c.limits, ∃ y ∈ x.visited u r.index,
      (u.reads .valid true y = some none ∧ code = 13) ∨
      (∃ m, u.reads .valid true y = some (some m) ∧ u.condition.fails (marginOf u y.freq m) = true ∧ code = u.reason)) ∧
    (r.index < n.slots.length → ∀ u : Curve, { r with rel := some 0 } ∈ x.visited u r.index)) ∧
  (∀ (n : NestId) (h : HalfId) (c : PlanContent) (x : Nest) (s : State), s.held = false → s.engine.under = some h →
    s.engine.queue = [h] → (s.half h).claimant = .nest n → (s.nest n).state = .measuring →
    (s.half h).tag = (s.nest n).tag → s.plan = some c → c.sweep.stopOnFail = true → s.gen.claimant = some (.nest n) →
    x = (s.nest n).take c (recordOf c.sweep.minResponse (s.half h) (analyse (s.half h))) → (s.nest n).failList = [] →
    x.failList ≠ [] →
    (∀ (i : Nat) (p : PointEntry), s.planPoints[i]? = some p → p.index = i) →
    ∃ t, exec .analysisCompletion s = .next t ∧ (t.half h).state = .free ∧ t.engine.under = none ∧
      (s.gen.mode = .settle ∨ s.gen.mode = .window ∨ s.gen.mode = .holdoff →
        t.gen = { s.gen with mode := .runOut, stopMark := true } ∧ t.capture.holdoff = none ∧
        (∀ g, s.gen.mode = .window → s.fillingHalf = some g → (t.half g).state = .free) ∧
        (∀ i, i < x.slots.length → t.gen.cursor ≤ i → ∀ p, s.planPoints[i]? = some p →
          (t.nest n).slots[i]? = some (some ⟨i, p.freq, .skipped, if i = s.gen.cursor then s.capture.attempt else 1,
            none, none, none, none⟩)) ∧
        (∀ i, i < s.gen.cursor → (t.nest n).slots[i]? = x.slots[i]?) ∧
        t.nest n = { x with
          slots := (t.nest n).slots
          refState := match c.sweep.reference with
            | some i => if s.gen.cursor ≤ i ∧ i < s.planPoints.length then .notValid else x.refState
            | none => x.refState }) ∧
      (s.gen.mode = .runOut ∨ s.gen.mode = .fadeOut →
        t.nest n = x ∧ t = State.modNest n (fun _ => x) { s with engine := t.engine, capture := t.capture }))

/-! ### Laws every step keeps -/

/-- The state after reset is safe, and so is every state a release gives. -/
def Obligations.ResetIsSafe : Prop :=
  State.reset.Safe ∧ ∀ straps : Straps, (State.powerOn straps).Safe

/-- Every step keeps the retest list at 32 entries, the outcome ring at 64, the shift records at 8 and the label queue at 8, and
labels_enqueued = labels_done + labels_failed + jobs in the label queue (R120, R138, R143, R165). Every step keeps the law of the
engine's queue: an IDLE engine has an empty queue; a BUSY engine's half is the queue's head and IN_ANALYSIS; a half behind it is
QUEUED; the queue has no repeats and holds exactly the halves QUEUED or IN_ANALYSIS (R61, R77, R78, R82). -/
def Obligations.StepKeepsTheLists : Prop :=
  (∀ s t : State, step s = .next t → s.ListsBounded → s.LabelsBalance → t.ListsBounded ∧ t.LabelsBalance) ∧
  (∀ s t : State, step s = .next t → s.EngineSound → t.EngineSound)

/-- Every step keeps the remaining count between 0 and the active plan's window length, and both unverified marks set while the
station is unverified (R126, R175). -/
def Obligations.StepKeepsVerificationSound : Prop :=
  ∀ s t : State, step s = .next t → s.VerificationSound → t.VerificationSound

/-- Every step keeps the law of the chain: at most one claimant holds it, a nest is MEASURING exactly when it holds the chain and
in the queue exactly while it is WAITING, a CHAIN CHECK is in the queue exactly while its request is taken and does not hold the chain,
and a free chain has an empty queue (R36, R38). It keeps the law of the records too: a SKIPPED point stands beside a detected reason
only, and a PASS beside no OVERLOAD, NOISY or SKIPPED point and no detected reason (R58, R107). -/
def Obligations.StepKeepsTheChainLaw : Prop :=
  ∀ s t : State, step s = .next t → s.ChainSound → t.ChainSound ∧ (s.RecordsSound → t.RecordsSound)

/-- Every step keeps the law of the accounts: issued = first_pass + retest_pass + final_fail + expired + released_untested +
entries in the retest list + production units unsettled in nests; no serial stands in both nest records, twice in the list, or in the
list and unsettled in a nest, and each list entry's attempts made are below the active plan's maximum (R120, R136). -/
def Obligations.StepKeepsTheUnitsBalance : Prop :=
  ∀ s t : State, step s = .next t → s.ChainSound → s.UnitsBalance → t.UnitsBalance

end
end

