-- ==== Sys2Proof/Laws/State.lean ====
section
/-! SUPPORT. One lemma for each field and each update of the state: what the field is after it. -/

namespace Sys2Proof.Machine
open Sys2Proof

variable (s : State)

/-! ### modLoader -/

@[simp] theorem State.modLoader_hold (f : Loader → Loader) : (s.modLoader f).hold = s.hold := rfl
@[simp] theorem State.modLoader_straps (f : Loader → Loader) : (s.modLoader f).straps = s.straps := rfl
@[simp] theorem State.modLoader_station (f : Loader → Loader) : (s.modLoader f).station = s.station := rfl
@[simp] theorem State.modLoader_line (f : Loader → Loader) : (s.modLoader f).line = s.line := rfl
@[simp] theorem State.modLoader_loader (f : Loader → Loader) : (s.modLoader f).loader = f s.loader := rfl
@[simp] theorem State.modLoader_lines (f : Loader → Loader) : (s.modLoader f).lines = s.lines := rfl
@[simp] theorem State.modLoader_nestA (f : Loader → Loader) : (s.modLoader f).nestA = s.nestA := rfl
@[simp] theorem State.modLoader_nestB (f : Loader → Loader) : (s.modLoader f).nestB = s.nestB := rfl
@[simp] theorem State.modLoader_chain (f : Loader → Loader) : (s.modLoader f).chain = s.chain := rfl
@[simp] theorem State.modLoader_gen (f : Loader → Loader) : (s.modLoader f).gen = s.gen := rfl
@[simp] theorem State.modLoader_capture (f : Loader → Loader) : (s.modLoader f).capture = s.capture := rfl
@[simp] theorem State.modLoader_engine (f : Loader → Loader) : (s.modLoader f).engine = s.engine := rfl
@[simp] theorem State.modLoader_units (f : Loader → Loader) : (s.modLoader f).units = s.units := rfl
@[simp] theorem State.modLoader_accounts (f : Loader → Loader) : (s.modLoader f).accounts = s.accounts := rfl
@[simp] theorem State.modLoader_marker (f : Loader → Loader) : (s.modLoader f).marker = s.marker := rfl
@[simp] theorem State.modLoader_freeCount (f : Loader → Loader) : (s.modLoader f).freeCount = s.freeCount := rfl
@[simp] theorem State.modLoader_pending (f : Loader → Loader) : (s.modLoader f).pending = s.pending := rfl
@[simp] theorem State.modLoader_held (f : Loader → Loader) : (s.modLoader f).held = s.held := rfl
@[simp] theorem State.modLoader_port (f : Loader → Loader) (q : PortId) : (s.modLoader f).port q = s.port q := rfl
@[simp] theorem State.modLoader_nest (f : Loader → Loader) (m : NestId) : (s.modLoader f).nest m = s.nest m := rfl
@[simp] theorem State.modLoader_half (f : Loader → Loader) (h : HalfId) : (s.modLoader f).half h = s.half h := rfl
@[simp] theorem State.modLoader_verified (f : Loader → Loader) : (s.modLoader f).verified = s.verified := rfl
@[simp] theorem State.modLoader_planInUse (f : Loader → Loader) : (s.modLoader f).planInUse = s.planInUse := rfl

/-! ### modUnits -/

@[simp] theorem State.modUnits_hold (f : UnitTable → UnitTable) : (s.modUnits f).hold = s.hold := rfl
@[simp] theorem State.modUnits_straps (f : UnitTable → UnitTable) : (s.modUnits f).straps = s.straps := rfl
@[simp] theorem State.modUnits_station (f : UnitTable → UnitTable) : (s.modUnits f).station = s.station := rfl
@[simp] theorem State.modUnits_line (f : UnitTable → UnitTable) : (s.modUnits f).line = s.line := rfl
@[simp] theorem State.modUnits_loader (f : UnitTable → UnitTable) : (s.modUnits f).loader = s.loader := rfl
@[simp] theorem State.modUnits_lines (f : UnitTable → UnitTable) : (s.modUnits f).lines = s.lines := rfl
@[simp] theorem State.modUnits_nestA (f : UnitTable → UnitTable) : (s.modUnits f).nestA = s.nestA := rfl
@[simp] theorem State.modUnits_nestB (f : UnitTable → UnitTable) : (s.modUnits f).nestB = s.nestB := rfl
@[simp] theorem State.modUnits_chain (f : UnitTable → UnitTable) : (s.modUnits f).chain = s.chain := rfl
@[simp] theorem State.modUnits_gen (f : UnitTable → UnitTable) : (s.modUnits f).gen = s.gen := rfl
@[simp] theorem State.modUnits_capture (f : UnitTable → UnitTable) : (s.modUnits f).capture = s.capture := rfl
@[simp] theorem State.modUnits_engine (f : UnitTable → UnitTable) : (s.modUnits f).engine = s.engine := rfl
@[simp] theorem State.modUnits_units (f : UnitTable → UnitTable) : (s.modUnits f).units = f s.units := rfl
@[simp] theorem State.modUnits_accounts (f : UnitTable → UnitTable) : (s.modUnits f).accounts = s.accounts := rfl
@[simp] theorem State.modUnits_marker (f : UnitTable → UnitTable) : (s.modUnits f).marker = s.marker := rfl
@[simp] theorem State.modUnits_freeCount (f : UnitTable → UnitTable) : (s.modUnits f).freeCount = s.freeCount := rfl
@[simp] theorem State.modUnits_pending (f : UnitTable → UnitTable) : (s.modUnits f).pending = s.pending := rfl
@[simp] theorem State.modUnits_held (f : UnitTable → UnitTable) : (s.modUnits f).held = s.held := rfl
@[simp] theorem State.modUnits_port (f : UnitTable → UnitTable) (q : PortId) : (s.modUnits f).port q = s.port q := rfl
@[simp] theorem State.modUnits_nest (f : UnitTable → UnitTable) (m : NestId) : (s.modUnits f).nest m = s.nest m := rfl
@[simp] theorem State.modUnits_half (f : UnitTable → UnitTable) (h : HalfId) : (s.modUnits f).half h = s.half h := rfl
@[simp] theorem State.modUnits_plan (f : UnitTable → UnitTable) : (s.modUnits f).plan = s.plan := rfl
@[simp] theorem State.modUnits_planPoints (f : UnitTable → UnitTable) : (s.modUnits f).planPoints = s.planPoints := rfl
@[simp] theorem State.modUnits_windowLength (f : UnitTable → UnitTable) : (s.modUnits f).windowLength = s.windowLength := rfl
@[simp] theorem State.modUnits_planInUse (f : UnitTable → UnitTable) : (s.modUnits f).planInUse = s.planInUse := rfl
@[simp] theorem State.modUnits_preferences (f : UnitTable → UnitTable) : (s.modUnits f).preferences = s.preferences := rfl
@[simp] theorem State.modUnits_labelTimeout (f : UnitTable → UnitTable) : (s.modUnits f).labelTimeout = s.labelTimeout := rfl
@[simp] theorem State.modUnits_alarmLimit (f : UnitTable → UnitTable) : (s.modUnits f).alarmLimit = s.alarmLimit := rfl

/-! ### modGen -/

@[simp] theorem State.modGen_hold (f : Generator → Generator) : (s.modGen f).hold = s.hold := rfl
@[simp] theorem State.modGen_straps (f : Generator → Generator) : (s.modGen f).straps = s.straps := rfl
@[simp] theorem State.modGen_station (f : Generator → Generator) : (s.modGen f).station = s.station := rfl
@[simp] theorem State.modGen_line (f : Generator → Generator) : (s.modGen f).line = s.line := rfl
@[simp] theorem State.modGen_loader (f : Generator → Generator) : (s.modGen f).loader = s.loader := rfl
@[simp] theorem State.modGen_lines (f : Generator → Generator) : (s.modGen f).lines = s.lines := rfl
@[simp] theorem State.modGen_nestA (f : Generator → Generator) : (s.modGen f).nestA = s.nestA := rfl
@[simp] theorem State.modGen_nestB (f : Generator → Generator) : (s.modGen f).nestB = s.nestB := rfl
@[simp] theorem State.modGen_chain (f : Generator → Generator) : (s.modGen f).chain = s.chain := rfl
@[simp] theorem State.modGen_gen (f : Generator → Generator) : (s.modGen f).gen = f s.gen := rfl
@[simp] theorem State.modGen_capture (f : Generator → Generator) : (s.modGen f).capture = s.capture := rfl
@[simp] theorem State.modGen_engine (f : Generator → Generator) : (s.modGen f).engine = s.engine := rfl
@[simp] theorem State.modGen_units (f : Generator → Generator) : (s.modGen f).units = s.units := rfl
@[simp] theorem State.modGen_accounts (f : Generator → Generator) : (s.modGen f).accounts = s.accounts := rfl
@[simp] theorem State.modGen_marker (f : Generator → Generator) : (s.modGen f).marker = s.marker := rfl
@[simp] theorem State.modGen_freeCount (f : Generator → Generator) : (s.modGen f).freeCount = s.freeCount := rfl
@[simp] theorem State.modGen_pending (f : Generator → Generator) : (s.modGen f).pending = s.pending := rfl
@[simp] theorem State.modGen_held (f : Generator → Generator) : (s.modGen f).held = s.held := rfl
@[simp] theorem State.modGen_port (f : Generator → Generator) (q : PortId) : (s.modGen f).port q = s.port q := rfl
@[simp] theorem State.modGen_nest (f : Generator → Generator) (m : NestId) : (s.modGen f).nest m = s.nest m := rfl
@[simp] theorem State.modGen_half (f : Generator → Generator) (h : HalfId) : (s.modGen f).half h = s.half h := rfl
@[simp] theorem State.modGen_plan (f : Generator → Generator) : (s.modGen f).plan = s.plan := rfl
@[simp] theorem State.modGen_planPoints (f : Generator → Generator) : (s.modGen f).planPoints = s.planPoints := rfl
@[simp] theorem State.modGen_windowLength (f : Generator → Generator) : (s.modGen f).windowLength = s.windowLength := rfl
@[simp] theorem State.modGen_verified (f : Generator → Generator) : (s.modGen f).verified = s.verified := rfl
@[simp] theorem State.modGen_planInUse (f : Generator → Generator) : (s.modGen f).planInUse = s.planInUse := rfl
@[simp] theorem State.modGen_preferences (f : Generator → Generator) : (s.modGen f).preferences = s.preferences := rfl
@[simp] theorem State.modGen_labelTimeout (f : Generator → Generator) : (s.modGen f).labelTimeout = s.labelTimeout := rfl
@[simp] theorem State.modGen_alarmLimit (f : Generator → Generator) : (s.modGen f).alarmLimit = s.alarmLimit := rfl

/-! ### modCapture -/

@[simp] theorem State.modCapture_hold (f : Capture → Capture) : (s.modCapture f).hold = s.hold := rfl
@[simp] theorem State.modCapture_straps (f : Capture → Capture) : (s.modCapture f).straps = s.straps := rfl
@[simp] theorem State.modCapture_station (f : Capture → Capture) : (s.modCapture f).station = s.station := rfl
@[simp] theorem State.modCapture_line (f : Capture → Capture) : (s.modCapture f).line = s.line := rfl
@[simp] theorem State.modCapture_loader (f : Capture → Capture) : (s.modCapture f).loader = s.loader := rfl
@[simp] theorem State.modCapture_lines (f : Capture → Capture) : (s.modCapture f).lines = s.lines := rfl
@[simp] theorem State.modCapture_nestA (f : Capture → Capture) : (s.modCapture f).nestA = s.nestA := rfl
@[simp] theorem State.modCapture_nestB (f : Capture → Capture) : (s.modCapture f).nestB = s.nestB := rfl
@[simp] theorem State.modCapture_chain (f : Capture → Capture) : (s.modCapture f).chain = s.chain := rfl
@[simp] theorem State.modCapture_gen (f : Capture → Capture) : (s.modCapture f).gen = s.gen := rfl
@[simp] theorem State.modCapture_capture (f : Capture → Capture) : (s.modCapture f).capture = f s.capture := rfl
@[simp] theorem State.modCapture_engine (f : Capture → Capture) : (s.modCapture f).engine = s.engine := rfl
@[simp] theorem State.modCapture_units (f : Capture → Capture) : (s.modCapture f).units = s.units := rfl
@[simp] theorem State.modCapture_accounts (f : Capture → Capture) : (s.modCapture f).accounts = s.accounts := rfl
@[simp] theorem State.modCapture_marker (f : Capture → Capture) : (s.modCapture f).marker = s.marker := rfl
@[simp] theorem State.modCapture_freeCount (f : Capture → Capture) : (s.modCapture f).freeCount = s.freeCount := rfl
@[simp] theorem State.modCapture_pending (f : Capture → Capture) : (s.modCapture f).pending = s.pending := rfl
@[simp] theorem State.modCapture_held (f : Capture → Capture) : (s.modCapture f).held = s.held := rfl
@[simp] theorem State.modCapture_port (f : Capture → Capture) (q : PortId) : (s.modCapture f).port q = s.port q := rfl
@[simp] theorem State.modCapture_nest (f : Capture → Capture) (m : NestId) : (s.modCapture f).nest m = s.nest m := rfl
@[simp] theorem State.modCapture_plan (f : Capture → Capture) : (s.modCapture f).plan = s.plan := rfl
@[simp] theorem State.modCapture_planPoints (f : Capture → Capture) : (s.modCapture f).planPoints = s.planPoints := rfl
@[simp] theorem State.modCapture_windowLength (f : Capture → Capture) : (s.modCapture f).windowLength = s.windowLength := rfl
@[simp] theorem State.modCapture_verified (f : Capture → Capture) : (s.modCapture f).verified = s.verified := rfl
@[simp] theorem State.modCapture_planInUse (f : Capture → Capture) : (s.modCapture f).planInUse = s.planInUse := rfl
@[simp] theorem State.modCapture_preferences (f : Capture → Capture) : (s.modCapture f).preferences = s.preferences := rfl
@[simp] theorem State.modCapture_labelTimeout (f : Capture → Capture) : (s.modCapture f).labelTimeout = s.labelTimeout := rfl
@[simp] theorem State.modCapture_alarmLimit (f : Capture → Capture) : (s.modCapture f).alarmLimit = s.alarmLimit := rfl

/-! ### modChain -/

@[simp] theorem State.modChain_hold (f : Chain → Chain) : (s.modChain f).hold = s.hold := rfl
@[simp] theorem State.modChain_straps (f : Chain → Chain) : (s.modChain f).straps = s.straps := rfl
@[simp] theorem State.modChain_station (f : Chain → Chain) : (s.modChain f).station = s.station := rfl
@[simp] theorem State.modChain_line (f : Chain → Chain) : (s.modChain f).line = s.line := rfl
@[simp] theorem State.modChain_loader (f : Chain → Chain) : (s.modChain f).loader = s.loader := rfl
@[simp] theorem State.modChain_lines (f : Chain → Chain) : (s.modChain f).lines = s.lines := rfl
@[simp] theorem State.modChain_nestA (f : Chain → Chain) : (s.modChain f).nestA = s.nestA := rfl
@[simp] theorem State.modChain_nestB (f : Chain → Chain) : (s.modChain f).nestB = s.nestB := rfl
@[simp] theorem State.modChain_chain (f : Chain → Chain) : (s.modChain f).chain = f s.chain := rfl
@[simp] theorem State.modChain_gen (f : Chain → Chain) : (s.modChain f).gen = s.gen := rfl
@[simp] theorem State.modChain_capture (f : Chain → Chain) : (s.modChain f).capture = s.capture := rfl
@[simp] theorem State.modChain_engine (f : Chain → Chain) : (s.modChain f).engine = s.engine := rfl
@[simp] theorem State.modChain_units (f : Chain → Chain) : (s.modChain f).units = s.units := rfl
@[simp] theorem State.modChain_accounts (f : Chain → Chain) : (s.modChain f).accounts = s.accounts := rfl
@[simp] theorem State.modChain_marker (f : Chain → Chain) : (s.modChain f).marker = s.marker := rfl
@[simp] theorem State.modChain_freeCount (f : Chain → Chain) : (s.modChain f).freeCount = s.freeCount := rfl
@[simp] theorem State.modChain_pending (f : Chain → Chain) : (s.modChain f).pending = s.pending := rfl
@[simp] theorem State.modChain_held (f : Chain → Chain) : (s.modChain f).held = s.held := rfl
@[simp] theorem State.modChain_port (f : Chain → Chain) (q : PortId) : (s.modChain f).port q = s.port q := rfl
@[simp] theorem State.modChain_nest (f : Chain → Chain) (m : NestId) : (s.modChain f).nest m = s.nest m := rfl
@[simp] theorem State.modChain_half (f : Chain → Chain) (h : HalfId) : (s.modChain f).half h = s.half h := rfl
@[simp] theorem State.modChain_plan (f : Chain → Chain) : (s.modChain f).plan = s.plan := rfl
@[simp] theorem State.modChain_planPoints (f : Chain → Chain) : (s.modChain f).planPoints = s.planPoints := rfl
@[simp] theorem State.modChain_windowLength (f : Chain → Chain) : (s.modChain f).windowLength = s.windowLength := rfl
@[simp] theorem State.modChain_verified (f : Chain → Chain) : (s.modChain f).verified = s.verified := rfl
@[simp] theorem State.modChain_preferences (f : Chain → Chain) : (s.modChain f).preferences = s.preferences := rfl
@[simp] theorem State.modChain_labelTimeout (f : Chain → Chain) : (s.modChain f).labelTimeout = s.labelTimeout := rfl
@[simp] theorem State.modChain_alarmLimit (f : Chain → Chain) : (s.modChain f).alarmLimit = s.alarmLimit := rfl

/-! ### modMarker -/

@[simp] theorem State.modMarker_hold (f : Marker → Marker) : (s.modMarker f).hold = s.hold := rfl
@[simp] theorem State.modMarker_straps (f : Marker → Marker) : (s.modMarker f).straps = s.straps := rfl
@[simp] theorem State.modMarker_station (f : Marker → Marker) : (s.modMarker f).station = s.station := rfl
@[simp] theorem State.modMarker_line (f : Marker → Marker) : (s.modMarker f).line = s.line := rfl
@[simp] theorem State.modMarker_loader (f : Marker → Marker) : (s.modMarker f).loader = s.loader := rfl
@[simp] theorem State.modMarker_lines (f : Marker → Marker) : (s.modMarker f).lines = s.lines := rfl
@[simp] theorem State.modMarker_nestA (f : Marker → Marker) : (s.modMarker f).nestA = s.nestA := rfl
@[simp] theorem State.modMarker_nestB (f : Marker → Marker) : (s.modMarker f).nestB = s.nestB := rfl
@[simp] theorem State.modMarker_chain (f : Marker → Marker) : (s.modMarker f).chain = s.chain := rfl
@[simp] theorem State.modMarker_gen (f : Marker → Marker) : (s.modMarker f).gen = s.gen := rfl
@[simp] theorem State.modMarker_capture (f : Marker → Marker) : (s.modMarker f).capture = s.capture := rfl
@[simp] theorem State.modMarker_engine (f : Marker → Marker) : (s.modMarker f).engine = s.engine := rfl
@[simp] theorem State.modMarker_units (f : Marker → Marker) : (s.modMarker f).units = s.units := rfl
@[simp] theorem State.modMarker_accounts (f : Marker → Marker) : (s.modMarker f).accounts = s.accounts := rfl
@[simp] theorem State.modMarker_marker (f : Marker → Marker) : (s.modMarker f).marker = f s.marker := rfl
@[simp] theorem State.modMarker_freeCount (f : Marker → Marker) : (s.modMarker f).freeCount = s.freeCount := rfl
@[simp] theorem State.modMarker_pending (f : Marker → Marker) : (s.modMarker f).pending = s.pending := rfl
@[simp] theorem State.modMarker_held (f : Marker → Marker) : (s.modMarker f).held = s.held := rfl
@[simp] theorem State.modMarker_port (f : Marker → Marker) (q : PortId) : (s.modMarker f).port q = s.port q := rfl
@[simp] theorem State.modMarker_nest (f : Marker → Marker) (m : NestId) : (s.modMarker f).nest m = s.nest m := rfl
@[simp] theorem State.modMarker_half (f : Marker → Marker) (h : HalfId) : (s.modMarker f).half h = s.half h := rfl
@[simp] theorem State.modMarker_plan (f : Marker → Marker) : (s.modMarker f).plan = s.plan := rfl
@[simp] theorem State.modMarker_planPoints (f : Marker → Marker) : (s.modMarker f).planPoints = s.planPoints := rfl
@[simp] theorem State.modMarker_windowLength (f : Marker → Marker) : (s.modMarker f).windowLength = s.windowLength := rfl
@[simp] theorem State.modMarker_verified (f : Marker → Marker) : (s.modMarker f).verified = s.verified := rfl
@[simp] theorem State.modMarker_planInUse (f : Marker → Marker) : (s.modMarker f).planInUse = s.planInUse := rfl
@[simp] theorem State.modMarker_preferences (f : Marker → Marker) : (s.modMarker f).preferences = s.preferences := rfl
@[simp] theorem State.modMarker_labelTimeout (f : Marker → Marker) : (s.modMarker f).labelTimeout = s.labelTimeout := rfl
@[simp] theorem State.modMarker_alarmLimit (f : Marker → Marker) : (s.modMarker f).alarmLimit = s.alarmLimit := rfl

/-! ### count -/

@[simp] theorem State.count_hold (f : Counts → Counts) : (s.count f).hold = s.hold := rfl
@[simp] theorem State.count_straps (f : Counts → Counts) : (s.count f).straps = s.straps := rfl
@[simp] theorem State.count_station (f : Counts → Counts) : (s.count f).station = s.station := rfl
@[simp] theorem State.count_line (f : Counts → Counts) : (s.count f).line = s.line := rfl
@[simp] theorem State.count_loader (f : Counts → Counts) : (s.count f).loader = s.loader := rfl
@[simp] theorem State.count_lines (f : Counts → Counts) : (s.count f).lines = s.lines := rfl
@[simp] theorem State.count_nestA (f : Counts → Counts) : (s.count f).nestA = s.nestA := rfl
@[simp] theorem State.count_nestB (f : Counts → Counts) : (s.count f).nestB = s.nestB := rfl
@[simp] theorem State.count_chain (f : Counts → Counts) : (s.count f).chain = s.chain := rfl
@[simp] theorem State.count_gen (f : Counts → Counts) : (s.count f).gen = s.gen := rfl
@[simp] theorem State.count_capture (f : Counts → Counts) : (s.count f).capture = s.capture := rfl
@[simp] theorem State.count_engine (f : Counts → Counts) : (s.count f).engine = s.engine := rfl
@[simp] theorem State.count_units (f : Counts → Counts) : (s.count f).units = s.units := rfl
@[simp] theorem State.count_accounts (f : Counts → Counts) : (s.count f).accounts = { s.accounts with counts := f s.accounts.counts } := rfl
@[simp] theorem State.count_marker (f : Counts → Counts) : (s.count f).marker = s.marker := rfl
@[simp] theorem State.count_freeCount (f : Counts → Counts) : (s.count f).freeCount = s.freeCount := rfl
@[simp] theorem State.count_pending (f : Counts → Counts) : (s.count f).pending = s.pending := rfl
@[simp] theorem State.count_held (f : Counts → Counts) : (s.count f).held = s.held := rfl
@[simp] theorem State.count_port (f : Counts → Counts) (q : PortId) : (s.count f).port q = s.port q := rfl
@[simp] theorem State.count_nest (f : Counts → Counts) (m : NestId) : (s.count f).nest m = s.nest m := rfl
@[simp] theorem State.count_half (f : Counts → Counts) (h : HalfId) : (s.count f).half h = s.half h := rfl
@[simp] theorem State.count_plan (f : Counts → Counts) : (s.count f).plan = s.plan := rfl
@[simp] theorem State.count_planPoints (f : Counts → Counts) : (s.count f).planPoints = s.planPoints := rfl
@[simp] theorem State.count_windowLength (f : Counts → Counts) : (s.count f).windowLength = s.windowLength := rfl
@[simp] theorem State.count_verified (f : Counts → Counts) : (s.count f).verified = s.verified := rfl
@[simp] theorem State.count_planInUse (f : Counts → Counts) : (s.count f).planInUse = s.planInUse := rfl
@[simp] theorem State.count_preferences (f : Counts → Counts) : (s.count f).preferences = s.preferences := rfl
@[simp] theorem State.count_labelTimeout (f : Counts → Counts) : (s.count f).labelTimeout = s.labelTimeout := rfl
@[simp] theorem State.count_alarmLimit (f : Counts → Counts) : (s.count f).alarmLimit = s.alarmLimit := rfl

/-! ### modLine -/

@[simp] theorem State.modLine_hold (i : Fin 8) (f : Line → Line) : (s.modLine i f).hold = s.hold := rfl
@[simp] theorem State.modLine_straps (i : Fin 8) (f : Line → Line) : (s.modLine i f).straps = s.straps := rfl
@[simp] theorem State.modLine_station (i : Fin 8) (f : Line → Line) : (s.modLine i f).station = s.station := rfl
@[simp] theorem State.modLine_line (i : Fin 8) (f : Line → Line) : (s.modLine i f).line = s.line := rfl
@[simp] theorem State.modLine_loader (i : Fin 8) (f : Line → Line) : (s.modLine i f).loader = s.loader := rfl
@[simp] theorem State.modLine_lines (i : Fin 8) (f : Line → Line) : (s.modLine i f).lines = { s.lines with line := s.lines.line.set i (f s.lines.line[i]) } := rfl
@[simp] theorem State.modLine_nestA (i : Fin 8) (f : Line → Line) : (s.modLine i f).nestA = s.nestA := rfl
@[simp] theorem State.modLine_nestB (i : Fin 8) (f : Line → Line) : (s.modLine i f).nestB = s.nestB := rfl
@[simp] theorem State.modLine_chain (i : Fin 8) (f : Line → Line) : (s.modLine i f).chain = s.chain := rfl
@[simp] theorem State.modLine_gen (i : Fin 8) (f : Line → Line) : (s.modLine i f).gen = s.gen := rfl
@[simp] theorem State.modLine_capture (i : Fin 8) (f : Line → Line) : (s.modLine i f).capture = s.capture := rfl
@[simp] theorem State.modLine_engine (i : Fin 8) (f : Line → Line) : (s.modLine i f).engine = s.engine := rfl
@[simp] theorem State.modLine_units (i : Fin 8) (f : Line → Line) : (s.modLine i f).units = s.units := rfl
@[simp] theorem State.modLine_accounts (i : Fin 8) (f : Line → Line) : (s.modLine i f).accounts = s.accounts := rfl
@[simp] theorem State.modLine_marker (i : Fin 8) (f : Line → Line) : (s.modLine i f).marker = s.marker := rfl
@[simp] theorem State.modLine_freeCount (i : Fin 8) (f : Line → Line) : (s.modLine i f).freeCount = s.freeCount := rfl
@[simp] theorem State.modLine_pending (i : Fin 8) (f : Line → Line) : (s.modLine i f).pending = s.pending := rfl
@[simp] theorem State.modLine_held (i : Fin 8) (f : Line → Line) : (s.modLine i f).held = s.held := rfl
@[simp] theorem State.modLine_port (i : Fin 8) (f : Line → Line) (q : PortId) : (s.modLine i f).port q = s.port q := rfl
@[simp] theorem State.modLine_nest (i : Fin 8) (f : Line → Line) (m : NestId) : (s.modLine i f).nest m = s.nest m := rfl
@[simp] theorem State.modLine_half (i : Fin 8) (f : Line → Line) (h : HalfId) : (s.modLine i f).half h = s.half h := rfl
@[simp] theorem State.modLine_plan (i : Fin 8) (f : Line → Line) : (s.modLine i f).plan = s.plan := rfl
@[simp] theorem State.modLine_planPoints (i : Fin 8) (f : Line → Line) : (s.modLine i f).planPoints = s.planPoints := rfl
@[simp] theorem State.modLine_windowLength (i : Fin 8) (f : Line → Line) : (s.modLine i f).windowLength = s.windowLength := rfl
@[simp] theorem State.modLine_verified (i : Fin 8) (f : Line → Line) : (s.modLine i f).verified = s.verified := rfl
@[simp] theorem State.modLine_planInUse (i : Fin 8) (f : Line → Line) : (s.modLine i f).planInUse = s.planInUse := rfl
@[simp] theorem State.modLine_preferences (i : Fin 8) (f : Line → Line) : (s.modLine i f).preferences = s.preferences := rfl
@[simp] theorem State.modLine_labelTimeout (i : Fin 8) (f : Line → Line) : (s.modLine i f).labelTimeout = s.labelTimeout := rfl
@[simp] theorem State.modLine_alarmLimit (i : Fin 8) (f : Line → Line) : (s.modLine i f).alarmLimit = s.alarmLimit := rfl

/-! ### modPort -/

@[simp] theorem State.modPort_hold (p : PortId) (f : Port → Port) : (s.modPort p f).hold = s.hold := by cases p <;> rfl
@[simp] theorem State.modPort_straps (p : PortId) (f : Port → Port) : (s.modPort p f).straps = s.straps := by cases p <;> rfl
@[simp] theorem State.modPort_loader (p : PortId) (f : Port → Port) : (s.modPort p f).loader = s.loader := by cases p <;> rfl
@[simp] theorem State.modPort_lines (p : PortId) (f : Port → Port) : (s.modPort p f).lines = s.lines := by cases p <;> rfl
@[simp] theorem State.modPort_nestA (p : PortId) (f : Port → Port) : (s.modPort p f).nestA = s.nestA := by cases p <;> rfl
@[simp] theorem State.modPort_nestB (p : PortId) (f : Port → Port) : (s.modPort p f).nestB = s.nestB := by cases p <;> rfl
@[simp] theorem State.modPort_chain (p : PortId) (f : Port → Port) : (s.modPort p f).chain = s.chain := by cases p <;> rfl
@[simp] theorem State.modPort_gen (p : PortId) (f : Port → Port) : (s.modPort p f).gen = s.gen := by cases p <;> rfl
@[simp] theorem State.modPort_capture (p : PortId) (f : Port → Port) : (s.modPort p f).capture = s.capture := by cases p <;> rfl
@[simp] theorem State.modPort_engine (p : PortId) (f : Port → Port) : (s.modPort p f).engine = s.engine := by cases p <;> rfl
@[simp] theorem State.modPort_units (p : PortId) (f : Port → Port) : (s.modPort p f).units = s.units := by cases p <;> rfl
@[simp] theorem State.modPort_accounts (p : PortId) (f : Port → Port) : (s.modPort p f).accounts = s.accounts := by cases p <;> rfl
@[simp] theorem State.modPort_marker (p : PortId) (f : Port → Port) : (s.modPort p f).marker = s.marker := by cases p <;> rfl
@[simp] theorem State.modPort_freeCount (p : PortId) (f : Port → Port) : (s.modPort p f).freeCount = s.freeCount := by cases p <;> rfl
@[simp] theorem State.modPort_pending (p : PortId) (f : Port → Port) : (s.modPort p f).pending = s.pending := by cases p <;> rfl
@[simp] theorem State.modPort_port (p : PortId) (f : Port → Port) : (s.modPort p f).port p = f (s.port p) := by cases p <;> rfl
@[simp] theorem State.modPort_station (f : Port → Port) : (s.modPort .station f).station = f s.station := rfl
@[simp] theorem State.modPort_line (f : Port → Port) : (s.modPort .line f).line = f s.line := rfl
@[simp] theorem State.modPort_station_line (f : Port → Port) : (s.modPort .station f).line = s.line := rfl
@[simp] theorem State.modPort_line_station (f : Port → Port) : (s.modPort .line f).station = s.station := rfl
@[simp] theorem State.modPort_modPort (p : PortId) (f g : Port → Port) :
    (s.modPort p f).modPort p g = s.modPort p (fun q => g (f q)) := by cases p <;> rfl
@[simp] theorem State.modPort_held (p : PortId) (f : Port → Port) : (s.modPort p f).held = s.held := by cases p <;> rfl
@[simp] theorem State.modPort_nest (p : PortId) (f : Port → Port) (m : NestId) : (s.modPort p f).nest m = s.nest m := by cases p <;> rfl
@[simp] theorem State.modPort_half (p : PortId) (f : Port → Port) (h : HalfId) : (s.modPort p f).half h = s.half h := by cases p <;> rfl
@[simp] theorem State.modPort_plan (p : PortId) (f : Port → Port) : (s.modPort p f).plan = s.plan := by cases p <;> rfl
@[simp] theorem State.modPort_planPoints (p : PortId) (f : Port → Port) : (s.modPort p f).planPoints = s.planPoints := by cases p <;> rfl
@[simp] theorem State.modPort_windowLength (p : PortId) (f : Port → Port) : (s.modPort p f).windowLength = s.windowLength := by cases p <;> rfl
@[simp] theorem State.modPort_verified (p : PortId) (f : Port → Port) : (s.modPort p f).verified = s.verified := by cases p <;> rfl
@[simp] theorem State.modPort_planInUse (p : PortId) (f : Port → Port) : (s.modPort p f).planInUse = s.planInUse := by cases p <;> rfl
@[simp] theorem State.modPort_preferences (p : PortId) (f : Port → Port) : (s.modPort p f).preferences = s.preferences := by cases p <;> rfl
@[simp] theorem State.modPort_labelTimeout (p : PortId) (f : Port → Port) : (s.modPort p f).labelTimeout = s.labelTimeout := by cases p <;> rfl
@[simp] theorem State.modPort_alarmLimit (p : PortId) (f : Port → Port) : (s.modPort p f).alarmLimit = s.alarmLimit := by cases p <;> rfl

/-! ### modNest -/

@[simp] theorem State.modNest_hold (n : NestId) (f : Nest → Nest) : (s.modNest n f).hold = s.hold := by cases n <;> rfl
@[simp] theorem State.modNest_straps (n : NestId) (f : Nest → Nest) : (s.modNest n f).straps = s.straps := by cases n <;> rfl
@[simp] theorem State.modNest_station (n : NestId) (f : Nest → Nest) : (s.modNest n f).station = s.station := by cases n <;> rfl
@[simp] theorem State.modNest_line (n : NestId) (f : Nest → Nest) : (s.modNest n f).line = s.line := by cases n <;> rfl
@[simp] theorem State.modNest_loader (n : NestId) (f : Nest → Nest) : (s.modNest n f).loader = s.loader := by cases n <;> rfl
@[simp] theorem State.modNest_lines (n : NestId) (f : Nest → Nest) : (s.modNest n f).lines = s.lines := by cases n <;> rfl
@[simp] theorem State.modNest_chain (n : NestId) (f : Nest → Nest) : (s.modNest n f).chain = s.chain := by cases n <;> rfl
@[simp] theorem State.modNest_gen (n : NestId) (f : Nest → Nest) : (s.modNest n f).gen = s.gen := by cases n <;> rfl
@[simp] theorem State.modNest_capture (n : NestId) (f : Nest → Nest) : (s.modNest n f).capture = s.capture := by cases n <;> rfl
@[simp] theorem State.modNest_engine (n : NestId) (f : Nest → Nest) : (s.modNest n f).engine = s.engine := by cases n <;> rfl
@[simp] theorem State.modNest_units (n : NestId) (f : Nest → Nest) : (s.modNest n f).units = s.units := by cases n <;> rfl
@[simp] theorem State.modNest_accounts (n : NestId) (f : Nest → Nest) : (s.modNest n f).accounts = s.accounts := by cases n <;> rfl
@[simp] theorem State.modNest_marker (n : NestId) (f : Nest → Nest) : (s.modNest n f).marker = s.marker := by cases n <;> rfl
@[simp] theorem State.modNest_freeCount (n : NestId) (f : Nest → Nest) : (s.modNest n f).freeCount = s.freeCount := by cases n <;> rfl
@[simp] theorem State.modNest_pending (n : NestId) (f : Nest → Nest) : (s.modNest n f).pending = s.pending := by cases n <;> rfl
@[simp] theorem State.modNest_nest (n : NestId) (f : Nest → Nest) : (s.modNest n f).nest n = f (s.nest n) := by cases n <;> rfl
theorem State.modNest_nest_other (n m : NestId) (h : m ≠ n) (f : Nest → Nest) : (s.modNest n f).nest m = s.nest m := by
  cases n <;> cases m <;> first | rfl | exact absurd rfl h
theorem State.modNest_nest_eq (n m : NestId) (f : Nest → Nest) :
    (s.modNest n f).nest m = if m = n then f (s.nest m) else s.nest m := by cases n <;> cases m <;> rfl
@[simp] theorem State.modNest_nestA (f : Nest → Nest) : (s.modNest .a f).nestA = f s.nestA := rfl
@[simp] theorem State.modNest_nestB (f : Nest → Nest) : (s.modNest .b f).nestB = f s.nestB := rfl
@[simp] theorem State.modNest_a_nestB (f : Nest → Nest) : (s.modNest .a f).nestB = s.nestB := rfl
@[simp] theorem State.modNest_b_nestA (f : Nest → Nest) : (s.modNest .b f).nestA = s.nestA := rfl
@[simp] theorem State.modNest_held (n : NestId) (f : Nest → Nest) : (s.modNest n f).held = s.held := by cases n <;> rfl
@[simp] theorem State.modNest_port (n : NestId) (f : Nest → Nest) (q : PortId) : (s.modNest n f).port q = s.port q := by cases n <;> rfl
@[simp] theorem State.modNest_half (n : NestId) (f : Nest → Nest) (h : HalfId) : (s.modNest n f).half h = s.half h := by cases n <;> rfl
@[simp] theorem State.modNest_plan (n : NestId) (f : Nest → Nest) : (s.modNest n f).plan = s.plan := by cases n <;> rfl
@[simp] theorem State.modNest_planPoints (n : NestId) (f : Nest → Nest) : (s.modNest n f).planPoints = s.planPoints := by cases n <;> rfl
@[simp] theorem State.modNest_windowLength (n : NestId) (f : Nest → Nest) : (s.modNest n f).windowLength = s.windowLength := by cases n <;> rfl
@[simp] theorem State.modNest_verified (n : NestId) (f : Nest → Nest) : (s.modNest n f).verified = s.verified := by cases n <;> rfl
@[simp] theorem State.modNest_preferences (n : NestId) (f : Nest → Nest) : (s.modNest n f).preferences = s.preferences := by cases n <;> rfl
@[simp] theorem State.modNest_labelTimeout (n : NestId) (f : Nest → Nest) : (s.modNest n f).labelTimeout = s.labelTimeout := by cases n <;> rfl
@[simp] theorem State.modNest_alarmLimit (n : NestId) (f : Nest → Nest) : (s.modNest n f).alarmLimit = s.alarmLimit := by cases n <;> rfl

/-! ### modHalf -/

@[simp] theorem State.modHalf_hold (i : HalfId) (f : Half → Half) : (s.modHalf i f).hold = s.hold := by cases i <;> rfl
@[simp] theorem State.modHalf_straps (i : HalfId) (f : Half → Half) : (s.modHalf i f).straps = s.straps := by cases i <;> rfl
@[simp] theorem State.modHalf_station (i : HalfId) (f : Half → Half) : (s.modHalf i f).station = s.station := by cases i <;> rfl
@[simp] theorem State.modHalf_line (i : HalfId) (f : Half → Half) : (s.modHalf i f).line = s.line := by cases i <;> rfl
@[simp] theorem State.modHalf_loader (i : HalfId) (f : Half → Half) : (s.modHalf i f).loader = s.loader := by cases i <;> rfl
@[simp] theorem State.modHalf_lines (i : HalfId) (f : Half → Half) : (s.modHalf i f).lines = s.lines := by cases i <;> rfl
@[simp] theorem State.modHalf_nestA (i : HalfId) (f : Half → Half) : (s.modHalf i f).nestA = s.nestA := by cases i <;> rfl
@[simp] theorem State.modHalf_nestB (i : HalfId) (f : Half → Half) : (s.modHalf i f).nestB = s.nestB := by cases i <;> rfl
@[simp] theorem State.modHalf_chain (i : HalfId) (f : Half → Half) : (s.modHalf i f).chain = s.chain := by cases i <;> rfl
@[simp] theorem State.modHalf_gen (i : HalfId) (f : Half → Half) : (s.modHalf i f).gen = s.gen := by cases i <;> rfl
@[simp] theorem State.modHalf_engine (i : HalfId) (f : Half → Half) : (s.modHalf i f).engine = s.engine := by cases i <;> rfl
@[simp] theorem State.modHalf_units (i : HalfId) (f : Half → Half) : (s.modHalf i f).units = s.units := by cases i <;> rfl
@[simp] theorem State.modHalf_accounts (i : HalfId) (f : Half → Half) : (s.modHalf i f).accounts = s.accounts := by cases i <;> rfl
@[simp] theorem State.modHalf_marker (i : HalfId) (f : Half → Half) : (s.modHalf i f).marker = s.marker := by cases i <;> rfl
@[simp] theorem State.modHalf_freeCount (i : HalfId) (f : Half → Half) : (s.modHalf i f).freeCount = s.freeCount := by cases i <;> rfl
@[simp] theorem State.modHalf_pending (i : HalfId) (f : Half → Half) : (s.modHalf i f).pending = s.pending := by cases i <;> rfl
@[simp] theorem State.modHalf_half (i : HalfId) (f : Half → Half) : (s.modHalf i f).half i = f (s.half i) := by cases i <;> rfl
theorem State.modHalf_half_eq (i j : HalfId) (f : Half → Half) :
    (s.modHalf i f).half j = if j = i then f (s.half j) else s.half j := by cases i <;> cases j <;> rfl
@[simp] theorem State.modHalf_held (i : HalfId) (f : Half → Half) : (s.modHalf i f).held = s.held := by cases i <;> rfl
@[simp] theorem State.modHalf_port (i : HalfId) (f : Half → Half) (q : PortId) : (s.modHalf i f).port q = s.port q := by cases i <;> rfl
@[simp] theorem State.modHalf_nest (i : HalfId) (f : Half → Half) (m : NestId) : (s.modHalf i f).nest m = s.nest m := by cases i <;> rfl
@[simp] theorem State.modHalf_plan (i : HalfId) (f : Half → Half) : (s.modHalf i f).plan = s.plan := by cases i <;> rfl
@[simp] theorem State.modHalf_planPoints (i : HalfId) (f : Half → Half) : (s.modHalf i f).planPoints = s.planPoints := by cases i <;> rfl
@[simp] theorem State.modHalf_windowLength (i : HalfId) (f : Half → Half) : (s.modHalf i f).windowLength = s.windowLength := by cases i <;> rfl
@[simp] theorem State.modHalf_verified (i : HalfId) (f : Half → Half) : (s.modHalf i f).verified = s.verified := by cases i <;> rfl
@[simp] theorem State.modHalf_planInUse (i : HalfId) (f : Half → Half) : (s.modHalf i f).planInUse = s.planInUse := by cases i <;> rfl
@[simp] theorem State.modHalf_preferences (i : HalfId) (f : Half → Half) : (s.modHalf i f).preferences = s.preferences := by cases i <;> rfl
@[simp] theorem State.modHalf_labelTimeout (i : HalfId) (f : Half → Half) : (s.modHalf i f).labelTimeout = s.labelTimeout := by cases i <;> rfl
@[simp] theorem State.modHalf_alarmLimit (i : HalfId) (f : Half → Half) : (s.modHalf i f).alarmLimit = s.alarmLimit := by cases i <;> rfl

/-! ### The queue of commands -/

/-- Every block of `s` with another queue of commands is the block of `s`. -/
@[simp] theorem State.pending_held (l : List Instr) : ({ s with pending := l } : State).held = s.held := rfl
@[simp] theorem State.pending_port (l : List Instr) (p : PortId) : ({ s with pending := l } : State).port p = s.port p := by
  cases p <;> rfl
@[simp] theorem State.pending_nest (l : List Instr) (n : NestId) : ({ s with pending := l } : State).nest n = s.nest n := by
  cases n <;> rfl

end Sys2Proof.Machine
end

