-- ==== Sys2Proof/Laws/Frames.lean ====
section
/-! SUPPORT. The frame of each shared operation: every block it does not act on is as before. -/

namespace Sys2Proof.Machine
open Sys2Proof

variable (s : State)

/-! ### latchOn -/

@[simp] theorem State.latchOn_hold (p : PortId) (e : Event) : (s.latchOn p e).hold = s.hold := by simp [State.latchOn]
@[simp] theorem State.latchOn_straps (p : PortId) (e : Event) : (s.latchOn p e).straps = s.straps := by simp [State.latchOn]
@[simp] theorem State.latchOn_loader (p : PortId) (e : Event) : (s.latchOn p e).loader = s.loader := by simp [State.latchOn]
@[simp] theorem State.latchOn_lines (p : PortId) (e : Event) : (s.latchOn p e).lines = s.lines := by simp [State.latchOn]
@[simp] theorem State.latchOn_nestA (p : PortId) (e : Event) : (s.latchOn p e).nestA = s.nestA := by simp [State.latchOn]
@[simp] theorem State.latchOn_nestB (p : PortId) (e : Event) : (s.latchOn p e).nestB = s.nestB := by simp [State.latchOn]
@[simp] theorem State.latchOn_chain (p : PortId) (e : Event) : (s.latchOn p e).chain = s.chain := by simp [State.latchOn]
@[simp] theorem State.latchOn_gen (p : PortId) (e : Event) : (s.latchOn p e).gen = s.gen := by simp [State.latchOn]
@[simp] theorem State.latchOn_capture (p : PortId) (e : Event) : (s.latchOn p e).capture = s.capture := by simp [State.latchOn]
@[simp] theorem State.latchOn_engine (p : PortId) (e : Event) : (s.latchOn p e).engine = s.engine := by simp [State.latchOn]
@[simp] theorem State.latchOn_units (p : PortId) (e : Event) : (s.latchOn p e).units = s.units := by simp [State.latchOn]
@[simp] theorem State.latchOn_accounts (p : PortId) (e : Event) : (s.latchOn p e).accounts = s.accounts := by simp [State.latchOn]
@[simp] theorem State.latchOn_marker (p : PortId) (e : Event) : (s.latchOn p e).marker = s.marker := by simp [State.latchOn]
@[simp] theorem State.latchOn_freeCount (p : PortId) (e : Event) : (s.latchOn p e).freeCount = s.freeCount := by simp [State.latchOn]
@[simp] theorem State.latchOn_pending (p : PortId) (e : Event) : (s.latchOn p e).pending = s.pending := by simp [State.latchOn]

/-! ### latchBoth -/

@[simp] theorem State.latchBoth_hold (e : Event) : (s.latchBoth e).hold = s.hold := rfl
@[simp] theorem State.latchBoth_straps (e : Event) : (s.latchBoth e).straps = s.straps := rfl
@[simp] theorem State.latchBoth_loader (e : Event) : (s.latchBoth e).loader = s.loader := rfl
@[simp] theorem State.latchBoth_lines (e : Event) : (s.latchBoth e).lines = s.lines := rfl
@[simp] theorem State.latchBoth_nestA (e : Event) : (s.latchBoth e).nestA = s.nestA := rfl
@[simp] theorem State.latchBoth_nestB (e : Event) : (s.latchBoth e).nestB = s.nestB := rfl
@[simp] theorem State.latchBoth_chain (e : Event) : (s.latchBoth e).chain = s.chain := rfl
@[simp] theorem State.latchBoth_gen (e : Event) : (s.latchBoth e).gen = s.gen := rfl
@[simp] theorem State.latchBoth_capture (e : Event) : (s.latchBoth e).capture = s.capture := rfl
@[simp] theorem State.latchBoth_engine (e : Event) : (s.latchBoth e).engine = s.engine := rfl
@[simp] theorem State.latchBoth_units (e : Event) : (s.latchBoth e).units = s.units := rfl
@[simp] theorem State.latchBoth_accounts (e : Event) : (s.latchBoth e).accounts = s.accounts := rfl
@[simp] theorem State.latchBoth_marker (e : Event) : (s.latchBoth e).marker = s.marker := rfl
@[simp] theorem State.latchBoth_freeCount (e : Event) : (s.latchBoth e).freeCount = s.freeCount := rfl
@[simp] theorem State.latchBoth_pending (e : Event) : (s.latchBoth e).pending = s.pending := rfl

/-! ### markUnverified -/

@[simp] theorem State.markUnverified_hold : (s.markUnverified).hold = s.hold := rfl
@[simp] theorem State.markUnverified_straps : (s.markUnverified).straps = s.straps := rfl
@[simp] theorem State.markUnverified_loader : (s.markUnverified).loader = s.loader := rfl
@[simp] theorem State.markUnverified_lines : (s.markUnverified).lines = s.lines := rfl
@[simp] theorem State.markUnverified_nestA : (s.markUnverified).nestA = s.nestA := rfl
@[simp] theorem State.markUnverified_nestB : (s.markUnverified).nestB = s.nestB := rfl
@[simp] theorem State.markUnverified_chain : (s.markUnverified).chain = s.chain := rfl
@[simp] theorem State.markUnverified_gen : (s.markUnverified).gen = s.gen := rfl
@[simp] theorem State.markUnverified_capture : (s.markUnverified).capture = s.capture := rfl
@[simp] theorem State.markUnverified_engine : (s.markUnverified).engine = s.engine := rfl
@[simp] theorem State.markUnverified_units : (s.markUnverified).units = s.units := rfl
@[simp] theorem State.markUnverified_accounts : (s.markUnverified).accounts = s.accounts := rfl
@[simp] theorem State.markUnverified_marker : (s.markUnverified).marker = s.marker := rfl
@[simp] theorem State.markUnverified_freeCount : (s.markUnverified).freeCount = s.freeCount := rfl
@[simp] theorem State.markUnverified_pending : (s.markUnverified).pending = s.pending := rfl

/-! ### withdraw -/

@[simp] theorem State.withdraw_hold : (s.withdraw).hold = s.hold := rfl
@[simp] theorem State.withdraw_straps : (s.withdraw).straps = s.straps := rfl
@[simp] theorem State.withdraw_loader : (s.withdraw).loader = s.loader := rfl
@[simp] theorem State.withdraw_lines : (s.withdraw).lines = s.lines := rfl
@[simp] theorem State.withdraw_nestA : (s.withdraw).nestA = s.nestA := rfl
@[simp] theorem State.withdraw_nestB : (s.withdraw).nestB = s.nestB := rfl
@[simp] theorem State.withdraw_chain : (s.withdraw).chain = s.chain := rfl
@[simp] theorem State.withdraw_gen : (s.withdraw).gen = s.gen := rfl
@[simp] theorem State.withdraw_capture : (s.withdraw).capture = s.capture := rfl
@[simp] theorem State.withdraw_engine : (s.withdraw).engine = s.engine := rfl
@[simp] theorem State.withdraw_accounts : (s.withdraw).accounts = s.accounts := rfl
@[simp] theorem State.withdraw_marker : (s.withdraw).marker = s.marker := rfl
@[simp] theorem State.withdraw_freeCount : (s.withdraw).freeCount = s.freeCount := rfl
@[simp] theorem State.withdraw_pending : (s.withdraw).pending = s.pending := rfl

/-! ### answer -/

@[simp] theorem State.answer_hold (p : PortId) (st : Status) (sub : Nat) (body : List Byte) : (s.answer p st sub body).hold = s.hold := by simp [State.answer]
@[simp] theorem State.answer_straps (p : PortId) (st : Status) (sub : Nat) (body : List Byte) : (s.answer p st sub body).straps = s.straps := by simp [State.answer]
@[simp] theorem State.answer_loader (p : PortId) (st : Status) (sub : Nat) (body : List Byte) : (s.answer p st sub body).loader = s.loader := by simp [State.answer]
@[simp] theorem State.answer_lines (p : PortId) (st : Status) (sub : Nat) (body : List Byte) : (s.answer p st sub body).lines = s.lines := by simp [State.answer]
@[simp] theorem State.answer_nestA (p : PortId) (st : Status) (sub : Nat) (body : List Byte) : (s.answer p st sub body).nestA = s.nestA := by simp [State.answer]
@[simp] theorem State.answer_nestB (p : PortId) (st : Status) (sub : Nat) (body : List Byte) : (s.answer p st sub body).nestB = s.nestB := by simp [State.answer]
@[simp] theorem State.answer_chain (p : PortId) (st : Status) (sub : Nat) (body : List Byte) : (s.answer p st sub body).chain = s.chain := by simp [State.answer]
@[simp] theorem State.answer_gen (p : PortId) (st : Status) (sub : Nat) (body : List Byte) : (s.answer p st sub body).gen = s.gen := by simp [State.answer]
@[simp] theorem State.answer_capture (p : PortId) (st : Status) (sub : Nat) (body : List Byte) : (s.answer p st sub body).capture = s.capture := by simp [State.answer]
@[simp] theorem State.answer_engine (p : PortId) (st : Status) (sub : Nat) (body : List Byte) : (s.answer p st sub body).engine = s.engine := by simp [State.answer]
@[simp] theorem State.answer_units (p : PortId) (st : Status) (sub : Nat) (body : List Byte) : (s.answer p st sub body).units = s.units := by simp [State.answer]
@[simp] theorem State.answer_accounts (p : PortId) (st : Status) (sub : Nat) (body : List Byte) : (s.answer p st sub body).accounts = s.accounts := by simp [State.answer]
@[simp] theorem State.answer_marker (p : PortId) (st : Status) (sub : Nat) (body : List Byte) : (s.answer p st sub body).marker = s.marker := by simp [State.answer]
@[simp] theorem State.answer_freeCount (p : PortId) (st : Status) (sub : Nat) (body : List Byte) : (s.answer p st sub body).freeCount = s.freeCount := by simp [State.answer]
@[simp] theorem State.answer_pending (p : PortId) (st : Status) (sub : Nat) (body : List Byte) : (s.answer p st sub body).pending = s.pending := by simp [State.answer]

/-! ### answerLate -/

@[simp] theorem State.answerLate_hold (p : PortId) (st : Status) (sub : Nat) (body : List Byte) : (s.answerLate p st sub body).hold = s.hold := by simp [State.answerLate]
@[simp] theorem State.answerLate_straps (p : PortId) (st : Status) (sub : Nat) (body : List Byte) : (s.answerLate p st sub body).straps = s.straps := by simp [State.answerLate]
@[simp] theorem State.answerLate_loader (p : PortId) (st : Status) (sub : Nat) (body : List Byte) : (s.answerLate p st sub body).loader = s.loader := by simp [State.answerLate]
@[simp] theorem State.answerLate_lines (p : PortId) (st : Status) (sub : Nat) (body : List Byte) : (s.answerLate p st sub body).lines = s.lines := by simp [State.answerLate]
@[simp] theorem State.answerLate_nestA (p : PortId) (st : Status) (sub : Nat) (body : List Byte) : (s.answerLate p st sub body).nestA = s.nestA := by simp [State.answerLate]
@[simp] theorem State.answerLate_nestB (p : PortId) (st : Status) (sub : Nat) (body : List Byte) : (s.answerLate p st sub body).nestB = s.nestB := by simp [State.answerLate]
@[simp] theorem State.answerLate_chain (p : PortId) (st : Status) (sub : Nat) (body : List Byte) : (s.answerLate p st sub body).chain = s.chain := by simp [State.answerLate]
@[simp] theorem State.answerLate_gen (p : PortId) (st : Status) (sub : Nat) (body : List Byte) : (s.answerLate p st sub body).gen = s.gen := by simp [State.answerLate]
@[simp] theorem State.answerLate_capture (p : PortId) (st : Status) (sub : Nat) (body : List Byte) : (s.answerLate p st sub body).capture = s.capture := by simp [State.answerLate]
@[simp] theorem State.answerLate_engine (p : PortId) (st : Status) (sub : Nat) (body : List Byte) : (s.answerLate p st sub body).engine = s.engine := by simp [State.answerLate]
@[simp] theorem State.answerLate_units (p : PortId) (st : Status) (sub : Nat) (body : List Byte) : (s.answerLate p st sub body).units = s.units := by simp [State.answerLate]
@[simp] theorem State.answerLate_accounts (p : PortId) (st : Status) (sub : Nat) (body : List Byte) : (s.answerLate p st sub body).accounts = s.accounts := by simp [State.answerLate]
@[simp] theorem State.answerLate_marker (p : PortId) (st : Status) (sub : Nat) (body : List Byte) : (s.answerLate p st sub body).marker = s.marker := by simp [State.answerLate]
@[simp] theorem State.answerLate_freeCount (p : PortId) (st : Status) (sub : Nat) (body : List Byte) : (s.answerLate p st sub body).freeCount = s.freeCount := by simp [State.answerLate]
@[simp] theorem State.answerLate_pending (p : PortId) (st : Status) (sub : Nat) (body : List Byte) : (s.answerLate p st sub body).pending = s.pending := by simp [State.answerLate]

/-! ### ok -/

@[simp] theorem State.ok_hold (p : PortId) (body : List Byte) : (s.ok p body).hold = s.hold := by simp [State.ok]
@[simp] theorem State.ok_straps (p : PortId) (body : List Byte) : (s.ok p body).straps = s.straps := by simp [State.ok]
@[simp] theorem State.ok_loader (p : PortId) (body : List Byte) : (s.ok p body).loader = s.loader := by simp [State.ok]
@[simp] theorem State.ok_lines (p : PortId) (body : List Byte) : (s.ok p body).lines = s.lines := by simp [State.ok]
@[simp] theorem State.ok_nestA (p : PortId) (body : List Byte) : (s.ok p body).nestA = s.nestA := by simp [State.ok]
@[simp] theorem State.ok_nestB (p : PortId) (body : List Byte) : (s.ok p body).nestB = s.nestB := by simp [State.ok]
@[simp] theorem State.ok_chain (p : PortId) (body : List Byte) : (s.ok p body).chain = s.chain := by simp [State.ok]
@[simp] theorem State.ok_gen (p : PortId) (body : List Byte) : (s.ok p body).gen = s.gen := by simp [State.ok]
@[simp] theorem State.ok_capture (p : PortId) (body : List Byte) : (s.ok p body).capture = s.capture := by simp [State.ok]
@[simp] theorem State.ok_engine (p : PortId) (body : List Byte) : (s.ok p body).engine = s.engine := by simp [State.ok]
@[simp] theorem State.ok_units (p : PortId) (body : List Byte) : (s.ok p body).units = s.units := by simp [State.ok]
@[simp] theorem State.ok_accounts (p : PortId) (body : List Byte) : (s.ok p body).accounts = s.accounts := by simp [State.ok]
@[simp] theorem State.ok_marker (p : PortId) (body : List Byte) : (s.ok p body).marker = s.marker := by simp [State.ok]
@[simp] theorem State.ok_freeCount (p : PortId) (body : List Byte) : (s.ok p body).freeCount = s.freeCount := by simp [State.ok]
@[simp] theorem State.ok_pending (p : PortId) (body : List Byte) : (s.ok p body).pending = s.pending := by simp [State.ok]

/-! ### refuse -/

@[simp] theorem State.refuse_hold (p : PortId) (st : Status) (sub : Nat) : (s.refuse p st sub).hold = s.hold := by simp [State.refuse]
@[simp] theorem State.refuse_straps (p : PortId) (st : Status) (sub : Nat) : (s.refuse p st sub).straps = s.straps := by simp [State.refuse]
@[simp] theorem State.refuse_loader (p : PortId) (st : Status) (sub : Nat) : (s.refuse p st sub).loader = s.loader := by simp [State.refuse]
@[simp] theorem State.refuse_lines (p : PortId) (st : Status) (sub : Nat) : (s.refuse p st sub).lines = s.lines := by simp [State.refuse]
@[simp] theorem State.refuse_nestA (p : PortId) (st : Status) (sub : Nat) : (s.refuse p st sub).nestA = s.nestA := by simp [State.refuse]
@[simp] theorem State.refuse_nestB (p : PortId) (st : Status) (sub : Nat) : (s.refuse p st sub).nestB = s.nestB := by simp [State.refuse]
@[simp] theorem State.refuse_chain (p : PortId) (st : Status) (sub : Nat) : (s.refuse p st sub).chain = s.chain := by simp [State.refuse]
@[simp] theorem State.refuse_gen (p : PortId) (st : Status) (sub : Nat) : (s.refuse p st sub).gen = s.gen := by simp [State.refuse]
@[simp] theorem State.refuse_capture (p : PortId) (st : Status) (sub : Nat) : (s.refuse p st sub).capture = s.capture := by simp [State.refuse]
@[simp] theorem State.refuse_engine (p : PortId) (st : Status) (sub : Nat) : (s.refuse p st sub).engine = s.engine := by simp [State.refuse]
@[simp] theorem State.refuse_units (p : PortId) (st : Status) (sub : Nat) : (s.refuse p st sub).units = s.units := by simp [State.refuse]
@[simp] theorem State.refuse_accounts (p : PortId) (st : Status) (sub : Nat) : (s.refuse p st sub).accounts = s.accounts := by simp [State.refuse]
@[simp] theorem State.refuse_marker (p : PortId) (st : Status) (sub : Nat) : (s.refuse p st sub).marker = s.marker := by simp [State.refuse]
@[simp] theorem State.refuse_freeCount (p : PortId) (st : Status) (sub : Nat) : (s.refuse p st sub).freeCount = s.freeCount := by simp [State.refuse]
@[simp] theorem State.refuse_pending (p : PortId) (st : Status) (sub : Nat) : (s.refuse p st sub).pending = s.pending := by simp [State.refuse]

/-! ### planReply -/

@[simp] theorem State.planReply_hold (p : PortId) (st : Status) (sub : Nat) (more : List Byte) : (s.planReply p st sub more).hold = s.hold := by simp [State.planReply]
@[simp] theorem State.planReply_straps (p : PortId) (st : Status) (sub : Nat) (more : List Byte) : (s.planReply p st sub more).straps = s.straps := by simp [State.planReply]
@[simp] theorem State.planReply_loader (p : PortId) (st : Status) (sub : Nat) (more : List Byte) : (s.planReply p st sub more).loader = s.loader := by simp [State.planReply]
@[simp] theorem State.planReply_lines (p : PortId) (st : Status) (sub : Nat) (more : List Byte) : (s.planReply p st sub more).lines = s.lines := by simp [State.planReply]
@[simp] theorem State.planReply_nestA (p : PortId) (st : Status) (sub : Nat) (more : List Byte) : (s.planReply p st sub more).nestA = s.nestA := by simp [State.planReply]
@[simp] theorem State.planReply_nestB (p : PortId) (st : Status) (sub : Nat) (more : List Byte) : (s.planReply p st sub more).nestB = s.nestB := by simp [State.planReply]
@[simp] theorem State.planReply_chain (p : PortId) (st : Status) (sub : Nat) (more : List Byte) : (s.planReply p st sub more).chain = s.chain := by simp [State.planReply]
@[simp] theorem State.planReply_gen (p : PortId) (st : Status) (sub : Nat) (more : List Byte) : (s.planReply p st sub more).gen = s.gen := by simp [State.planReply]
@[simp] theorem State.planReply_capture (p : PortId) (st : Status) (sub : Nat) (more : List Byte) : (s.planReply p st sub more).capture = s.capture := by simp [State.planReply]
@[simp] theorem State.planReply_engine (p : PortId) (st : Status) (sub : Nat) (more : List Byte) : (s.planReply p st sub more).engine = s.engine := by simp [State.planReply]
@[simp] theorem State.planReply_units (p : PortId) (st : Status) (sub : Nat) (more : List Byte) : (s.planReply p st sub more).units = s.units := by simp [State.planReply]
@[simp] theorem State.planReply_accounts (p : PortId) (st : Status) (sub : Nat) (more : List Byte) : (s.planReply p st sub more).accounts = s.accounts := by simp [State.planReply]
@[simp] theorem State.planReply_marker (p : PortId) (st : Status) (sub : Nat) (more : List Byte) : (s.planReply p st sub more).marker = s.marker := by simp [State.planReply]
@[simp] theorem State.planReply_freeCount (p : PortId) (st : Status) (sub : Nat) (more : List Byte) : (s.planReply p st sub more).freeCount = s.freeCount := by simp [State.planReply]
@[simp] theorem State.planReply_pending (p : PortId) (st : Status) (sub : Nat) (more : List Byte) : (s.planReply p st sub more).pending = s.pending := by simp [State.planReply]

/-! ### planState -/

@[simp] theorem State.planState_hold (p : PortId) : (s.planState p).hold = s.hold := by simp [State.planState]
@[simp] theorem State.planState_straps (p : PortId) : (s.planState p).straps = s.straps := by simp [State.planState]
@[simp] theorem State.planState_loader (p : PortId) : (s.planState p).loader = s.loader := by simp [State.planState]
@[simp] theorem State.planState_lines (p : PortId) : (s.planState p).lines = s.lines := by simp [State.planState]
@[simp] theorem State.planState_nestA (p : PortId) : (s.planState p).nestA = s.nestA := by simp [State.planState]
@[simp] theorem State.planState_nestB (p : PortId) : (s.planState p).nestB = s.nestB := by simp [State.planState]
@[simp] theorem State.planState_chain (p : PortId) : (s.planState p).chain = s.chain := by simp [State.planState]
@[simp] theorem State.planState_gen (p : PortId) : (s.planState p).gen = s.gen := by simp [State.planState]
@[simp] theorem State.planState_capture (p : PortId) : (s.planState p).capture = s.capture := by simp [State.planState]
@[simp] theorem State.planState_engine (p : PortId) : (s.planState p).engine = s.engine := by simp [State.planState]
@[simp] theorem State.planState_units (p : PortId) : (s.planState p).units = s.units := by simp [State.planState]
@[simp] theorem State.planState_accounts (p : PortId) : (s.planState p).accounts = s.accounts := by simp [State.planState]
@[simp] theorem State.planState_marker (p : PortId) : (s.planState p).marker = s.marker := by simp [State.planState]
@[simp] theorem State.planState_freeCount (p : PortId) : (s.planState p).freeCount = s.freeCount := by simp [State.planState]
@[simp] theorem State.planState_pending (p : PortId) : (s.planState p).pending = s.pending := by simp [State.planState]

/-! ### freeOne -/

@[simp] theorem State.freeOne_hold (h : HalfId) : (s.freeOne h).hold = s.hold := by simp [State.freeOne]
@[simp] theorem State.freeOne_straps (h : HalfId) : (s.freeOne h).straps = s.straps := by simp [State.freeOne]
@[simp] theorem State.freeOne_station (h : HalfId) : (s.freeOne h).station = s.station := by simp [State.freeOne]
@[simp] theorem State.freeOne_line (h : HalfId) : (s.freeOne h).line = s.line := by simp [State.freeOne]
@[simp] theorem State.freeOne_loader (h : HalfId) : (s.freeOne h).loader = s.loader := by simp [State.freeOne]
@[simp] theorem State.freeOne_lines (h : HalfId) : (s.freeOne h).lines = s.lines := by simp [State.freeOne]
@[simp] theorem State.freeOne_nestA (h : HalfId) : (s.freeOne h).nestA = s.nestA := by simp [State.freeOne]
@[simp] theorem State.freeOne_nestB (h : HalfId) : (s.freeOne h).nestB = s.nestB := by simp [State.freeOne]
@[simp] theorem State.freeOne_chain (h : HalfId) : (s.freeOne h).chain = s.chain := by simp [State.freeOne]
@[simp] theorem State.freeOne_gen (h : HalfId) : (s.freeOne h).gen = s.gen := by simp [State.freeOne]
@[simp] theorem State.freeOne_units (h : HalfId) : (s.freeOne h).units = s.units := by simp [State.freeOne]
@[simp] theorem State.freeOne_accounts (h : HalfId) : (s.freeOne h).accounts = s.accounts := by simp [State.freeOne]
@[simp] theorem State.freeOne_marker (h : HalfId) : (s.freeOne h).marker = s.marker := by simp [State.freeOne]
@[simp] theorem State.freeOne_freeCount (h : HalfId) : (s.freeOne h).freeCount = s.freeCount := by simp [State.freeOne]
@[simp] theorem State.freeOne_pending (h : HalfId) : (s.freeOne h).pending = s.pending := by simp [State.freeOne]

/-! ### spendUnstated -/

@[simp] theorem State.spendUnstated_hold (n : Nat) : (s.spendUnstated n).hold = s.hold := rfl
@[simp] theorem State.spendUnstated_straps (n : Nat) : (s.spendUnstated n).straps = s.straps := rfl
@[simp] theorem State.spendUnstated_station (n : Nat) : (s.spendUnstated n).station = s.station := rfl
@[simp] theorem State.spendUnstated_line (n : Nat) : (s.spendUnstated n).line = s.line := rfl
@[simp] theorem State.spendUnstated_loader (n : Nat) : (s.spendUnstated n).loader = s.loader := rfl
@[simp] theorem State.spendUnstated_lines (n : Nat) : (s.spendUnstated n).lines = s.lines := rfl
@[simp] theorem State.spendUnstated_nestA (n : Nat) : (s.spendUnstated n).nestA = s.nestA := rfl
@[simp] theorem State.spendUnstated_nestB (n : Nat) : (s.spendUnstated n).nestB = s.nestB := rfl
@[simp] theorem State.spendUnstated_chain (n : Nat) : (s.spendUnstated n).chain = s.chain := rfl
@[simp] theorem State.spendUnstated_gen (n : Nat) : (s.spendUnstated n).gen = s.gen := rfl
@[simp] theorem State.spendUnstated_capture (n : Nat) : (s.spendUnstated n).capture = s.capture := rfl
@[simp] theorem State.spendUnstated_engine (n : Nat) : (s.spendUnstated n).engine = s.engine := rfl
@[simp] theorem State.spendUnstated_units (n : Nat) : (s.spendUnstated n).units = s.units := rfl
@[simp] theorem State.spendUnstated_accounts (n : Nat) : (s.spendUnstated n).accounts = s.accounts := rfl
@[simp] theorem State.spendUnstated_marker (n : Nat) : (s.spendUnstated n).marker = s.marker := rfl
@[simp] theorem State.spendUnstated_pending (n : Nat) : (s.spendUnstated n).pending = s.pending := rfl

/-! ### addRing -/

@[simp] theorem State.addRing_hold (e : RingEntry) : (s.addRing e).hold = s.hold := by
  unfold State.addRing; try dsimp only
  repeat' split
  all_goals first | rfl | simp
@[simp] theorem State.addRing_straps (e : RingEntry) : (s.addRing e).straps = s.straps := by
  unfold State.addRing; try dsimp only
  repeat' split
  all_goals first | rfl | simp
@[simp] theorem State.addRing_loader (e : RingEntry) : (s.addRing e).loader = s.loader := by
  unfold State.addRing; try dsimp only
  repeat' split
  all_goals first | rfl | simp
@[simp] theorem State.addRing_lines (e : RingEntry) : (s.addRing e).lines = s.lines := by
  unfold State.addRing; try dsimp only
  repeat' split
  all_goals first | rfl | simp
@[simp] theorem State.addRing_nestA (e : RingEntry) : (s.addRing e).nestA = s.nestA := by
  unfold State.addRing; try dsimp only
  repeat' split
  all_goals first | rfl | simp
@[simp] theorem State.addRing_nestB (e : RingEntry) : (s.addRing e).nestB = s.nestB := by
  unfold State.addRing; try dsimp only
  repeat' split
  all_goals first | rfl | simp
@[simp] theorem State.addRing_chain (e : RingEntry) : (s.addRing e).chain = s.chain := by
  unfold State.addRing; try dsimp only
  repeat' split
  all_goals first | rfl | simp
@[simp] theorem State.addRing_gen (e : RingEntry) : (s.addRing e).gen = s.gen := by
  unfold State.addRing; try dsimp only
  repeat' split
  all_goals first | rfl | simp
@[simp] theorem State.addRing_capture (e : RingEntry) : (s.addRing e).capture = s.capture := by
  unfold State.addRing; try dsimp only
  repeat' split
  all_goals first | rfl | simp
@[simp] theorem State.addRing_engine (e : RingEntry) : (s.addRing e).engine = s.engine := by
  unfold State.addRing; try dsimp only
  repeat' split
  all_goals first | rfl | simp
@[simp] theorem State.addRing_units (e : RingEntry) : (s.addRing e).units = s.units := by
  unfold State.addRing; try dsimp only
  repeat' split
  all_goals first | rfl | simp
@[simp] theorem State.addRing_marker (e : RingEntry) : (s.addRing e).marker = s.marker := by
  unfold State.addRing; try dsimp only
  repeat' split
  all_goals first | rfl | simp
@[simp] theorem State.addRing_freeCount (e : RingEntry) : (s.addRing e).freeCount = s.freeCount := by
  unfold State.addRing; try dsimp only
  repeat' split
  all_goals first | rfl | simp
@[simp] theorem State.addRing_pending (e : RingEntry) : (s.addRing e).pending = s.pending := by
  unfold State.addRing; try dsimp only
  repeat' split
  all_goals first | rfl | simp

/-! ### expire -/

@[simp] theorem State.expire_hold (serial : Nat) : (s.expire serial).hold = s.hold := by simp [State.expire]
@[simp] theorem State.expire_straps (serial : Nat) : (s.expire serial).straps = s.straps := by simp [State.expire]
@[simp] theorem State.expire_loader (serial : Nat) : (s.expire serial).loader = s.loader := by simp [State.expire]
@[simp] theorem State.expire_lines (serial : Nat) : (s.expire serial).lines = s.lines := by simp [State.expire]
@[simp] theorem State.expire_nestA (serial : Nat) : (s.expire serial).nestA = s.nestA := by simp [State.expire]
@[simp] theorem State.expire_nestB (serial : Nat) : (s.expire serial).nestB = s.nestB := by simp [State.expire]
@[simp] theorem State.expire_chain (serial : Nat) : (s.expire serial).chain = s.chain := by simp [State.expire]
@[simp] theorem State.expire_gen (serial : Nat) : (s.expire serial).gen = s.gen := by simp [State.expire]
@[simp] theorem State.expire_capture (serial : Nat) : (s.expire serial).capture = s.capture := by simp [State.expire]
@[simp] theorem State.expire_engine (serial : Nat) : (s.expire serial).engine = s.engine := by simp [State.expire]
@[simp] theorem State.expire_units (serial : Nat) : (s.expire serial).units = s.units := by simp [State.expire]
@[simp] theorem State.expire_marker (serial : Nat) : (s.expire serial).marker = s.marker := by simp [State.expire]
@[simp] theorem State.expire_freeCount (serial : Nat) : (s.expire serial).freeCount = s.freeCount := by simp [State.expire]
@[simp] theorem State.expire_pending (serial : Nat) : (s.expire serial).pending = s.pending := by simp [State.expire]

/-! ### closeShift -/

@[simp] theorem State.closeShift_hold (reason : CloseReason) : (s.closeShift reason).hold = s.hold := rfl
@[simp] theorem State.closeShift_straps (reason : CloseReason) : (s.closeShift reason).straps = s.straps := rfl
@[simp] theorem State.closeShift_station (reason : CloseReason) : (s.closeShift reason).station = s.station := rfl
@[simp] theorem State.closeShift_line (reason : CloseReason) : (s.closeShift reason).line = s.line := rfl
@[simp] theorem State.closeShift_loader (reason : CloseReason) : (s.closeShift reason).loader = s.loader := rfl
@[simp] theorem State.closeShift_lines (reason : CloseReason) : (s.closeShift reason).lines = s.lines := rfl
@[simp] theorem State.closeShift_nestA (reason : CloseReason) : (s.closeShift reason).nestA = s.nestA := rfl
@[simp] theorem State.closeShift_nestB (reason : CloseReason) : (s.closeShift reason).nestB = s.nestB := rfl
@[simp] theorem State.closeShift_chain (reason : CloseReason) : (s.closeShift reason).chain = s.chain := rfl
@[simp] theorem State.closeShift_gen (reason : CloseReason) : (s.closeShift reason).gen = s.gen := rfl
@[simp] theorem State.closeShift_capture (reason : CloseReason) : (s.closeShift reason).capture = s.capture := rfl
@[simp] theorem State.closeShift_engine (reason : CloseReason) : (s.closeShift reason).engine = s.engine := rfl
@[simp] theorem State.closeShift_units (reason : CloseReason) : (s.closeShift reason).units = s.units := rfl
@[simp] theorem State.closeShift_marker (reason : CloseReason) : (s.closeShift reason).marker = s.marker := rfl
@[simp] theorem State.closeShift_freeCount (reason : CloseReason) : (s.closeShift reason).freeCount = s.freeCount := rfl
@[simp] theorem State.closeShift_pending (reason : CloseReason) : (s.closeShift reason).pending = s.pending := rfl

/-! ### evictIfFull -/

@[simp] theorem State.evictIfFull_hold : (s.evictIfFull).hold = s.hold := by
  unfold State.evictIfFull; repeat' split
  all_goals simp
@[simp] theorem State.evictIfFull_straps : (s.evictIfFull).straps = s.straps := by
  unfold State.evictIfFull; repeat' split
  all_goals simp
@[simp] theorem State.evictIfFull_loader : (s.evictIfFull).loader = s.loader := by
  unfold State.evictIfFull; repeat' split
  all_goals simp
@[simp] theorem State.evictIfFull_lines : (s.evictIfFull).lines = s.lines := by
  unfold State.evictIfFull; repeat' split
  all_goals simp
@[simp] theorem State.evictIfFull_nestA : (s.evictIfFull).nestA = s.nestA := by
  unfold State.evictIfFull; repeat' split
  all_goals simp
@[simp] theorem State.evictIfFull_nestB : (s.evictIfFull).nestB = s.nestB := by
  unfold State.evictIfFull; repeat' split
  all_goals simp
@[simp] theorem State.evictIfFull_chain : (s.evictIfFull).chain = s.chain := by
  unfold State.evictIfFull; repeat' split
  all_goals simp
@[simp] theorem State.evictIfFull_gen : (s.evictIfFull).gen = s.gen := by
  unfold State.evictIfFull; repeat' split
  all_goals simp
@[simp] theorem State.evictIfFull_capture : (s.evictIfFull).capture = s.capture := by
  unfold State.evictIfFull; repeat' split
  all_goals simp
@[simp] theorem State.evictIfFull_engine : (s.evictIfFull).engine = s.engine := by
  unfold State.evictIfFull; repeat' split
  all_goals simp
@[simp] theorem State.evictIfFull_marker : (s.evictIfFull).marker = s.marker := by
  unfold State.evictIfFull; repeat' split
  all_goals simp
@[simp] theorem State.evictIfFull_freeCount : (s.evictIfFull).freeCount = s.freeCount := by
  unfold State.evictIfFull; repeat' split
  all_goals simp
@[simp] theorem State.evictIfFull_pending : (s.evictIfFull).pending = s.pending := by
  unfold State.evictIfFull; repeat' split
  all_goals simp

/-! ### insertRetest -/

@[simp] theorem State.insertRetest_hold (e : RetestEntry) : (s.insertRetest e).hold = s.hold := by simp [State.insertRetest]
@[simp] theorem State.insertRetest_straps (e : RetestEntry) : (s.insertRetest e).straps = s.straps := by simp [State.insertRetest]
@[simp] theorem State.insertRetest_loader (e : RetestEntry) : (s.insertRetest e).loader = s.loader := by simp [State.insertRetest]
@[simp] theorem State.insertRetest_lines (e : RetestEntry) : (s.insertRetest e).lines = s.lines := by simp [State.insertRetest]
@[simp] theorem State.insertRetest_nestA (e : RetestEntry) : (s.insertRetest e).nestA = s.nestA := by simp [State.insertRetest]
@[simp] theorem State.insertRetest_nestB (e : RetestEntry) : (s.insertRetest e).nestB = s.nestB := by simp [State.insertRetest]
@[simp] theorem State.insertRetest_chain (e : RetestEntry) : (s.insertRetest e).chain = s.chain := by simp [State.insertRetest]
@[simp] theorem State.insertRetest_gen (e : RetestEntry) : (s.insertRetest e).gen = s.gen := by simp [State.insertRetest]
@[simp] theorem State.insertRetest_capture (e : RetestEntry) : (s.insertRetest e).capture = s.capture := by simp [State.insertRetest]
@[simp] theorem State.insertRetest_engine (e : RetestEntry) : (s.insertRetest e).engine = s.engine := by simp [State.insertRetest]
@[simp] theorem State.insertRetest_marker (e : RetestEntry) : (s.insertRetest e).marker = s.marker := by simp [State.insertRetest]
@[simp] theorem State.insertRetest_freeCount (e : RetestEntry) : (s.insertRetest e).freeCount = s.freeCount := by simp [State.insertRetest]
@[simp] theorem State.insertRetest_pending (e : RetestEntry) : (s.insertRetest e).pending = s.pending := by simp [State.insertRetest]

/-! ### giveBack -/

@[simp] theorem State.giveBack_hold (n : NestId) : (s.giveBack n).hold = s.hold := by
  unfold State.giveBack; try dsimp only
  repeat' split
  all_goals first | rfl | simp
@[simp] theorem State.giveBack_straps (n : NestId) : (s.giveBack n).straps = s.straps := by
  unfold State.giveBack; try dsimp only
  repeat' split
  all_goals first | rfl | simp
@[simp] theorem State.giveBack_loader (n : NestId) : (s.giveBack n).loader = s.loader := by
  unfold State.giveBack; try dsimp only
  repeat' split
  all_goals first | rfl | simp
@[simp] theorem State.giveBack_lines (n : NestId) : (s.giveBack n).lines = s.lines := by
  unfold State.giveBack; try dsimp only
  repeat' split
  all_goals first | rfl | simp
@[simp] theorem State.giveBack_nestA (n : NestId) : (s.giveBack n).nestA = s.nestA := by
  unfold State.giveBack; try dsimp only
  repeat' split
  all_goals first | rfl | simp
@[simp] theorem State.giveBack_nestB (n : NestId) : (s.giveBack n).nestB = s.nestB := by
  unfold State.giveBack; try dsimp only
  repeat' split
  all_goals first | rfl | simp
@[simp] theorem State.giveBack_chain (n : NestId) : (s.giveBack n).chain = s.chain := by
  unfold State.giveBack; try dsimp only
  repeat' split
  all_goals first | rfl | simp
@[simp] theorem State.giveBack_gen (n : NestId) : (s.giveBack n).gen = s.gen := by
  unfold State.giveBack; try dsimp only
  repeat' split
  all_goals first | rfl | simp
@[simp] theorem State.giveBack_capture (n : NestId) : (s.giveBack n).capture = s.capture := by
  unfold State.giveBack; try dsimp only
  repeat' split
  all_goals first | rfl | simp
@[simp] theorem State.giveBack_engine (n : NestId) : (s.giveBack n).engine = s.engine := by
  unfold State.giveBack; try dsimp only
  repeat' split
  all_goals first | rfl | simp
@[simp] theorem State.giveBack_marker (n : NestId) : (s.giveBack n).marker = s.marker := by
  unfold State.giveBack; try dsimp only
  repeat' split
  all_goals first | rfl | simp
@[simp] theorem State.giveBack_freeCount (n : NestId) : (s.giveBack n).freeCount = s.freeCount := by
  unfold State.giveBack; try dsimp only
  repeat' split
  all_goals first | rfl | simp
@[simp] theorem State.giveBack_pending (n : NestId) : (s.giveBack n).pending = s.pending := by
  unfold State.giveBack; try dsimp only
  repeat' split
  all_goals first | rfl | simp

/-! ### releaseUntested -/

@[simp] theorem State.releaseUntested_hold (n : NestId) : (s.releaseUntested n).hold = s.hold := by simp [State.releaseUntested]
@[simp] theorem State.releaseUntested_straps (n : NestId) : (s.releaseUntested n).straps = s.straps := by simp [State.releaseUntested]
@[simp] theorem State.releaseUntested_loader (n : NestId) : (s.releaseUntested n).loader = s.loader := by simp [State.releaseUntested]
@[simp] theorem State.releaseUntested_lines (n : NestId) : (s.releaseUntested n).lines = s.lines := by simp [State.releaseUntested]
@[simp] theorem State.releaseUntested_chain (n : NestId) : (s.releaseUntested n).chain = s.chain := by simp [State.releaseUntested]
@[simp] theorem State.releaseUntested_gen (n : NestId) : (s.releaseUntested n).gen = s.gen := by simp [State.releaseUntested]
@[simp] theorem State.releaseUntested_capture (n : NestId) : (s.releaseUntested n).capture = s.capture := by simp [State.releaseUntested]
@[simp] theorem State.releaseUntested_engine (n : NestId) : (s.releaseUntested n).engine = s.engine := by simp [State.releaseUntested]
@[simp] theorem State.releaseUntested_marker (n : NestId) : (s.releaseUntested n).marker = s.marker := by simp [State.releaseUntested]
@[simp] theorem State.releaseUntested_freeCount (n : NestId) : (s.releaseUntested n).freeCount = s.freeCount := by simp [State.releaseUntested]
@[simp] theorem State.releaseUntested_pending (n : NestId) : (s.releaseUntested n).pending = s.pending := by simp [State.releaseUntested]

/-! ### emptyRetest -/

@[simp] theorem State.emptyRetest_hold : (s.emptyRetest).hold = s.hold := rfl
@[simp] theorem State.emptyRetest_straps : (s.emptyRetest).straps = s.straps := rfl
@[simp] theorem State.emptyRetest_station : (s.emptyRetest).station = s.station := rfl
@[simp] theorem State.emptyRetest_line : (s.emptyRetest).line = s.line := rfl
@[simp] theorem State.emptyRetest_loader : (s.emptyRetest).loader = s.loader := rfl
@[simp] theorem State.emptyRetest_lines : (s.emptyRetest).lines = s.lines := rfl
@[simp] theorem State.emptyRetest_nestA : (s.emptyRetest).nestA = s.nestA := rfl
@[simp] theorem State.emptyRetest_nestB : (s.emptyRetest).nestB = s.nestB := rfl
@[simp] theorem State.emptyRetest_chain : (s.emptyRetest).chain = s.chain := rfl
@[simp] theorem State.emptyRetest_gen : (s.emptyRetest).gen = s.gen := rfl
@[simp] theorem State.emptyRetest_capture : (s.emptyRetest).capture = s.capture := rfl
@[simp] theorem State.emptyRetest_engine : (s.emptyRetest).engine = s.engine := rfl
@[simp] theorem State.emptyRetest_marker : (s.emptyRetest).marker = s.marker := rfl
@[simp] theorem State.emptyRetest_freeCount : (s.emptyRetest).freeCount = s.freeCount := rfl
@[simp] theorem State.emptyRetest_pending : (s.emptyRetest).pending = s.pending := rfl

/-! ### spendVerification -/

@[simp] theorem State.spendVerification_hold : (s.spendVerification).hold = s.hold := by
  unfold State.spendVerification; try dsimp only
  repeat' split
  all_goals first | rfl | simp
@[simp] theorem State.spendVerification_straps : (s.spendVerification).straps = s.straps := by
  unfold State.spendVerification; try dsimp only
  repeat' split
  all_goals first | rfl | simp
@[simp] theorem State.spendVerification_loader : (s.spendVerification).loader = s.loader := by
  unfold State.spendVerification; try dsimp only
  repeat' split
  all_goals first | rfl | simp
@[simp] theorem State.spendVerification_lines : (s.spendVerification).lines = s.lines := by
  unfold State.spendVerification; try dsimp only
  repeat' split
  all_goals first | rfl | simp
@[simp] theorem State.spendVerification_nestA : (s.spendVerification).nestA = s.nestA := by
  unfold State.spendVerification; try dsimp only
  repeat' split
  all_goals first | rfl | simp
@[simp] theorem State.spendVerification_nestB : (s.spendVerification).nestB = s.nestB := by
  unfold State.spendVerification; try dsimp only
  repeat' split
  all_goals first | rfl | simp
@[simp] theorem State.spendVerification_chain : (s.spendVerification).chain = s.chain := by
  unfold State.spendVerification; try dsimp only
  repeat' split
  all_goals first | rfl | simp
@[simp] theorem State.spendVerification_gen : (s.spendVerification).gen = s.gen := by
  unfold State.spendVerification; try dsimp only
  repeat' split
  all_goals first | rfl | simp
@[simp] theorem State.spendVerification_capture : (s.spendVerification).capture = s.capture := by
  unfold State.spendVerification; try dsimp only
  repeat' split
  all_goals first | rfl | simp
@[simp] theorem State.spendVerification_engine : (s.spendVerification).engine = s.engine := by
  unfold State.spendVerification; try dsimp only
  repeat' split
  all_goals first | rfl | simp
@[simp] theorem State.spendVerification_accounts : (s.spendVerification).accounts = s.accounts := by
  unfold State.spendVerification; try dsimp only
  repeat' split
  all_goals first | rfl | simp
@[simp] theorem State.spendVerification_marker : (s.spendVerification).marker = s.marker := by
  unfold State.spendVerification; try dsimp only
  repeat' split
  all_goals first | rfl | simp
@[simp] theorem State.spendVerification_freeCount : (s.spendVerification).freeCount = s.freeCount := by
  unfold State.spendVerification; try dsimp only
  repeat' split
  all_goals first | rfl | simp
@[simp] theorem State.spendVerification_pending : (s.spendVerification).pending = s.pending := by
  unfold State.spendVerification; try dsimp only
  repeat' split
  all_goals first | rfl | simp

/-! ### referenceVerdict -/

@[simp] theorem State.referenceVerdict_hold (n : NestId) (v : Verdict) : (s.referenceVerdict n v).hold = s.hold := by
  unfold State.referenceVerdict; repeat' split
  all_goals rfl
@[simp] theorem State.referenceVerdict_straps (n : NestId) (v : Verdict) : (s.referenceVerdict n v).straps = s.straps := by
  unfold State.referenceVerdict; repeat' split
  all_goals rfl
@[simp] theorem State.referenceVerdict_loader (n : NestId) (v : Verdict) : (s.referenceVerdict n v).loader = s.loader := by
  unfold State.referenceVerdict; repeat' split
  all_goals rfl
@[simp] theorem State.referenceVerdict_lines (n : NestId) (v : Verdict) : (s.referenceVerdict n v).lines = s.lines := by
  unfold State.referenceVerdict; repeat' split
  all_goals rfl
@[simp] theorem State.referenceVerdict_nestA (n : NestId) (v : Verdict) : (s.referenceVerdict n v).nestA = s.nestA := by
  unfold State.referenceVerdict; repeat' split
  all_goals rfl
@[simp] theorem State.referenceVerdict_nestB (n : NestId) (v : Verdict) : (s.referenceVerdict n v).nestB = s.nestB := by
  unfold State.referenceVerdict; repeat' split
  all_goals rfl
@[simp] theorem State.referenceVerdict_chain (n : NestId) (v : Verdict) : (s.referenceVerdict n v).chain = s.chain := by
  unfold State.referenceVerdict; repeat' split
  all_goals rfl
@[simp] theorem State.referenceVerdict_gen (n : NestId) (v : Verdict) : (s.referenceVerdict n v).gen = s.gen := by
  unfold State.referenceVerdict; repeat' split
  all_goals rfl
@[simp] theorem State.referenceVerdict_capture (n : NestId) (v : Verdict) : (s.referenceVerdict n v).capture = s.capture := by
  unfold State.referenceVerdict; repeat' split
  all_goals rfl
@[simp] theorem State.referenceVerdict_engine (n : NestId) (v : Verdict) : (s.referenceVerdict n v).engine = s.engine := by
  unfold State.referenceVerdict; repeat' split
  all_goals rfl
@[simp] theorem State.referenceVerdict_accounts (n : NestId) (v : Verdict) : (s.referenceVerdict n v).accounts = s.accounts := by
  unfold State.referenceVerdict; repeat' split
  all_goals rfl
@[simp] theorem State.referenceVerdict_marker (n : NestId) (v : Verdict) : (s.referenceVerdict n v).marker = s.marker := by
  unfold State.referenceVerdict; repeat' split
  all_goals rfl
@[simp] theorem State.referenceVerdict_freeCount (n : NestId) (v : Verdict) : (s.referenceVerdict n v).freeCount = s.freeCount := by
  unfold State.referenceVerdict; repeat' split
  all_goals rfl
@[simp] theorem State.referenceVerdict_pending (n : NestId) (v : Verdict) : (s.referenceVerdict n v).pending = s.pending := by
  unfold State.referenceVerdict; repeat' split
  all_goals rfl

/-! ### countFails -/

@[simp] theorem State.countFails_hold (v : Verdict) : (s.countFails v).hold = s.hold := by
  unfold State.countFails; try dsimp only
  repeat' split
  all_goals first | rfl | simp
@[simp] theorem State.countFails_straps (v : Verdict) : (s.countFails v).straps = s.straps := by
  unfold State.countFails; try dsimp only
  repeat' split
  all_goals first | rfl | simp
@[simp] theorem State.countFails_loader (v : Verdict) : (s.countFails v).loader = s.loader := by
  unfold State.countFails; try dsimp only
  repeat' split
  all_goals first | rfl | simp
@[simp] theorem State.countFails_lines (v : Verdict) : (s.countFails v).lines = s.lines := by
  unfold State.countFails; try dsimp only
  repeat' split
  all_goals first | rfl | simp
@[simp] theorem State.countFails_nestA (v : Verdict) : (s.countFails v).nestA = s.nestA := by
  unfold State.countFails; try dsimp only
  repeat' split
  all_goals first | rfl | simp
@[simp] theorem State.countFails_nestB (v : Verdict) : (s.countFails v).nestB = s.nestB := by
  unfold State.countFails; try dsimp only
  repeat' split
  all_goals first | rfl | simp
@[simp] theorem State.countFails_chain (v : Verdict) : (s.countFails v).chain = s.chain := by
  unfold State.countFails; try dsimp only
  repeat' split
  all_goals first | rfl | simp
@[simp] theorem State.countFails_gen (v : Verdict) : (s.countFails v).gen = s.gen := by
  unfold State.countFails; try dsimp only
  repeat' split
  all_goals first | rfl | simp
@[simp] theorem State.countFails_capture (v : Verdict) : (s.countFails v).capture = s.capture := by
  unfold State.countFails; try dsimp only
  repeat' split
  all_goals first | rfl | simp
@[simp] theorem State.countFails_engine (v : Verdict) : (s.countFails v).engine = s.engine := by
  unfold State.countFails; try dsimp only
  repeat' split
  all_goals first | rfl | simp
@[simp] theorem State.countFails_accounts (v : Verdict) : (s.countFails v).accounts = s.accounts := by
  unfold State.countFails; try dsimp only
  repeat' split
  all_goals first | rfl | simp
@[simp] theorem State.countFails_marker (v : Verdict) : (s.countFails v).marker = s.marker := by
  unfold State.countFails; try dsimp only
  repeat' split
  all_goals first | rfl | simp
@[simp] theorem State.countFails_freeCount (v : Verdict) : (s.countFails v).freeCount = s.freeCount := by
  unfold State.countFails; try dsimp only
  repeat' split
  all_goals first | rfl | simp
@[simp] theorem State.countFails_pending (v : Verdict) : (s.countFails v).pending = s.pending := by
  unfold State.countFails; try dsimp only
  repeat' split
  all_goals first | rfl | simp

/-! ### remapLines -/

@[simp] theorem State.remapLines_hold : (s.remapLines).hold = s.hold := rfl
@[simp] theorem State.remapLines_straps : (s.remapLines).straps = s.straps := rfl
@[simp] theorem State.remapLines_station : (s.remapLines).station = s.station := rfl
@[simp] theorem State.remapLines_line : (s.remapLines).line = s.line := rfl
@[simp] theorem State.remapLines_loader : (s.remapLines).loader = s.loader := rfl
@[simp] theorem State.remapLines_nestA : (s.remapLines).nestA = s.nestA := rfl
@[simp] theorem State.remapLines_nestB : (s.remapLines).nestB = s.nestB := rfl
@[simp] theorem State.remapLines_chain : (s.remapLines).chain = s.chain := rfl
@[simp] theorem State.remapLines_gen : (s.remapLines).gen = s.gen := rfl
@[simp] theorem State.remapLines_capture : (s.remapLines).capture = s.capture := rfl
@[simp] theorem State.remapLines_engine : (s.remapLines).engine = s.engine := rfl
@[simp] theorem State.remapLines_units : (s.remapLines).units = s.units := rfl
@[simp] theorem State.remapLines_accounts : (s.remapLines).accounts = s.accounts := rfl
@[simp] theorem State.remapLines_marker : (s.remapLines).marker = s.marker := rfl
@[simp] theorem State.remapLines_freeCount : (s.remapLines).freeCount = s.freeCount := rfl
@[simp] theorem State.remapLines_pending : (s.remapLines).pending = s.pending := rfl

/-! ### startBus -/

@[simp] theorem State.startBus_hold : (s.startBus).hold = s.hold := by
  unfold State.startBus; repeat' split
  all_goals rfl
@[simp] theorem State.startBus_straps : (s.startBus).straps = s.straps := by
  unfold State.startBus; repeat' split
  all_goals rfl
@[simp] theorem State.startBus_station : (s.startBus).station = s.station := by
  unfold State.startBus; repeat' split
  all_goals rfl
@[simp] theorem State.startBus_line : (s.startBus).line = s.line := by
  unfold State.startBus; repeat' split
  all_goals rfl
@[simp] theorem State.startBus_loader : (s.startBus).loader = s.loader := by
  unfold State.startBus; repeat' split
  all_goals rfl
@[simp] theorem State.startBus_lines : (s.startBus).lines = s.lines := by
  unfold State.startBus; repeat' split
  all_goals rfl
@[simp] theorem State.startBus_nestA : (s.startBus).nestA = s.nestA := by
  unfold State.startBus; repeat' split
  all_goals rfl
@[simp] theorem State.startBus_nestB : (s.startBus).nestB = s.nestB := by
  unfold State.startBus; repeat' split
  all_goals rfl
@[simp] theorem State.startBus_chain : (s.startBus).chain = s.chain := by
  unfold State.startBus; repeat' split
  all_goals rfl
@[simp] theorem State.startBus_gen : (s.startBus).gen = s.gen := by
  unfold State.startBus; repeat' split
  all_goals rfl
@[simp] theorem State.startBus_capture : (s.startBus).capture = s.capture := by
  unfold State.startBus; repeat' split
  all_goals rfl
@[simp] theorem State.startBus_engine : (s.startBus).engine = s.engine := by
  unfold State.startBus; repeat' split
  all_goals rfl
@[simp] theorem State.startBus_units : (s.startBus).units = s.units := by
  unfold State.startBus; repeat' split
  all_goals rfl
@[simp] theorem State.startBus_accounts : (s.startBus).accounts = s.accounts := by
  unfold State.startBus; repeat' split
  all_goals rfl
@[simp] theorem State.startBus_freeCount : (s.startBus).freeCount = s.freeCount := by
  unfold State.startBus; repeat' split
  all_goals rfl
@[simp] theorem State.startBus_pending : (s.startBus).pending = s.pending := by
  unfold State.startBus; repeat' split
  all_goals rfl

/-! ### admitWaiting -/

@[simp] theorem State.admitWaiting_hold : (s.admitWaiting).hold = s.hold := by unfold State.admitWaiting; split <;> simp
@[simp] theorem State.admitWaiting_straps : (s.admitWaiting).straps = s.straps := by unfold State.admitWaiting; split <;> simp
@[simp] theorem State.admitWaiting_station : (s.admitWaiting).station = s.station := by unfold State.admitWaiting; split <;> simp
@[simp] theorem State.admitWaiting_line : (s.admitWaiting).line = s.line := by unfold State.admitWaiting; split <;> simp
@[simp] theorem State.admitWaiting_loader : (s.admitWaiting).loader = s.loader := by unfold State.admitWaiting; split <;> simp
@[simp] theorem State.admitWaiting_lines : (s.admitWaiting).lines = s.lines := by unfold State.admitWaiting; split <;> simp
@[simp] theorem State.admitWaiting_chain : (s.admitWaiting).chain = s.chain := by unfold State.admitWaiting; split <;> simp
@[simp] theorem State.admitWaiting_gen : (s.admitWaiting).gen = s.gen := by unfold State.admitWaiting; split <;> simp
@[simp] theorem State.admitWaiting_capture : (s.admitWaiting).capture = s.capture := by unfold State.admitWaiting; split <;> simp
@[simp] theorem State.admitWaiting_engine : (s.admitWaiting).engine = s.engine := by unfold State.admitWaiting; split <;> simp
@[simp] theorem State.admitWaiting_units : (s.admitWaiting).units = s.units := by unfold State.admitWaiting; split <;> simp
@[simp] theorem State.admitWaiting_accounts : (s.admitWaiting).accounts = s.accounts := by unfold State.admitWaiting; split <;> simp
@[simp] theorem State.admitWaiting_freeCount : (s.admitWaiting).freeCount = s.freeCount := by unfold State.admitWaiting; split <;> simp
@[simp] theorem State.admitWaiting_pending : (s.admitWaiting).pending = s.pending := by unfold State.admitWaiting; split <;> simp

/-! ### dropHead -/

@[simp] theorem State.dropHead_hold : (s.dropHead).hold = s.hold := by simp [State.dropHead]
@[simp] theorem State.dropHead_straps : (s.dropHead).straps = s.straps := by simp [State.dropHead]
@[simp] theorem State.dropHead_station : (s.dropHead).station = s.station := by simp [State.dropHead]
@[simp] theorem State.dropHead_line : (s.dropHead).line = s.line := by simp [State.dropHead]
@[simp] theorem State.dropHead_loader : (s.dropHead).loader = s.loader := by simp [State.dropHead]
@[simp] theorem State.dropHead_lines : (s.dropHead).lines = s.lines := by simp [State.dropHead]
@[simp] theorem State.dropHead_chain : (s.dropHead).chain = s.chain := by simp [State.dropHead]
@[simp] theorem State.dropHead_gen : (s.dropHead).gen = s.gen := by simp [State.dropHead]
@[simp] theorem State.dropHead_capture : (s.dropHead).capture = s.capture := by simp [State.dropHead]
@[simp] theorem State.dropHead_engine : (s.dropHead).engine = s.engine := by simp [State.dropHead]
@[simp] theorem State.dropHead_units : (s.dropHead).units = s.units := by simp [State.dropHead]
@[simp] theorem State.dropHead_accounts : (s.dropHead).accounts = s.accounts := by simp [State.dropHead]
@[simp] theorem State.dropHead_freeCount : (s.dropHead).freeCount = s.freeCount := by simp [State.dropHead]
@[simp] theorem State.dropHead_pending : (s.dropHead).pending = s.pending := by simp [State.dropHead]

/-! ### failHead -/

@[simp] theorem State.failHead_hold (c : JobFault) : (s.failHead c).hold = s.hold := by unfold State.failHead; split <;> simp
@[simp] theorem State.failHead_straps (c : JobFault) : (s.failHead c).straps = s.straps := by unfold State.failHead; split <;> simp
@[simp] theorem State.failHead_loader (c : JobFault) : (s.failHead c).loader = s.loader := by unfold State.failHead; split <;> simp
@[simp] theorem State.failHead_lines (c : JobFault) : (s.failHead c).lines = s.lines := by unfold State.failHead; split <;> simp
@[simp] theorem State.failHead_chain (c : JobFault) : (s.failHead c).chain = s.chain := by unfold State.failHead; split <;> simp
@[simp] theorem State.failHead_gen (c : JobFault) : (s.failHead c).gen = s.gen := by unfold State.failHead; split <;> simp
@[simp] theorem State.failHead_capture (c : JobFault) : (s.failHead c).capture = s.capture := by unfold State.failHead; split <;> simp
@[simp] theorem State.failHead_engine (c : JobFault) : (s.failHead c).engine = s.engine := by unfold State.failHead; split <;> simp
@[simp] theorem State.failHead_units (c : JobFault) : (s.failHead c).units = s.units := by unfold State.failHead; split <;> simp
@[simp] theorem State.failHead_accounts (c : JobFault) : (s.failHead c).accounts = s.accounts := by unfold State.failHead; split <;> simp
@[simp] theorem State.failHead_freeCount (c : JobFault) : (s.failHead c).freeCount = s.freeCount := by unfold State.failHead; split <;> simp
@[simp] theorem State.failHead_pending (c : JobFault) : (s.failHead c).pending = s.pending := by unfold State.failHead; split <;> simp

/-! ### nextHead -/

theorem State.makeHead_hold (k : Nat) : (State.makeHead k s).hold = s.hold := by
  induction k generalizing s with
  | zero => rfl
  | succ k ih =>
    simp only [State.makeHead]
    repeat' split
    all_goals simp [ih]
theorem State.makeHead_straps (k : Nat) : (State.makeHead k s).straps = s.straps := by
  induction k generalizing s with
  | zero => rfl
  | succ k ih =>
    simp only [State.makeHead]
    repeat' split
    all_goals simp [ih]
theorem State.makeHead_loader (k : Nat) : (State.makeHead k s).loader = s.loader := by
  induction k generalizing s with
  | zero => rfl
  | succ k ih =>
    simp only [State.makeHead]
    repeat' split
    all_goals simp [ih]
theorem State.makeHead_lines (k : Nat) : (State.makeHead k s).lines = s.lines := by
  induction k generalizing s with
  | zero => rfl
  | succ k ih =>
    simp only [State.makeHead]
    repeat' split
    all_goals simp [ih]
theorem State.makeHead_chain (k : Nat) : (State.makeHead k s).chain = s.chain := by
  induction k generalizing s with
  | zero => rfl
  | succ k ih =>
    simp only [State.makeHead]
    repeat' split
    all_goals simp [ih]
theorem State.makeHead_gen (k : Nat) : (State.makeHead k s).gen = s.gen := by
  induction k generalizing s with
  | zero => rfl
  | succ k ih =>
    simp only [State.makeHead]
    repeat' split
    all_goals simp [ih]
theorem State.makeHead_capture (k : Nat) : (State.makeHead k s).capture = s.capture := by
  induction k generalizing s with
  | zero => rfl
  | succ k ih =>
    simp only [State.makeHead]
    repeat' split
    all_goals simp [ih]
theorem State.makeHead_engine (k : Nat) : (State.makeHead k s).engine = s.engine := by
  induction k generalizing s with
  | zero => rfl
  | succ k ih =>
    simp only [State.makeHead]
    repeat' split
    all_goals simp [ih]
theorem State.makeHead_units (k : Nat) : (State.makeHead k s).units = s.units := by
  induction k generalizing s with
  | zero => rfl
  | succ k ih =>
    simp only [State.makeHead]
    repeat' split
    all_goals simp [ih]
theorem State.makeHead_accounts (k : Nat) : (State.makeHead k s).accounts = s.accounts := by
  induction k generalizing s with
  | zero => rfl
  | succ k ih =>
    simp only [State.makeHead]
    repeat' split
    all_goals simp [ih]
theorem State.makeHead_freeCount (k : Nat) : (State.makeHead k s).freeCount = s.freeCount := by
  induction k generalizing s with
  | zero => rfl
  | succ k ih =>
    simp only [State.makeHead]
    repeat' split
    all_goals simp [ih]
theorem State.makeHead_pending (k : Nat) : (State.makeHead k s).pending = s.pending := by
  induction k generalizing s with
  | zero => rfl
  | succ k ih =>
    simp only [State.makeHead]
    repeat' split
    all_goals simp [ih]
@[simp] theorem State.nextHead_hold : (s.nextHead).hold = s.hold := s.makeHead_hold _
@[simp] theorem State.nextHead_straps : (s.nextHead).straps = s.straps := s.makeHead_straps _
@[simp] theorem State.nextHead_loader : (s.nextHead).loader = s.loader := s.makeHead_loader _
@[simp] theorem State.nextHead_lines : (s.nextHead).lines = s.lines := s.makeHead_lines _
@[simp] theorem State.nextHead_chain : (s.nextHead).chain = s.chain := s.makeHead_chain _
@[simp] theorem State.nextHead_gen : (s.nextHead).gen = s.gen := s.makeHead_gen _
@[simp] theorem State.nextHead_capture : (s.nextHead).capture = s.capture := s.makeHead_capture _
@[simp] theorem State.nextHead_engine : (s.nextHead).engine = s.engine := s.makeHead_engine _
@[simp] theorem State.nextHead_units : (s.nextHead).units = s.units := s.makeHead_units _
@[simp] theorem State.nextHead_accounts : (s.nextHead).accounts = s.accounts := s.makeHead_accounts _
@[simp] theorem State.nextHead_freeCount : (s.nextHead).freeCount = s.freeCount := s.makeHead_freeCount _
@[simp] theorem State.nextHead_pending : (s.nextHead).pending = s.pending := s.makeHead_pending _

/-! ### rematchHead -/

@[simp] theorem State.rematchHead_hold : (s.rematchHead).hold = s.hold := by
  unfold State.rematchHead; try dsimp only
  repeat' split
  all_goals first | rfl | simp
@[simp] theorem State.rematchHead_straps : (s.rematchHead).straps = s.straps := by
  unfold State.rematchHead; try dsimp only
  repeat' split
  all_goals first | rfl | simp
@[simp] theorem State.rematchHead_loader : (s.rematchHead).loader = s.loader := by
  unfold State.rematchHead; try dsimp only
  repeat' split
  all_goals first | rfl | simp
@[simp] theorem State.rematchHead_lines : (s.rematchHead).lines = s.lines := by
  unfold State.rematchHead; try dsimp only
  repeat' split
  all_goals first | rfl | simp
@[simp] theorem State.rematchHead_chain : (s.rematchHead).chain = s.chain := by
  unfold State.rematchHead; try dsimp only
  repeat' split
  all_goals first | rfl | simp
@[simp] theorem State.rematchHead_gen : (s.rematchHead).gen = s.gen := by
  unfold State.rematchHead; try dsimp only
  repeat' split
  all_goals first | rfl | simp
@[simp] theorem State.rematchHead_capture : (s.rematchHead).capture = s.capture := by
  unfold State.rematchHead; try dsimp only
  repeat' split
  all_goals first | rfl | simp
@[simp] theorem State.rematchHead_engine : (s.rematchHead).engine = s.engine := by
  unfold State.rematchHead; try dsimp only
  repeat' split
  all_goals first | rfl | simp
@[simp] theorem State.rematchHead_units : (s.rematchHead).units = s.units := by
  unfold State.rematchHead; try dsimp only
  repeat' split
  all_goals first | rfl | simp
@[simp] theorem State.rematchHead_accounts : (s.rematchHead).accounts = s.accounts := by
  unfold State.rematchHead; try dsimp only
  repeat' split
  all_goals first | rfl | simp
@[simp] theorem State.rematchHead_freeCount : (s.rematchHead).freeCount = s.freeCount := by
  unfold State.rematchHead; try dsimp only
  repeat' split
  all_goals first | rfl | simp
@[simp] theorem State.rematchHead_pending : (s.rematchHead).pending = s.pending := by
  unfold State.rematchHead; try dsimp only
  repeat' split
  all_goals first | rfl | simp

/-! ### enqueue -/

@[simp] theorem State.enqueue_hold (j : Job) : (s.enqueue j).hold = s.hold := by
  unfold State.enqueue; try dsimp only
  repeat' split
  all_goals first | rfl | simp
@[simp] theorem State.enqueue_straps (j : Job) : (s.enqueue j).straps = s.straps := by
  unfold State.enqueue; try dsimp only
  repeat' split
  all_goals first | rfl | simp
@[simp] theorem State.enqueue_loader (j : Job) : (s.enqueue j).loader = s.loader := by
  unfold State.enqueue; try dsimp only
  repeat' split
  all_goals first | rfl | simp
@[simp] theorem State.enqueue_lines (j : Job) : (s.enqueue j).lines = s.lines := by
  unfold State.enqueue; try dsimp only
  repeat' split
  all_goals first | rfl | simp
@[simp] theorem State.enqueue_chain (j : Job) : (s.enqueue j).chain = s.chain := by
  unfold State.enqueue; try dsimp only
  repeat' split
  all_goals first | rfl | simp
@[simp] theorem State.enqueue_gen (j : Job) : (s.enqueue j).gen = s.gen := by
  unfold State.enqueue; try dsimp only
  repeat' split
  all_goals first | rfl | simp
@[simp] theorem State.enqueue_capture (j : Job) : (s.enqueue j).capture = s.capture := by
  unfold State.enqueue; try dsimp only
  repeat' split
  all_goals first | rfl | simp
@[simp] theorem State.enqueue_engine (j : Job) : (s.enqueue j).engine = s.engine := by
  unfold State.enqueue; try dsimp only
  repeat' split
  all_goals first | rfl | simp
@[simp] theorem State.enqueue_units (j : Job) : (s.enqueue j).units = s.units := by
  unfold State.enqueue; try dsimp only
  repeat' split
  all_goals first | rfl | simp
@[simp] theorem State.enqueue_accounts (j : Job) : (s.enqueue j).accounts = s.accounts := by
  unfold State.enqueue; try dsimp only
  repeat' split
  all_goals first | rfl | simp
@[simp] theorem State.enqueue_freeCount (j : Job) : (s.enqueue j).freeCount = s.freeCount := by
  unfold State.enqueue; try dsimp only
  repeat' split
  all_goals first | rfl | simp
@[simp] theorem State.enqueue_pending (j : Job) : (s.enqueue j).pending = s.pending := by
  unfold State.enqueue; try dsimp only
  repeat' split
  all_goals first | rfl | simp

/-! ### completeHead -/

@[simp] theorem State.completeHead_hold (d : Nat) : (s.completeHead d).hold = s.hold := by unfold State.completeHead; split <;> simp
@[simp] theorem State.completeHead_straps (d : Nat) : (s.completeHead d).straps = s.straps := by unfold State.completeHead; split <;> simp
@[simp] theorem State.completeHead_loader (d : Nat) : (s.completeHead d).loader = s.loader := by unfold State.completeHead; split <;> simp
@[simp] theorem State.completeHead_lines (d : Nat) : (s.completeHead d).lines = s.lines := by unfold State.completeHead; split <;> simp
@[simp] theorem State.completeHead_chain (d : Nat) : (s.completeHead d).chain = s.chain := by unfold State.completeHead; split <;> simp
@[simp] theorem State.completeHead_gen (d : Nat) : (s.completeHead d).gen = s.gen := by unfold State.completeHead; split <;> simp
@[simp] theorem State.completeHead_capture (d : Nat) : (s.completeHead d).capture = s.capture := by unfold State.completeHead; split <;> simp
@[simp] theorem State.completeHead_engine (d : Nat) : (s.completeHead d).engine = s.engine := by unfold State.completeHead; split <;> simp
@[simp] theorem State.completeHead_units (d : Nat) : (s.completeHead d).units = s.units := by unfold State.completeHead; split <;> simp
@[simp] theorem State.completeHead_accounts (d : Nat) : (s.completeHead d).accounts = s.accounts := by unfold State.completeHead; split <;> simp
@[simp] theorem State.completeHead_freeCount (d : Nat) : (s.completeHead d).freeCount = s.freeCount := by unfold State.completeHead; split <;> simp
@[simp] theorem State.completeHead_pending (d : Nat) : (s.completeHead d).pending = s.pending := by unfold State.completeHead; split <;> simp

/-! ### faultDevice -/

@[simp] theorem State.faultDevice_hold (d : Nat) (c : DeviceFault) : (s.faultDevice d c).hold = s.hold := by
  unfold State.faultDevice; try dsimp only
  repeat' split
  all_goals first | rfl | simp
@[simp] theorem State.faultDevice_straps (d : Nat) (c : DeviceFault) : (s.faultDevice d c).straps = s.straps := by
  unfold State.faultDevice; try dsimp only
  repeat' split
  all_goals first | rfl | simp
@[simp] theorem State.faultDevice_loader (d : Nat) (c : DeviceFault) : (s.faultDevice d c).loader = s.loader := by
  unfold State.faultDevice; try dsimp only
  repeat' split
  all_goals first | rfl | simp
@[simp] theorem State.faultDevice_lines (d : Nat) (c : DeviceFault) : (s.faultDevice d c).lines = s.lines := by
  unfold State.faultDevice; try dsimp only
  repeat' split
  all_goals first | rfl | simp
@[simp] theorem State.faultDevice_chain (d : Nat) (c : DeviceFault) : (s.faultDevice d c).chain = s.chain := by
  unfold State.faultDevice; try dsimp only
  repeat' split
  all_goals first | rfl | simp
@[simp] theorem State.faultDevice_gen (d : Nat) (c : DeviceFault) : (s.faultDevice d c).gen = s.gen := by
  unfold State.faultDevice; try dsimp only
  repeat' split
  all_goals first | rfl | simp
@[simp] theorem State.faultDevice_capture (d : Nat) (c : DeviceFault) : (s.faultDevice d c).capture = s.capture := by
  unfold State.faultDevice; try dsimp only
  repeat' split
  all_goals first | rfl | simp
@[simp] theorem State.faultDevice_engine (d : Nat) (c : DeviceFault) : (s.faultDevice d c).engine = s.engine := by
  unfold State.faultDevice; try dsimp only
  repeat' split
  all_goals first | rfl | simp
@[simp] theorem State.faultDevice_units (d : Nat) (c : DeviceFault) : (s.faultDevice d c).units = s.units := by
  unfold State.faultDevice; try dsimp only
  repeat' split
  all_goals first | rfl | simp
@[simp] theorem State.faultDevice_accounts (d : Nat) (c : DeviceFault) : (s.faultDevice d c).accounts = s.accounts := by
  unfold State.faultDevice; try dsimp only
  repeat' split
  all_goals first | rfl | simp
@[simp] theorem State.faultDevice_freeCount (d : Nat) (c : DeviceFault) : (s.faultDevice d c).freeCount = s.freeCount := by
  unfold State.faultDevice; try dsimp only
  repeat' split
  all_goals first | rfl | simp
@[simp] theorem State.faultDevice_pending (d : Nat) (c : DeviceFault) : (s.faultDevice d c).pending = s.pending := by
  unfold State.faultDevice; try dsimp only
  repeat' split
  all_goals first | rfl | simp

/-! ### readyDevice -/

@[simp] theorem State.readyDevice_hold (d f : Nat) : (s.readyDevice d f).hold = s.hold := by
  unfold State.readyDevice; try dsimp only
  repeat' split
  all_goals first | rfl | simp
@[simp] theorem State.readyDevice_straps (d f : Nat) : (s.readyDevice d f).straps = s.straps := by
  unfold State.readyDevice; try dsimp only
  repeat' split
  all_goals first | rfl | simp
@[simp] theorem State.readyDevice_station (d f : Nat) : (s.readyDevice d f).station = s.station := by
  unfold State.readyDevice; try dsimp only
  repeat' split
  all_goals first | rfl | simp
@[simp] theorem State.readyDevice_line (d f : Nat) : (s.readyDevice d f).line = s.line := by
  unfold State.readyDevice; try dsimp only
  repeat' split
  all_goals first | rfl | simp
@[simp] theorem State.readyDevice_loader (d f : Nat) : (s.readyDevice d f).loader = s.loader := by
  unfold State.readyDevice; try dsimp only
  repeat' split
  all_goals first | rfl | simp
@[simp] theorem State.readyDevice_lines (d f : Nat) : (s.readyDevice d f).lines = s.lines := by
  unfold State.readyDevice; try dsimp only
  repeat' split
  all_goals first | rfl | simp
@[simp] theorem State.readyDevice_nestA (d f : Nat) : (s.readyDevice d f).nestA = s.nestA := by
  unfold State.readyDevice; try dsimp only
  repeat' split
  all_goals first | rfl | simp
@[simp] theorem State.readyDevice_nestB (d f : Nat) : (s.readyDevice d f).nestB = s.nestB := by
  unfold State.readyDevice; try dsimp only
  repeat' split
  all_goals first | rfl | simp
@[simp] theorem State.readyDevice_chain (d f : Nat) : (s.readyDevice d f).chain = s.chain := by
  unfold State.readyDevice; try dsimp only
  repeat' split
  all_goals first | rfl | simp
@[simp] theorem State.readyDevice_gen (d f : Nat) : (s.readyDevice d f).gen = s.gen := by
  unfold State.readyDevice; try dsimp only
  repeat' split
  all_goals first | rfl | simp
@[simp] theorem State.readyDevice_capture (d f : Nat) : (s.readyDevice d f).capture = s.capture := by
  unfold State.readyDevice; try dsimp only
  repeat' split
  all_goals first | rfl | simp
@[simp] theorem State.readyDevice_engine (d f : Nat) : (s.readyDevice d f).engine = s.engine := by
  unfold State.readyDevice; try dsimp only
  repeat' split
  all_goals first | rfl | simp
@[simp] theorem State.readyDevice_units (d f : Nat) : (s.readyDevice d f).units = s.units := by
  unfold State.readyDevice; try dsimp only
  repeat' split
  all_goals first | rfl | simp
@[simp] theorem State.readyDevice_accounts (d f : Nat) : (s.readyDevice d f).accounts = s.accounts := by
  unfold State.readyDevice; try dsimp only
  repeat' split
  all_goals first | rfl | simp
@[simp] theorem State.readyDevice_freeCount (d f : Nat) : (s.readyDevice d f).freeCount = s.freeCount := by
  unfold State.readyDevice; try dsimp only
  repeat' split
  all_goals first | rfl | simp
@[simp] theorem State.readyDevice_pending (d f : Nat) : (s.readyDevice d f).pending = s.pending := by
  unfold State.readyDevice; try dsimp only
  repeat' split
  all_goals first | rfl | simp

/-! ### probeNak -/

@[simp] theorem State.probeNak_hold (d : Nat) : (s.probeNak d).hold = s.hold := by
  unfold State.probeNak; try dsimp only
  repeat' split
  all_goals first | rfl | simp
@[simp] theorem State.probeNak_straps (d : Nat) : (s.probeNak d).straps = s.straps := by
  unfold State.probeNak; try dsimp only
  repeat' split
  all_goals first | rfl | simp
@[simp] theorem State.probeNak_loader (d : Nat) : (s.probeNak d).loader = s.loader := by
  unfold State.probeNak; try dsimp only
  repeat' split
  all_goals first | rfl | simp
@[simp] theorem State.probeNak_lines (d : Nat) : (s.probeNak d).lines = s.lines := by
  unfold State.probeNak; try dsimp only
  repeat' split
  all_goals first | rfl | simp
@[simp] theorem State.probeNak_chain (d : Nat) : (s.probeNak d).chain = s.chain := by
  unfold State.probeNak; try dsimp only
  repeat' split
  all_goals first | rfl | simp
@[simp] theorem State.probeNak_gen (d : Nat) : (s.probeNak d).gen = s.gen := by
  unfold State.probeNak; try dsimp only
  repeat' split
  all_goals first | rfl | simp
@[simp] theorem State.probeNak_capture (d : Nat) : (s.probeNak d).capture = s.capture := by
  unfold State.probeNak; try dsimp only
  repeat' split
  all_goals first | rfl | simp
@[simp] theorem State.probeNak_engine (d : Nat) : (s.probeNak d).engine = s.engine := by
  unfold State.probeNak; try dsimp only
  repeat' split
  all_goals first | rfl | simp
@[simp] theorem State.probeNak_units (d : Nat) : (s.probeNak d).units = s.units := by
  unfold State.probeNak; try dsimp only
  repeat' split
  all_goals first | rfl | simp
@[simp] theorem State.probeNak_accounts (d : Nat) : (s.probeNak d).accounts = s.accounts := by
  unfold State.probeNak; try dsimp only
  repeat' split
  all_goals first | rfl | simp
@[simp] theorem State.probeNak_freeCount (d : Nat) : (s.probeNak d).freeCount = s.freeCount := by
  unfold State.probeNak; try dsimp only
  repeat' split
  all_goals first | rfl | simp
@[simp] theorem State.probeNak_pending (d : Nat) : (s.probeNak d).pending = s.pending := by
  unfold State.probeNak; try dsimp only
  repeat' split
  all_goals first | rfl | simp

/-! ### probePage -/

@[simp] theorem State.probePage_hold (d : Nat) (a : Abilities) : (s.probePage d a).hold = s.hold := by
  unfold State.probePage; try dsimp only
  repeat' split
  all_goals first | rfl | simp
@[simp] theorem State.probePage_straps (d : Nat) (a : Abilities) : (s.probePage d a).straps = s.straps := by
  unfold State.probePage; try dsimp only
  repeat' split
  all_goals first | rfl | simp
@[simp] theorem State.probePage_loader (d : Nat) (a : Abilities) : (s.probePage d a).loader = s.loader := by
  unfold State.probePage; try dsimp only
  repeat' split
  all_goals first | rfl | simp
@[simp] theorem State.probePage_lines (d : Nat) (a : Abilities) : (s.probePage d a).lines = s.lines := by
  unfold State.probePage; try dsimp only
  repeat' split
  all_goals first | rfl | simp
@[simp] theorem State.probePage_chain (d : Nat) (a : Abilities) : (s.probePage d a).chain = s.chain := by
  unfold State.probePage; try dsimp only
  repeat' split
  all_goals first | rfl | simp
@[simp] theorem State.probePage_gen (d : Nat) (a : Abilities) : (s.probePage d a).gen = s.gen := by
  unfold State.probePage; try dsimp only
  repeat' split
  all_goals first | rfl | simp
@[simp] theorem State.probePage_capture (d : Nat) (a : Abilities) : (s.probePage d a).capture = s.capture := by
  unfold State.probePage; try dsimp only
  repeat' split
  all_goals first | rfl | simp
@[simp] theorem State.probePage_engine (d : Nat) (a : Abilities) : (s.probePage d a).engine = s.engine := by
  unfold State.probePage; try dsimp only
  repeat' split
  all_goals first | rfl | simp
@[simp] theorem State.probePage_units (d : Nat) (a : Abilities) : (s.probePage d a).units = s.units := by
  unfold State.probePage; try dsimp only
  repeat' split
  all_goals first | rfl | simp
@[simp] theorem State.probePage_accounts (d : Nat) (a : Abilities) : (s.probePage d a).accounts = s.accounts := by
  unfold State.probePage; try dsimp only
  repeat' split
  all_goals first | rfl | simp
@[simp] theorem State.probePage_freeCount (d : Nat) (a : Abilities) : (s.probePage d a).freeCount = s.freeCount := by
  unfold State.probePage; try dsimp only
  repeat' split
  all_goals first | rfl | simp
@[simp] theorem State.probePage_pending (d : Nat) (a : Abilities) : (s.probePage d a).pending = s.pending := by
  unfold State.probePage; try dsimp only
  repeat' split
  all_goals first | rfl | simp

/-! ### rebuildDevices -/

@[simp] theorem State.rebuildDevices_hold : (s.rebuildDevices).hold = s.hold := rfl
@[simp] theorem State.rebuildDevices_straps : (s.rebuildDevices).straps = s.straps := rfl
@[simp] theorem State.rebuildDevices_station : (s.rebuildDevices).station = s.station := rfl
@[simp] theorem State.rebuildDevices_line : (s.rebuildDevices).line = s.line := rfl
@[simp] theorem State.rebuildDevices_loader : (s.rebuildDevices).loader = s.loader := rfl
@[simp] theorem State.rebuildDevices_lines : (s.rebuildDevices).lines = s.lines := rfl
@[simp] theorem State.rebuildDevices_nestA : (s.rebuildDevices).nestA = s.nestA := rfl
@[simp] theorem State.rebuildDevices_nestB : (s.rebuildDevices).nestB = s.nestB := rfl
@[simp] theorem State.rebuildDevices_chain : (s.rebuildDevices).chain = s.chain := rfl
@[simp] theorem State.rebuildDevices_gen : (s.rebuildDevices).gen = s.gen := rfl
@[simp] theorem State.rebuildDevices_capture : (s.rebuildDevices).capture = s.capture := rfl
@[simp] theorem State.rebuildDevices_engine : (s.rebuildDevices).engine = s.engine := rfl
@[simp] theorem State.rebuildDevices_units : (s.rebuildDevices).units = s.units := rfl
@[simp] theorem State.rebuildDevices_accounts : (s.rebuildDevices).accounts = s.accounts := rfl
@[simp] theorem State.rebuildDevices_freeCount : (s.rebuildDevices).freeCount = s.freeCount := rfl
@[simp] theorem State.rebuildDevices_pending : (s.rebuildDevices).pending = s.pending := rfl

/-! ### remapMarker -/

@[simp] theorem State.remapMarker_hold : (s.remapMarker).hold = s.hold := by simp [State.remapMarker]
@[simp] theorem State.remapMarker_straps : (s.remapMarker).straps = s.straps := by simp [State.remapMarker]
@[simp] theorem State.remapMarker_loader : (s.remapMarker).loader = s.loader := by simp [State.remapMarker]
@[simp] theorem State.remapMarker_lines : (s.remapMarker).lines = s.lines := by simp [State.remapMarker]
@[simp] theorem State.remapMarker_chain : (s.remapMarker).chain = s.chain := by simp [State.remapMarker]
@[simp] theorem State.remapMarker_gen : (s.remapMarker).gen = s.gen := by simp [State.remapMarker]
@[simp] theorem State.remapMarker_capture : (s.remapMarker).capture = s.capture := by simp [State.remapMarker]
@[simp] theorem State.remapMarker_engine : (s.remapMarker).engine = s.engine := by simp [State.remapMarker]
@[simp] theorem State.remapMarker_units : (s.remapMarker).units = s.units := by simp [State.remapMarker]
@[simp] theorem State.remapMarker_accounts : (s.remapMarker).accounts = s.accounts := by simp [State.remapMarker]
@[simp] theorem State.remapMarker_freeCount : (s.remapMarker).freeCount = s.freeCount := by simp [State.remapMarker]
@[simp] theorem State.remapMarker_pending : (s.remapMarker).pending = s.pending := by simp [State.remapMarker]

/-! ### settleMarkerStart -/

@[simp] theorem State.settleMarkerStart_hold : (s.settleMarkerStart).hold = s.hold := by unfold State.settleMarkerStart; split <;> rfl
@[simp] theorem State.settleMarkerStart_straps : (s.settleMarkerStart).straps = s.straps := by unfold State.settleMarkerStart; split <;> rfl
@[simp] theorem State.settleMarkerStart_loader : (s.settleMarkerStart).loader = s.loader := by unfold State.settleMarkerStart; split <;> rfl
@[simp] theorem State.settleMarkerStart_lines : (s.settleMarkerStart).lines = s.lines := by unfold State.settleMarkerStart; split <;> rfl
@[simp] theorem State.settleMarkerStart_nestA : (s.settleMarkerStart).nestA = s.nestA := by unfold State.settleMarkerStart; split <;> rfl
@[simp] theorem State.settleMarkerStart_nestB : (s.settleMarkerStart).nestB = s.nestB := by unfold State.settleMarkerStart; split <;> rfl
@[simp] theorem State.settleMarkerStart_chain : (s.settleMarkerStart).chain = s.chain := by unfold State.settleMarkerStart; split <;> rfl
@[simp] theorem State.settleMarkerStart_gen : (s.settleMarkerStart).gen = s.gen := by unfold State.settleMarkerStart; split <;> rfl
@[simp] theorem State.settleMarkerStart_capture : (s.settleMarkerStart).capture = s.capture := by unfold State.settleMarkerStart; split <;> rfl
@[simp] theorem State.settleMarkerStart_engine : (s.settleMarkerStart).engine = s.engine := by unfold State.settleMarkerStart; split <;> rfl
@[simp] theorem State.settleMarkerStart_units : (s.settleMarkerStart).units = s.units := by unfold State.settleMarkerStart; split <;> rfl
@[simp] theorem State.settleMarkerStart_accounts : (s.settleMarkerStart).accounts = s.accounts := by unfold State.settleMarkerStart; split <;> rfl
@[simp] theorem State.settleMarkerStart_marker : (s.settleMarkerStart).marker = s.marker := by unfold State.settleMarkerStart; split <;> rfl
@[simp] theorem State.settleMarkerStart_freeCount : (s.settleMarkerStart).freeCount = s.freeCount := by unfold State.settleMarkerStart; split <;> rfl
@[simp] theorem State.settleMarkerStart_pending : (s.settleMarkerStart).pending = s.pending := by unfold State.settleMarkerStart; split <;> rfl

/-! ### silence -/

@[simp] theorem State.silence_hold : (s.silence).hold = s.hold := rfl
@[simp] theorem State.silence_straps : (s.silence).straps = s.straps := rfl
@[simp] theorem State.silence_station : (s.silence).station = s.station := rfl
@[simp] theorem State.silence_line : (s.silence).line = s.line := rfl
@[simp] theorem State.silence_loader : (s.silence).loader = s.loader := rfl
@[simp] theorem State.silence_lines : (s.silence).lines = s.lines := rfl
@[simp] theorem State.silence_nestA : (s.silence).nestA = s.nestA := rfl
@[simp] theorem State.silence_nestB : (s.silence).nestB = s.nestB := rfl
@[simp] theorem State.silence_chain : (s.silence).chain = s.chain := rfl
@[simp] theorem State.silence_engine : (s.silence).engine = s.engine := rfl
@[simp] theorem State.silence_units : (s.silence).units = s.units := rfl
@[simp] theorem State.silence_accounts : (s.silence).accounts = s.accounts := rfl
@[simp] theorem State.silence_marker : (s.silence).marker = s.marker := rfl
@[simp] theorem State.silence_freeCount : (s.silence).freeCount = s.freeCount := rfl
@[simp] theorem State.silence_pending : (s.silence).pending = s.pending := rfl

/-! ### fallSilent -/

@[simp] theorem State.fallSilent_hold : (s.fallSilent).hold = s.hold := rfl
@[simp] theorem State.fallSilent_straps : (s.fallSilent).straps = s.straps := rfl
@[simp] theorem State.fallSilent_station : (s.fallSilent).station = s.station := rfl
@[simp] theorem State.fallSilent_line : (s.fallSilent).line = s.line := rfl
@[simp] theorem State.fallSilent_loader : (s.fallSilent).loader = s.loader := rfl
@[simp] theorem State.fallSilent_lines : (s.fallSilent).lines = s.lines := rfl
@[simp] theorem State.fallSilent_nestA : (s.fallSilent).nestA = s.nestA := rfl
@[simp] theorem State.fallSilent_nestB : (s.fallSilent).nestB = s.nestB := rfl
@[simp] theorem State.fallSilent_chain : (s.fallSilent).chain = s.chain := rfl
@[simp] theorem State.fallSilent_capture : (s.fallSilent).capture = s.capture := rfl
@[simp] theorem State.fallSilent_engine : (s.fallSilent).engine = s.engine := rfl
@[simp] theorem State.fallSilent_units : (s.fallSilent).units = s.units := rfl
@[simp] theorem State.fallSilent_accounts : (s.fallSilent).accounts = s.accounts := rfl
@[simp] theorem State.fallSilent_marker : (s.fallSilent).marker = s.marker := rfl
@[simp] theorem State.fallSilent_freeCount : (s.fallSilent).freeCount = s.freeCount := rfl
@[simp] theorem State.fallSilent_pending : (s.fallSilent).pending = s.pending := rfl

/-! ### play -/

@[simp] theorem State.play_hold (k : Nat) : (s.play k).hold = s.hold := rfl
@[simp] theorem State.play_straps (k : Nat) : (s.play k).straps = s.straps := rfl
@[simp] theorem State.play_station (k : Nat) : (s.play k).station = s.station := rfl
@[simp] theorem State.play_line (k : Nat) : (s.play k).line = s.line := rfl
@[simp] theorem State.play_loader (k : Nat) : (s.play k).loader = s.loader := rfl
@[simp] theorem State.play_lines (k : Nat) : (s.play k).lines = s.lines := rfl
@[simp] theorem State.play_nestA (k : Nat) : (s.play k).nestA = s.nestA := rfl
@[simp] theorem State.play_nestB (k : Nat) : (s.play k).nestB = s.nestB := rfl
@[simp] theorem State.play_chain (k : Nat) : (s.play k).chain = s.chain := rfl
@[simp] theorem State.play_engine (k : Nat) : (s.play k).engine = s.engine := rfl
@[simp] theorem State.play_units (k : Nat) : (s.play k).units = s.units := rfl
@[simp] theorem State.play_accounts (k : Nat) : (s.play k).accounts = s.accounts := rfl
@[simp] theorem State.play_marker (k : Nat) : (s.play k).marker = s.marker := rfl
@[simp] theorem State.play_freeCount (k : Nat) : (s.play k).freeCount = s.freeCount := rfl
@[simp] theorem State.play_pending (k : Nat) : (s.play k).pending = s.pending := rfl

/-! ### beginWindow -/

@[simp] theorem State.beginWindow_hold (c : Claimant) (h : HalfId) : (s.beginWindow c h).hold = s.hold := by simp [State.beginWindow]
@[simp] theorem State.beginWindow_straps (c : Claimant) (h : HalfId) : (s.beginWindow c h).straps = s.straps := by simp [State.beginWindow]
@[simp] theorem State.beginWindow_station (c : Claimant) (h : HalfId) : (s.beginWindow c h).station = s.station := by simp [State.beginWindow]
@[simp] theorem State.beginWindow_line (c : Claimant) (h : HalfId) : (s.beginWindow c h).line = s.line := by simp [State.beginWindow]
@[simp] theorem State.beginWindow_loader (c : Claimant) (h : HalfId) : (s.beginWindow c h).loader = s.loader := by simp [State.beginWindow]
@[simp] theorem State.beginWindow_lines (c : Claimant) (h : HalfId) : (s.beginWindow c h).lines = s.lines := by simp [State.beginWindow]
@[simp] theorem State.beginWindow_nestA (c : Claimant) (h : HalfId) : (s.beginWindow c h).nestA = s.nestA := by simp [State.beginWindow]
@[simp] theorem State.beginWindow_nestB (c : Claimant) (h : HalfId) : (s.beginWindow c h).nestB = s.nestB := by simp [State.beginWindow]
@[simp] theorem State.beginWindow_chain (c : Claimant) (h : HalfId) : (s.beginWindow c h).chain = s.chain := by simp [State.beginWindow]
@[simp] theorem State.beginWindow_engine (c : Claimant) (h : HalfId) : (s.beginWindow c h).engine = s.engine := by simp [State.beginWindow]
@[simp] theorem State.beginWindow_units (c : Claimant) (h : HalfId) : (s.beginWindow c h).units = s.units := by simp [State.beginWindow]
@[simp] theorem State.beginWindow_accounts (c : Claimant) (h : HalfId) : (s.beginWindow c h).accounts = s.accounts := by simp [State.beginWindow]
@[simp] theorem State.beginWindow_marker (c : Claimant) (h : HalfId) : (s.beginWindow c h).marker = s.marker := by simp [State.beginWindow]
@[simp] theorem State.beginWindow_freeCount (c : Claimant) (h : HalfId) : (s.beginWindow c h).freeCount = s.freeCount := by simp [State.beginWindow]
@[simp] theorem State.beginWindow_pending (c : Claimant) (h : HalfId) : (s.beginWindow c h).pending = s.pending := by simp [State.beginWindow]

/-! ### beginIfDue -/

@[simp] theorem State.beginIfDue_hold : (s.beginIfDue).hold = s.hold := by unfold State.beginIfDue; split <;> simp
@[simp] theorem State.beginIfDue_straps : (s.beginIfDue).straps = s.straps := by unfold State.beginIfDue; split <;> simp
@[simp] theorem State.beginIfDue_station : (s.beginIfDue).station = s.station := by unfold State.beginIfDue; split <;> simp
@[simp] theorem State.beginIfDue_line : (s.beginIfDue).line = s.line := by unfold State.beginIfDue; split <;> simp
@[simp] theorem State.beginIfDue_loader : (s.beginIfDue).loader = s.loader := by unfold State.beginIfDue; split <;> simp
@[simp] theorem State.beginIfDue_lines : (s.beginIfDue).lines = s.lines := by unfold State.beginIfDue; split <;> simp
@[simp] theorem State.beginIfDue_nestA : (s.beginIfDue).nestA = s.nestA := by unfold State.beginIfDue; split <;> simp
@[simp] theorem State.beginIfDue_nestB : (s.beginIfDue).nestB = s.nestB := by unfold State.beginIfDue; split <;> simp
@[simp] theorem State.beginIfDue_chain : (s.beginIfDue).chain = s.chain := by unfold State.beginIfDue; split <;> simp
@[simp] theorem State.beginIfDue_engine : (s.beginIfDue).engine = s.engine := by unfold State.beginIfDue; split <;> simp
@[simp] theorem State.beginIfDue_units : (s.beginIfDue).units = s.units := by unfold State.beginIfDue; split <;> simp
@[simp] theorem State.beginIfDue_accounts : (s.beginIfDue).accounts = s.accounts := by unfold State.beginIfDue; split <;> simp
@[simp] theorem State.beginIfDue_marker : (s.beginIfDue).marker = s.marker := by unfold State.beginIfDue; split <;> simp
@[simp] theorem State.beginIfDue_freeCount : (s.beginIfDue).freeCount = s.freeCount := by unfold State.beginIfDue; split <;> simp
@[simp] theorem State.beginIfDue_pending : (s.beginIfDue).pending = s.pending := by unfold State.beginIfDue; split <;> simp

/-! ### stepOn -/

@[simp] theorem State.stepOn_hold : (s.stepOn).hold = s.hold := by
  unfold State.stepOn; try dsimp only
  repeat' split
  all_goals first | rfl | simp
@[simp] theorem State.stepOn_straps : (s.stepOn).straps = s.straps := by
  unfold State.stepOn; try dsimp only
  repeat' split
  all_goals first | rfl | simp
@[simp] theorem State.stepOn_station : (s.stepOn).station = s.station := by
  unfold State.stepOn; try dsimp only
  repeat' split
  all_goals first | rfl | simp
@[simp] theorem State.stepOn_line : (s.stepOn).line = s.line := by
  unfold State.stepOn; try dsimp only
  repeat' split
  all_goals first | rfl | simp
@[simp] theorem State.stepOn_loader : (s.stepOn).loader = s.loader := by
  unfold State.stepOn; try dsimp only
  repeat' split
  all_goals first | rfl | simp
@[simp] theorem State.stepOn_lines : (s.stepOn).lines = s.lines := by
  unfold State.stepOn; try dsimp only
  repeat' split
  all_goals first | rfl | simp
@[simp] theorem State.stepOn_nestA : (s.stepOn).nestA = s.nestA := by
  unfold State.stepOn; try dsimp only
  repeat' split
  all_goals first | rfl | simp
@[simp] theorem State.stepOn_nestB : (s.stepOn).nestB = s.nestB := by
  unfold State.stepOn; try dsimp only
  repeat' split
  all_goals first | rfl | simp
@[simp] theorem State.stepOn_chain : (s.stepOn).chain = s.chain := by
  unfold State.stepOn; try dsimp only
  repeat' split
  all_goals first | rfl | simp
@[simp] theorem State.stepOn_engine : (s.stepOn).engine = s.engine := by
  unfold State.stepOn; try dsimp only
  repeat' split
  all_goals first | rfl | simp
@[simp] theorem State.stepOn_units : (s.stepOn).units = s.units := by
  unfold State.stepOn; try dsimp only
  repeat' split
  all_goals first | rfl | simp
@[simp] theorem State.stepOn_accounts : (s.stepOn).accounts = s.accounts := by
  unfold State.stepOn; try dsimp only
  repeat' split
  all_goals first | rfl | simp
@[simp] theorem State.stepOn_marker : (s.stepOn).marker = s.marker := by
  unfold State.stepOn; try dsimp only
  repeat' split
  all_goals first | rfl | simp
@[simp] theorem State.stepOn_freeCount : (s.stepOn).freeCount = s.freeCount := by
  unfold State.stepOn; try dsimp only
  repeat' split
  all_goals first | rfl | simp
@[simp] theorem State.stepOn_pending : (s.stepOn).pending = s.pending := by
  unfold State.stepOn; try dsimp only
  repeat' split
  all_goals first | rfl | simp

/-! ### beginFadeOut -/

@[simp] theorem State.beginFadeOut_hold : (s.beginFadeOut).hold = s.hold := rfl
@[simp] theorem State.beginFadeOut_straps : (s.beginFadeOut).straps = s.straps := rfl
@[simp] theorem State.beginFadeOut_station : (s.beginFadeOut).station = s.station := rfl
@[simp] theorem State.beginFadeOut_line : (s.beginFadeOut).line = s.line := rfl
@[simp] theorem State.beginFadeOut_loader : (s.beginFadeOut).loader = s.loader := rfl
@[simp] theorem State.beginFadeOut_lines : (s.beginFadeOut).lines = s.lines := rfl
@[simp] theorem State.beginFadeOut_nestA : (s.beginFadeOut).nestA = s.nestA := rfl
@[simp] theorem State.beginFadeOut_nestB : (s.beginFadeOut).nestB = s.nestB := rfl
@[simp] theorem State.beginFadeOut_chain : (s.beginFadeOut).chain = s.chain := rfl
@[simp] theorem State.beginFadeOut_capture : (s.beginFadeOut).capture = s.capture := rfl
@[simp] theorem State.beginFadeOut_engine : (s.beginFadeOut).engine = s.engine := rfl
@[simp] theorem State.beginFadeOut_units : (s.beginFadeOut).units = s.units := rfl
@[simp] theorem State.beginFadeOut_accounts : (s.beginFadeOut).accounts = s.accounts := rfl
@[simp] theorem State.beginFadeOut_marker : (s.beginFadeOut).marker = s.marker := rfl
@[simp] theorem State.beginFadeOut_freeCount : (s.beginFadeOut).freeCount = s.freeCount := rfl
@[simp] theorem State.beginFadeOut_pending : (s.beginFadeOut).pending = s.pending := rfl

/-! ### startSweep -/

@[simp] theorem State.startSweep_hold (c : Claimant) : (s.startSweep c).hold = s.hold := rfl
@[simp] theorem State.startSweep_straps (c : Claimant) : (s.startSweep c).straps = s.straps := rfl
@[simp] theorem State.startSweep_station (c : Claimant) : (s.startSweep c).station = s.station := rfl
@[simp] theorem State.startSweep_line (c : Claimant) : (s.startSweep c).line = s.line := rfl
@[simp] theorem State.startSweep_loader (c : Claimant) : (s.startSweep c).loader = s.loader := rfl
@[simp] theorem State.startSweep_lines (c : Claimant) : (s.startSweep c).lines = s.lines := rfl
@[simp] theorem State.startSweep_nestA (c : Claimant) : (s.startSweep c).nestA = s.nestA := rfl
@[simp] theorem State.startSweep_nestB (c : Claimant) : (s.startSweep c).nestB = s.nestB := rfl
@[simp] theorem State.startSweep_chain (c : Claimant) : (s.startSweep c).chain = s.chain := rfl
@[simp] theorem State.startSweep_capture (c : Claimant) : (s.startSweep c).capture = s.capture := rfl
@[simp] theorem State.startSweep_engine (c : Claimant) : (s.startSweep c).engine = s.engine := rfl
@[simp] theorem State.startSweep_units (c : Claimant) : (s.startSweep c).units = s.units := rfl
@[simp] theorem State.startSweep_accounts (c : Claimant) : (s.startSweep c).accounts = s.accounts := rfl
@[simp] theorem State.startSweep_marker (c : Claimant) : (s.startSweep c).marker = s.marker := rfl
@[simp] theorem State.startSweep_freeCount (c : Claimant) : (s.startSweep c).freeCount = s.freeCount := rfl
@[simp] theorem State.startSweep_pending (c : Claimant) : (s.startSweep c).pending = s.pending := rfl

/-! ### enterChain -/

@[simp] theorem State.enterChain_hold (c : Claimant) : (s.enterChain c).hold = s.hold := by
  unfold State.enterChain; repeat' split
  all_goals simp
@[simp] theorem State.enterChain_straps (c : Claimant) : (s.enterChain c).straps = s.straps := by
  unfold State.enterChain; repeat' split
  all_goals simp
@[simp] theorem State.enterChain_station (c : Claimant) : (s.enterChain c).station = s.station := by
  unfold State.enterChain; repeat' split
  all_goals simp
@[simp] theorem State.enterChain_line (c : Claimant) : (s.enterChain c).line = s.line := by
  unfold State.enterChain; repeat' split
  all_goals simp
@[simp] theorem State.enterChain_loader (c : Claimant) : (s.enterChain c).loader = s.loader := by
  unfold State.enterChain; repeat' split
  all_goals simp
@[simp] theorem State.enterChain_lines (c : Claimant) : (s.enterChain c).lines = s.lines := by
  unfold State.enterChain; repeat' split
  all_goals simp
@[simp] theorem State.enterChain_gen (c : Claimant) : (s.enterChain c).gen = s.gen := by
  unfold State.enterChain; repeat' split
  all_goals simp
@[simp] theorem State.enterChain_capture (c : Claimant) : (s.enterChain c).capture = s.capture := by
  unfold State.enterChain; repeat' split
  all_goals simp
@[simp] theorem State.enterChain_engine (c : Claimant) : (s.enterChain c).engine = s.engine := by
  unfold State.enterChain; repeat' split
  all_goals simp
@[simp] theorem State.enterChain_accounts (c : Claimant) : (s.enterChain c).accounts = s.accounts := by
  unfold State.enterChain; repeat' split
  all_goals simp
@[simp] theorem State.enterChain_marker (c : Claimant) : (s.enterChain c).marker = s.marker := by
  unfold State.enterChain; repeat' split
  all_goals simp
@[simp] theorem State.enterChain_freeCount (c : Claimant) : (s.enterChain c).freeCount = s.freeCount := by
  unfold State.enterChain; repeat' split
  all_goals simp
@[simp] theorem State.enterChain_pending (c : Claimant) : (s.enterChain c).pending = s.pending := by
  unfold State.enterChain; repeat' split
  all_goals simp

/-! ### grant -/

@[simp] theorem State.grant_hold (c : Claimant) : (s.grant c).hold = s.hold := by simp [State.grant]
@[simp] theorem State.grant_straps (c : Claimant) : (s.grant c).straps = s.straps := by simp [State.grant]
@[simp] theorem State.grant_station (c : Claimant) : (s.grant c).station = s.station := by simp [State.grant]
@[simp] theorem State.grant_line (c : Claimant) : (s.grant c).line = s.line := by simp [State.grant]
@[simp] theorem State.grant_loader (c : Claimant) : (s.grant c).loader = s.loader := by simp [State.grant]
@[simp] theorem State.grant_lines (c : Claimant) : (s.grant c).lines = s.lines := by simp [State.grant]
@[simp] theorem State.grant_engine (c : Claimant) : (s.grant c).engine = s.engine := by simp [State.grant]
@[simp] theorem State.grant_accounts (c : Claimant) : (s.grant c).accounts = s.accounts := by simp [State.grant]
@[simp] theorem State.grant_marker (c : Claimant) : (s.grant c).marker = s.marker := by simp [State.grant]
@[simp] theorem State.grant_freeCount (c : Claimant) : (s.grant c).freeCount = s.freeCount := by simp [State.grant]
@[simp] theorem State.grant_pending (c : Claimant) : (s.grant c).pending = s.pending := by simp [State.grant]

/-! ### grantHead -/

@[simp] theorem State.grantHead_hold : (s.grantHead).hold = s.hold := by unfold State.grantHead; split <;> simp
@[simp] theorem State.grantHead_straps : (s.grantHead).straps = s.straps := by unfold State.grantHead; split <;> simp
@[simp] theorem State.grantHead_station : (s.grantHead).station = s.station := by unfold State.grantHead; split <;> simp
@[simp] theorem State.grantHead_line : (s.grantHead).line = s.line := by unfold State.grantHead; split <;> simp
@[simp] theorem State.grantHead_loader : (s.grantHead).loader = s.loader := by unfold State.grantHead; split <;> simp
@[simp] theorem State.grantHead_lines : (s.grantHead).lines = s.lines := by unfold State.grantHead; split <;> simp
@[simp] theorem State.grantHead_engine : (s.grantHead).engine = s.engine := by unfold State.grantHead; split <;> simp
@[simp] theorem State.grantHead_accounts : (s.grantHead).accounts = s.accounts := by unfold State.grantHead; split <;> simp
@[simp] theorem State.grantHead_marker : (s.grantHead).marker = s.marker := by unfold State.grantHead; split <;> simp
@[simp] theorem State.grantHead_freeCount : (s.grantHead).freeCount = s.freeCount := by unfold State.grantHead; split <;> simp
@[simp] theorem State.grantHead_pending : (s.grantHead).pending = s.pending := by unfold State.grantHead; split <;> simp

/-! ### freeChain -/

@[simp] theorem State.freeChain_hold : (s.freeChain).hold = s.hold := rfl
@[simp] theorem State.freeChain_straps : (s.freeChain).straps = s.straps := rfl
@[simp] theorem State.freeChain_station : (s.freeChain).station = s.station := rfl
@[simp] theorem State.freeChain_line : (s.freeChain).line = s.line := rfl
@[simp] theorem State.freeChain_loader : (s.freeChain).loader = s.loader := rfl
@[simp] theorem State.freeChain_lines : (s.freeChain).lines = s.lines := rfl
@[simp] theorem State.freeChain_nestA : (s.freeChain).nestA = s.nestA := rfl
@[simp] theorem State.freeChain_nestB : (s.freeChain).nestB = s.nestB := rfl
@[simp] theorem State.freeChain_gen : (s.freeChain).gen = s.gen := rfl
@[simp] theorem State.freeChain_capture : (s.freeChain).capture = s.capture := rfl
@[simp] theorem State.freeChain_engine : (s.freeChain).engine = s.engine := rfl
@[simp] theorem State.freeChain_units : (s.freeChain).units = s.units := rfl
@[simp] theorem State.freeChain_accounts : (s.freeChain).accounts = s.accounts := rfl
@[simp] theorem State.freeChain_marker : (s.freeChain).marker = s.marker := rfl
@[simp] theorem State.freeChain_freeCount : (s.freeChain).freeCount = s.freeCount := rfl
@[simp] theorem State.freeChain_pending : (s.freeChain).pending = s.pending := rfl

/-! ### joinQueue -/

@[simp] theorem State.joinQueue_hold (c : Claimant) : (s.joinQueue c).hold = s.hold := by simp [State.joinQueue]
@[simp] theorem State.joinQueue_straps (c : Claimant) : (s.joinQueue c).straps = s.straps := by simp [State.joinQueue]
@[simp] theorem State.joinQueue_station (c : Claimant) : (s.joinQueue c).station = s.station := by simp [State.joinQueue]
@[simp] theorem State.joinQueue_line (c : Claimant) : (s.joinQueue c).line = s.line := by simp [State.joinQueue]
@[simp] theorem State.joinQueue_loader (c : Claimant) : (s.joinQueue c).loader = s.loader := by simp [State.joinQueue]
@[simp] theorem State.joinQueue_lines (c : Claimant) : (s.joinQueue c).lines = s.lines := by simp [State.joinQueue]
@[simp] theorem State.joinQueue_engine (c : Claimant) : (s.joinQueue c).engine = s.engine := by simp [State.joinQueue]
@[simp] theorem State.joinQueue_accounts (c : Claimant) : (s.joinQueue c).accounts = s.accounts := by simp [State.joinQueue]
@[simp] theorem State.joinQueue_marker (c : Claimant) : (s.joinQueue c).marker = s.marker := by simp [State.joinQueue]
@[simp] theorem State.joinQueue_freeCount (c : Claimant) : (s.joinQueue c).freeCount = s.freeCount := by simp [State.joinQueue]
@[simp] theorem State.joinQueue_pending (c : Claimant) : (s.joinQueue c).pending = s.pending := by simp [State.joinQueue]

/-! ### leaveQueue -/

@[simp] theorem State.leaveQueue_hold (c : Claimant) : (s.leaveQueue c).hold = s.hold := rfl
@[simp] theorem State.leaveQueue_straps (c : Claimant) : (s.leaveQueue c).straps = s.straps := rfl
@[simp] theorem State.leaveQueue_station (c : Claimant) : (s.leaveQueue c).station = s.station := rfl
@[simp] theorem State.leaveQueue_line (c : Claimant) : (s.leaveQueue c).line = s.line := rfl
@[simp] theorem State.leaveQueue_loader (c : Claimant) : (s.leaveQueue c).loader = s.loader := rfl
@[simp] theorem State.leaveQueue_lines (c : Claimant) : (s.leaveQueue c).lines = s.lines := rfl
@[simp] theorem State.leaveQueue_nestA (c : Claimant) : (s.leaveQueue c).nestA = s.nestA := rfl
@[simp] theorem State.leaveQueue_nestB (c : Claimant) : (s.leaveQueue c).nestB = s.nestB := rfl
@[simp] theorem State.leaveQueue_gen (c : Claimant) : (s.leaveQueue c).gen = s.gen := rfl
@[simp] theorem State.leaveQueue_capture (c : Claimant) : (s.leaveQueue c).capture = s.capture := rfl
@[simp] theorem State.leaveQueue_engine (c : Claimant) : (s.leaveQueue c).engine = s.engine := rfl
@[simp] theorem State.leaveQueue_units (c : Claimant) : (s.leaveQueue c).units = s.units := rfl
@[simp] theorem State.leaveQueue_accounts (c : Claimant) : (s.leaveQueue c).accounts = s.accounts := rfl
@[simp] theorem State.leaveQueue_marker (c : Claimant) : (s.leaveQueue c).marker = s.marker := rfl
@[simp] theorem State.leaveQueue_freeCount (c : Claimant) : (s.leaveQueue c).freeCount = s.freeCount := rfl
@[simp] theorem State.leaveQueue_pending (c : Claimant) : (s.leaveQueue c).pending = s.pending := rfl

/-! ### freeWindows -/

@[simp] theorem State.freeWindows_hold (c : Claimant) : (s.freeWindows c).hold = s.hold := by
  unfold State.freeWindows; try dsimp only
  repeat' split
  all_goals first | rfl | simp
@[simp] theorem State.freeWindows_straps (c : Claimant) : (s.freeWindows c).straps = s.straps := by
  unfold State.freeWindows; try dsimp only
  repeat' split
  all_goals first | rfl | simp
@[simp] theorem State.freeWindows_station (c : Claimant) : (s.freeWindows c).station = s.station := by
  unfold State.freeWindows; try dsimp only
  repeat' split
  all_goals first | rfl | simp
@[simp] theorem State.freeWindows_line (c : Claimant) : (s.freeWindows c).line = s.line := by
  unfold State.freeWindows; try dsimp only
  repeat' split
  all_goals first | rfl | simp
@[simp] theorem State.freeWindows_loader (c : Claimant) : (s.freeWindows c).loader = s.loader := by
  unfold State.freeWindows; try dsimp only
  repeat' split
  all_goals first | rfl | simp
@[simp] theorem State.freeWindows_lines (c : Claimant) : (s.freeWindows c).lines = s.lines := by
  unfold State.freeWindows; try dsimp only
  repeat' split
  all_goals first | rfl | simp
@[simp] theorem State.freeWindows_nestA (c : Claimant) : (s.freeWindows c).nestA = s.nestA := by
  unfold State.freeWindows; try dsimp only
  repeat' split
  all_goals first | rfl | simp
@[simp] theorem State.freeWindows_nestB (c : Claimant) : (s.freeWindows c).nestB = s.nestB := by
  unfold State.freeWindows; try dsimp only
  repeat' split
  all_goals first | rfl | simp
@[simp] theorem State.freeWindows_chain (c : Claimant) : (s.freeWindows c).chain = s.chain := by
  unfold State.freeWindows; try dsimp only
  repeat' split
  all_goals first | rfl | simp
@[simp] theorem State.freeWindows_gen (c : Claimant) : (s.freeWindows c).gen = s.gen := by
  unfold State.freeWindows; try dsimp only
  repeat' split
  all_goals first | rfl | simp
@[simp] theorem State.freeWindows_units (c : Claimant) : (s.freeWindows c).units = s.units := by
  unfold State.freeWindows; try dsimp only
  repeat' split
  all_goals first | rfl | simp
@[simp] theorem State.freeWindows_accounts (c : Claimant) : (s.freeWindows c).accounts = s.accounts := by
  unfold State.freeWindows; try dsimp only
  repeat' split
  all_goals first | rfl | simp
@[simp] theorem State.freeWindows_marker (c : Claimant) : (s.freeWindows c).marker = s.marker := by
  unfold State.freeWindows; try dsimp only
  repeat' split
  all_goals first | rfl | simp
@[simp] theorem State.freeWindows_freeCount (c : Claimant) : (s.freeWindows c).freeCount = s.freeCount := by
  unfold State.freeWindows; try dsimp only
  repeat' split
  all_goals first | rfl | simp
@[simp] theorem State.freeWindows_pending (c : Claimant) : (s.freeWindows c).pending = s.pending := by
  unfold State.freeWindows; try dsimp only
  repeat' split
  all_goals first | rfl | simp

/-! ### beginAnalysis -/

@[simp] theorem State.beginAnalysis_hold : (s.beginAnalysis).hold = s.hold := by
  unfold State.beginAnalysis; repeat' split
  all_goals simp
@[simp] theorem State.beginAnalysis_straps : (s.beginAnalysis).straps = s.straps := by
  unfold State.beginAnalysis; repeat' split
  all_goals simp
@[simp] theorem State.beginAnalysis_station : (s.beginAnalysis).station = s.station := by
  unfold State.beginAnalysis; repeat' split
  all_goals simp
@[simp] theorem State.beginAnalysis_line : (s.beginAnalysis).line = s.line := by
  unfold State.beginAnalysis; repeat' split
  all_goals simp
@[simp] theorem State.beginAnalysis_loader : (s.beginAnalysis).loader = s.loader := by
  unfold State.beginAnalysis; repeat' split
  all_goals simp
@[simp] theorem State.beginAnalysis_lines : (s.beginAnalysis).lines = s.lines := by
  unfold State.beginAnalysis; repeat' split
  all_goals simp
@[simp] theorem State.beginAnalysis_nestA : (s.beginAnalysis).nestA = s.nestA := by
  unfold State.beginAnalysis; repeat' split
  all_goals simp
@[simp] theorem State.beginAnalysis_nestB : (s.beginAnalysis).nestB = s.nestB := by
  unfold State.beginAnalysis; repeat' split
  all_goals simp
@[simp] theorem State.beginAnalysis_chain : (s.beginAnalysis).chain = s.chain := by
  unfold State.beginAnalysis; repeat' split
  all_goals simp
@[simp] theorem State.beginAnalysis_gen : (s.beginAnalysis).gen = s.gen := by
  unfold State.beginAnalysis; repeat' split
  all_goals simp
@[simp] theorem State.beginAnalysis_units : (s.beginAnalysis).units = s.units := by
  unfold State.beginAnalysis; repeat' split
  all_goals simp
@[simp] theorem State.beginAnalysis_accounts : (s.beginAnalysis).accounts = s.accounts := by
  unfold State.beginAnalysis; repeat' split
  all_goals simp
@[simp] theorem State.beginAnalysis_marker : (s.beginAnalysis).marker = s.marker := by
  unfold State.beginAnalysis; repeat' split
  all_goals simp
@[simp] theorem State.beginAnalysis_freeCount : (s.beginAnalysis).freeCount = s.freeCount := by
  unfold State.beginAnalysis; repeat' split
  all_goals simp
@[simp] theorem State.beginAnalysis_pending : (s.beginAnalysis).pending = s.pending := by
  unfold State.beginAnalysis; repeat' split
  all_goals simp

/-! ### queueHalf -/

@[simp] theorem State.queueHalf_hold (h : HalfId) : (s.queueHalf h).hold = s.hold := by simp [State.queueHalf]
@[simp] theorem State.queueHalf_straps (h : HalfId) : (s.queueHalf h).straps = s.straps := by simp [State.queueHalf]
@[simp] theorem State.queueHalf_station (h : HalfId) : (s.queueHalf h).station = s.station := by simp [State.queueHalf]
@[simp] theorem State.queueHalf_line (h : HalfId) : (s.queueHalf h).line = s.line := by simp [State.queueHalf]
@[simp] theorem State.queueHalf_loader (h : HalfId) : (s.queueHalf h).loader = s.loader := by simp [State.queueHalf]
@[simp] theorem State.queueHalf_lines (h : HalfId) : (s.queueHalf h).lines = s.lines := by simp [State.queueHalf]
@[simp] theorem State.queueHalf_nestA (h : HalfId) : (s.queueHalf h).nestA = s.nestA := by simp [State.queueHalf]
@[simp] theorem State.queueHalf_nestB (h : HalfId) : (s.queueHalf h).nestB = s.nestB := by simp [State.queueHalf]
@[simp] theorem State.queueHalf_chain (h : HalfId) : (s.queueHalf h).chain = s.chain := by simp [State.queueHalf]
@[simp] theorem State.queueHalf_gen (h : HalfId) : (s.queueHalf h).gen = s.gen := by simp [State.queueHalf]
@[simp] theorem State.queueHalf_units (h : HalfId) : (s.queueHalf h).units = s.units := by simp [State.queueHalf]
@[simp] theorem State.queueHalf_accounts (h : HalfId) : (s.queueHalf h).accounts = s.accounts := by simp [State.queueHalf]
@[simp] theorem State.queueHalf_marker (h : HalfId) : (s.queueHalf h).marker = s.marker := by simp [State.queueHalf]
@[simp] theorem State.queueHalf_freeCount (h : HalfId) : (s.queueHalf h).freeCount = s.freeCount := by simp [State.queueHalf]
@[simp] theorem State.queueHalf_pending (h : HalfId) : (s.queueHalf h).pending = s.pending := by simp [State.queueHalf]

/-! ### abortOne -/

@[simp] theorem State.abortOne_hold (n : NestId) : (s.abortOne n).hold = s.hold := by unfold State.abortOne; split <;> simp
@[simp] theorem State.abortOne_straps (n : NestId) : (s.abortOne n).straps = s.straps := by unfold State.abortOne; split <;> simp
@[simp] theorem State.abortOne_station (n : NestId) : (s.abortOne n).station = s.station := by unfold State.abortOne; split <;> simp
@[simp] theorem State.abortOne_line (n : NestId) : (s.abortOne n).line = s.line := by unfold State.abortOne; split <;> simp
@[simp] theorem State.abortOne_loader (n : NestId) : (s.abortOne n).loader = s.loader := by unfold State.abortOne; split <;> simp
@[simp] theorem State.abortOne_lines (n : NestId) : (s.abortOne n).lines = s.lines := by unfold State.abortOne; split <;> simp
@[simp] theorem State.abortOne_units (n : NestId) : (s.abortOne n).units = s.units := by unfold State.abortOne; split <;> simp
@[simp] theorem State.abortOne_marker (n : NestId) : (s.abortOne n).marker = s.marker := by unfold State.abortOne; split <;> simp
@[simp] theorem State.abortOne_freeCount (n : NestId) : (s.abortOne n).freeCount = s.freeCount := by unfold State.abortOne; split <;> simp
@[simp] theorem State.abortOne_pending (n : NestId) : (s.abortOne n).pending = s.pending := by unfold State.abortOne; split <;> simp

/-! ### clearRing -/

@[simp] theorem State.clearRing_hold : (s.clearRing).hold = s.hold := rfl
@[simp] theorem State.clearRing_straps : (s.clearRing).straps = s.straps := rfl
@[simp] theorem State.clearRing_station : (s.clearRing).station = s.station := rfl
@[simp] theorem State.clearRing_line : (s.clearRing).line = s.line := rfl
@[simp] theorem State.clearRing_loader : (s.clearRing).loader = s.loader := rfl
@[simp] theorem State.clearRing_lines : (s.clearRing).lines = s.lines := rfl
@[simp] theorem State.clearRing_nestA : (s.clearRing).nestA = s.nestA := rfl
@[simp] theorem State.clearRing_nestB : (s.clearRing).nestB = s.nestB := rfl
@[simp] theorem State.clearRing_chain : (s.clearRing).chain = s.chain := rfl
@[simp] theorem State.clearRing_gen : (s.clearRing).gen = s.gen := rfl
@[simp] theorem State.clearRing_capture : (s.clearRing).capture = s.capture := rfl
@[simp] theorem State.clearRing_engine : (s.clearRing).engine = s.engine := rfl
@[simp] theorem State.clearRing_units : (s.clearRing).units = s.units := rfl
@[simp] theorem State.clearRing_marker : (s.clearRing).marker = s.marker := rfl
@[simp] theorem State.clearRing_freeCount : (s.clearRing).freeCount = s.freeCount := rfl
@[simp] theorem State.clearRing_pending : (s.clearRing).pending = s.pending := rfl

/-! ### activate -/

@[simp] theorem State.activate_hold : (s.activate).hold = s.hold := by unfold State.activate; split <;> simp
@[simp] theorem State.activate_straps : (s.activate).straps = s.straps := by unfold State.activate; split <;> simp
@[simp] theorem State.activate_chain : (s.activate).chain = s.chain := by unfold State.activate; split <;> simp
@[simp] theorem State.activate_gen : (s.activate).gen = s.gen := by unfold State.activate; split <;> simp
@[simp] theorem State.activate_capture : (s.activate).capture = s.capture := by unfold State.activate; split <;> simp
@[simp] theorem State.activate_engine : (s.activate).engine = s.engine := by unfold State.activate; split <;> simp
@[simp] theorem State.activate_freeCount : (s.activate).freeCount = s.freeCount := by unfold State.activate; split <;> simp
@[simp] theorem State.activate_pending : (s.activate).pending = s.pending := by unfold State.activate; split <;> simp

/-! ### settleActivation -/

@[simp] theorem State.settleActivation_hold : (s.settleActivation).hold = s.hold := by unfold State.settleActivation; split <;> simp
@[simp] theorem State.settleActivation_straps : (s.settleActivation).straps = s.straps := by unfold State.settleActivation; split <;> simp
@[simp] theorem State.settleActivation_chain : (s.settleActivation).chain = s.chain := by unfold State.settleActivation; split <;> simp
@[simp] theorem State.settleActivation_gen : (s.settleActivation).gen = s.gen := by unfold State.settleActivation; split <;> simp
@[simp] theorem State.settleActivation_capture : (s.settleActivation).capture = s.capture := by unfold State.settleActivation; split <;> simp
@[simp] theorem State.settleActivation_engine : (s.settleActivation).engine = s.engine := by unfold State.settleActivation; split <;> simp
@[simp] theorem State.settleActivation_freeCount : (s.settleActivation).freeCount = s.freeCount := by unfold State.settleActivation; split <;> simp
@[simp] theorem State.settleActivation_pending : (s.settleActivation).pending = s.pending := by unfold State.settleActivation; split <;> simp

/-! ### stopSweep -/

@[simp] theorem State.stopSweep_hold (n : NestId) (c : PlanContent) : (s.stopSweep n c).hold = s.hold := by
  unfold State.stopSweep; repeat' split
  all_goals simp
@[simp] theorem State.stopSweep_straps (n : NestId) (c : PlanContent) : (s.stopSweep n c).straps = s.straps := by
  unfold State.stopSweep; repeat' split
  all_goals simp
@[simp] theorem State.stopSweep_station (n : NestId) (c : PlanContent) : (s.stopSweep n c).station = s.station := by
  unfold State.stopSweep; repeat' split
  all_goals simp
@[simp] theorem State.stopSweep_line (n : NestId) (c : PlanContent) : (s.stopSweep n c).line = s.line := by
  unfold State.stopSweep; repeat' split
  all_goals simp
@[simp] theorem State.stopSweep_loader (n : NestId) (c : PlanContent) : (s.stopSweep n c).loader = s.loader := by
  unfold State.stopSweep; repeat' split
  all_goals simp
@[simp] theorem State.stopSweep_lines (n : NestId) (c : PlanContent) : (s.stopSweep n c).lines = s.lines := by
  unfold State.stopSweep; repeat' split
  all_goals simp
@[simp] theorem State.stopSweep_chain (n : NestId) (c : PlanContent) : (s.stopSweep n c).chain = s.chain := by
  unfold State.stopSweep; repeat' split
  all_goals simp
@[simp] theorem State.stopSweep_units (n : NestId) (c : PlanContent) : (s.stopSweep n c).units = s.units := by
  unfold State.stopSweep; repeat' split
  all_goals simp
@[simp] theorem State.stopSweep_accounts (n : NestId) (c : PlanContent) : (s.stopSweep n c).accounts = s.accounts := by
  unfold State.stopSweep; repeat' split
  all_goals simp
@[simp] theorem State.stopSweep_marker (n : NestId) (c : PlanContent) : (s.stopSweep n c).marker = s.marker := by
  unfold State.stopSweep; repeat' split
  all_goals simp
@[simp] theorem State.stopSweep_freeCount (n : NestId) (c : PlanContent) : (s.stopSweep n c).freeCount = s.freeCount := by
  unfold State.stopSweep; repeat' split
  all_goals simp
@[simp] theorem State.stopSweep_pending (n : NestId) (c : PlanContent) : (s.stopSweep n c).pending = s.pending := by
  unfold State.stopSweep; repeat' split
  all_goals simp

/-! ### offerRecord -/

@[simp] theorem State.offerRecord_hold (n : NestId) (tag : BitVec 16) (r : PointRecord) : (s.offerRecord n tag r).hold = s.hold := by
  unfold State.offerRecord; try dsimp only
  repeat' split
  all_goals first | rfl | simp
@[simp] theorem State.offerRecord_straps (n : NestId) (tag : BitVec 16) (r : PointRecord) : (s.offerRecord n tag r).straps = s.straps := by
  unfold State.offerRecord; try dsimp only
  repeat' split
  all_goals first | rfl | simp
@[simp] theorem State.offerRecord_station (n : NestId) (tag : BitVec 16) (r : PointRecord) : (s.offerRecord n tag r).station = s.station := by
  unfold State.offerRecord; try dsimp only
  repeat' split
  all_goals first | rfl | simp
@[simp] theorem State.offerRecord_line (n : NestId) (tag : BitVec 16) (r : PointRecord) : (s.offerRecord n tag r).line = s.line := by
  unfold State.offerRecord; try dsimp only
  repeat' split
  all_goals first | rfl | simp
@[simp] theorem State.offerRecord_loader (n : NestId) (tag : BitVec 16) (r : PointRecord) : (s.offerRecord n tag r).loader = s.loader := by
  unfold State.offerRecord; try dsimp only
  repeat' split
  all_goals first | rfl | simp
@[simp] theorem State.offerRecord_lines (n : NestId) (tag : BitVec 16) (r : PointRecord) : (s.offerRecord n tag r).lines = s.lines := by
  unfold State.offerRecord; try dsimp only
  repeat' split
  all_goals first | rfl | simp
@[simp] theorem State.offerRecord_chain (n : NestId) (tag : BitVec 16) (r : PointRecord) : (s.offerRecord n tag r).chain = s.chain := by
  unfold State.offerRecord; try dsimp only
  repeat' split
  all_goals first | rfl | simp
@[simp] theorem State.offerRecord_units (n : NestId) (tag : BitVec 16) (r : PointRecord) : (s.offerRecord n tag r).units = s.units := by
  unfold State.offerRecord; try dsimp only
  repeat' split
  all_goals first | rfl | simp
@[simp] theorem State.offerRecord_accounts (n : NestId) (tag : BitVec 16) (r : PointRecord) : (s.offerRecord n tag r).accounts = s.accounts := by
  unfold State.offerRecord; try dsimp only
  repeat' split
  all_goals first | rfl | simp
@[simp] theorem State.offerRecord_marker (n : NestId) (tag : BitVec 16) (r : PointRecord) : (s.offerRecord n tag r).marker = s.marker := by
  unfold State.offerRecord; try dsimp only
  repeat' split
  all_goals first | rfl | simp
@[simp] theorem State.offerRecord_freeCount (n : NestId) (tag : BitVec 16) (r : PointRecord) : (s.offerRecord n tag r).freeCount = s.freeCount := by
  unfold State.offerRecord; try dsimp only
  repeat' split
  all_goals first | rfl | simp
@[simp] theorem State.offerRecord_pending (n : NestId) (tag : BitVec 16) (r : PointRecord) : (s.offerRecord n tag r).pending = s.pending := by
  unfold State.offerRecord; try dsimp only
  repeat' split
  all_goals first | rfl | simp

/-! ### takeOutcome -/

@[simp] theorem State.takeOutcome_hold (n : NestId) (o : OutcomeClass) (v : Verdict) (bin : Nat) : (s.takeOutcome n o v bin).hold = s.hold := by
  unfold State.takeOutcome; repeat' split
  all_goals simp
@[simp] theorem State.takeOutcome_straps (n : NestId) (o : OutcomeClass) (v : Verdict) (bin : Nat) : (s.takeOutcome n o v bin).straps = s.straps := by
  unfold State.takeOutcome; repeat' split
  all_goals simp
@[simp] theorem State.takeOutcome_loader (n : NestId) (o : OutcomeClass) (v : Verdict) (bin : Nat) : (s.takeOutcome n o v bin).loader = s.loader := by
  unfold State.takeOutcome; repeat' split
  all_goals simp
@[simp] theorem State.takeOutcome_lines (n : NestId) (o : OutcomeClass) (v : Verdict) (bin : Nat) : (s.takeOutcome n o v bin).lines = s.lines := by
  unfold State.takeOutcome; repeat' split
  all_goals simp
@[simp] theorem State.takeOutcome_nestA (n : NestId) (o : OutcomeClass) (v : Verdict) (bin : Nat) : (s.takeOutcome n o v bin).nestA = s.nestA := by
  unfold State.takeOutcome; repeat' split
  all_goals simp
@[simp] theorem State.takeOutcome_nestB (n : NestId) (o : OutcomeClass) (v : Verdict) (bin : Nat) : (s.takeOutcome n o v bin).nestB = s.nestB := by
  unfold State.takeOutcome; repeat' split
  all_goals simp
@[simp] theorem State.takeOutcome_chain (n : NestId) (o : OutcomeClass) (v : Verdict) (bin : Nat) : (s.takeOutcome n o v bin).chain = s.chain := by
  unfold State.takeOutcome; repeat' split
  all_goals simp
@[simp] theorem State.takeOutcome_gen (n : NestId) (o : OutcomeClass) (v : Verdict) (bin : Nat) : (s.takeOutcome n o v bin).gen = s.gen := by
  unfold State.takeOutcome; repeat' split
  all_goals simp
@[simp] theorem State.takeOutcome_capture (n : NestId) (o : OutcomeClass) (v : Verdict) (bin : Nat) : (s.takeOutcome n o v bin).capture = s.capture := by
  unfold State.takeOutcome; repeat' split
  all_goals simp
@[simp] theorem State.takeOutcome_engine (n : NestId) (o : OutcomeClass) (v : Verdict) (bin : Nat) : (s.takeOutcome n o v bin).engine = s.engine := by
  unfold State.takeOutcome; repeat' split
  all_goals simp
@[simp] theorem State.takeOutcome_marker (n : NestId) (o : OutcomeClass) (v : Verdict) (bin : Nat) : (s.takeOutcome n o v bin).marker = s.marker := by
  unfold State.takeOutcome; repeat' split
  all_goals simp
@[simp] theorem State.takeOutcome_freeCount (n : NestId) (o : OutcomeClass) (v : Verdict) (bin : Nat) : (s.takeOutcome n o v bin).freeCount = s.freeCount := by
  unfold State.takeOutcome; repeat' split
  all_goals simp
@[simp] theorem State.takeOutcome_pending (n : NestId) (o : OutcomeClass) (v : Verdict) (bin : Nat) : (s.takeOutcome n o v bin).pending = s.pending := by
  unfold State.takeOutcome; repeat' split
  all_goals simp

/-! ### offerJob -/

@[simp] theorem State.offerJob_hold (n : NestId) (j : Job) : (s.offerJob n j).hold = s.hold := by unfold State.offerJob; split <;> simp
@[simp] theorem State.offerJob_straps (n : NestId) (j : Job) : (s.offerJob n j).straps = s.straps := by unfold State.offerJob; split <;> simp
@[simp] theorem State.offerJob_loader (n : NestId) (j : Job) : (s.offerJob n j).loader = s.loader := by unfold State.offerJob; split <;> simp
@[simp] theorem State.offerJob_lines (n : NestId) (j : Job) : (s.offerJob n j).lines = s.lines := by unfold State.offerJob; split <;> simp
@[simp] theorem State.offerJob_chain (n : NestId) (j : Job) : (s.offerJob n j).chain = s.chain := by unfold State.offerJob; split <;> simp
@[simp] theorem State.offerJob_gen (n : NestId) (j : Job) : (s.offerJob n j).gen = s.gen := by unfold State.offerJob; split <;> simp
@[simp] theorem State.offerJob_capture (n : NestId) (j : Job) : (s.offerJob n j).capture = s.capture := by unfold State.offerJob; split <;> simp
@[simp] theorem State.offerJob_engine (n : NestId) (j : Job) : (s.offerJob n j).engine = s.engine := by unfold State.offerJob; split <;> simp
@[simp] theorem State.offerJob_units (n : NestId) (j : Job) : (s.offerJob n j).units = s.units := by unfold State.offerJob; split <;> simp
@[simp] theorem State.offerJob_accounts (n : NestId) (j : Job) : (s.offerJob n j).accounts = s.accounts := by unfold State.offerJob; split <;> simp
@[simp] theorem State.offerJob_freeCount (n : NestId) (j : Job) : (s.offerJob n j).freeCount = s.freeCount := by unfold State.offerJob; split <;> simp
@[simp] theorem State.offerJob_pending (n : NestId) (j : Job) : (s.offerJob n j).pending = s.pending := by unfold State.offerJob; split <;> simp

/-! ### productionVerdict -/

@[simp] theorem State.productionVerdict_hold (n : NestId) (c : PlanContent) : (s.productionVerdict n c).hold = s.hold := by
  unfold State.productionVerdict; repeat' split
  all_goals simp
@[simp] theorem State.productionVerdict_straps (n : NestId) (c : PlanContent) : (s.productionVerdict n c).straps = s.straps := by
  unfold State.productionVerdict; repeat' split
  all_goals simp
@[simp] theorem State.productionVerdict_loader (n : NestId) (c : PlanContent) : (s.productionVerdict n c).loader = s.loader := by
  unfold State.productionVerdict; repeat' split
  all_goals simp
@[simp] theorem State.productionVerdict_lines (n : NestId) (c : PlanContent) : (s.productionVerdict n c).lines = s.lines := by
  unfold State.productionVerdict; repeat' split
  all_goals simp
@[simp] theorem State.productionVerdict_chain (n : NestId) (c : PlanContent) : (s.productionVerdict n c).chain = s.chain := by
  unfold State.productionVerdict; repeat' split
  all_goals simp
@[simp] theorem State.productionVerdict_gen (n : NestId) (c : PlanContent) : (s.productionVerdict n c).gen = s.gen := by
  unfold State.productionVerdict; repeat' split
  all_goals simp
@[simp] theorem State.productionVerdict_capture (n : NestId) (c : PlanContent) : (s.productionVerdict n c).capture = s.capture := by
  unfold State.productionVerdict; repeat' split
  all_goals simp
@[simp] theorem State.productionVerdict_engine (n : NestId) (c : PlanContent) : (s.productionVerdict n c).engine = s.engine := by
  unfold State.productionVerdict; repeat' split
  all_goals simp
@[simp] theorem State.productionVerdict_freeCount (n : NestId) (c : PlanContent) : (s.productionVerdict n c).freeCount = s.freeCount := by
  unfold State.productionVerdict; repeat' split
  all_goals simp
@[simp] theorem State.productionVerdict_pending (n : NestId) (c : PlanContent) : (s.productionVerdict n c).pending = s.pending := by
  unfold State.productionVerdict; repeat' split
  all_goals simp

/-! ### referenceUnitVerdict -/

@[simp] theorem State.referenceUnitVerdict_hold (n : NestId) (c : PlanContent) : (s.referenceUnitVerdict n c).hold = s.hold := by simp [State.referenceUnitVerdict]
@[simp] theorem State.referenceUnitVerdict_straps (n : NestId) (c : PlanContent) : (s.referenceUnitVerdict n c).straps = s.straps := by simp [State.referenceUnitVerdict]
@[simp] theorem State.referenceUnitVerdict_loader (n : NestId) (c : PlanContent) : (s.referenceUnitVerdict n c).loader = s.loader := by simp [State.referenceUnitVerdict]
@[simp] theorem State.referenceUnitVerdict_lines (n : NestId) (c : PlanContent) : (s.referenceUnitVerdict n c).lines = s.lines := by simp [State.referenceUnitVerdict]
@[simp] theorem State.referenceUnitVerdict_chain (n : NestId) (c : PlanContent) : (s.referenceUnitVerdict n c).chain = s.chain := by simp [State.referenceUnitVerdict]
@[simp] theorem State.referenceUnitVerdict_gen (n : NestId) (c : PlanContent) : (s.referenceUnitVerdict n c).gen = s.gen := by simp [State.referenceUnitVerdict]
@[simp] theorem State.referenceUnitVerdict_capture (n : NestId) (c : PlanContent) : (s.referenceUnitVerdict n c).capture = s.capture := by simp [State.referenceUnitVerdict]
@[simp] theorem State.referenceUnitVerdict_engine (n : NestId) (c : PlanContent) : (s.referenceUnitVerdict n c).engine = s.engine := by simp [State.referenceUnitVerdict]
@[simp] theorem State.referenceUnitVerdict_marker (n : NestId) (c : PlanContent) : (s.referenceUnitVerdict n c).marker = s.marker := by simp [State.referenceUnitVerdict]
@[simp] theorem State.referenceUnitVerdict_freeCount (n : NestId) (c : PlanContent) : (s.referenceUnitVerdict n c).freeCount = s.freeCount := by simp [State.referenceUnitVerdict]
@[simp] theorem State.referenceUnitVerdict_pending (n : NestId) (c : PlanContent) : (s.referenceUnitVerdict n c).pending = s.pending := by simp [State.referenceUnitVerdict]

/-! ### makeVerdict -/

@[simp] theorem State.makeVerdict_hold (n : NestId) : (s.makeVerdict n).hold = s.hold := by
  unfold State.makeVerdict; repeat' split
  all_goals simp
@[simp] theorem State.makeVerdict_straps (n : NestId) : (s.makeVerdict n).straps = s.straps := by
  unfold State.makeVerdict; repeat' split
  all_goals simp
@[simp] theorem State.makeVerdict_loader (n : NestId) : (s.makeVerdict n).loader = s.loader := by
  unfold State.makeVerdict; repeat' split
  all_goals simp
@[simp] theorem State.makeVerdict_lines (n : NestId) : (s.makeVerdict n).lines = s.lines := by
  unfold State.makeVerdict; repeat' split
  all_goals simp
@[simp] theorem State.makeVerdict_chain (n : NestId) : (s.makeVerdict n).chain = s.chain := by
  unfold State.makeVerdict; repeat' split
  all_goals simp
@[simp] theorem State.makeVerdict_gen (n : NestId) : (s.makeVerdict n).gen = s.gen := by
  unfold State.makeVerdict; repeat' split
  all_goals simp
@[simp] theorem State.makeVerdict_capture (n : NestId) : (s.makeVerdict n).capture = s.capture := by
  unfold State.makeVerdict; repeat' split
  all_goals simp
@[simp] theorem State.makeVerdict_engine (n : NestId) : (s.makeVerdict n).engine = s.engine := by
  unfold State.makeVerdict; repeat' split
  all_goals simp
@[simp] theorem State.makeVerdict_freeCount (n : NestId) : (s.makeVerdict n).freeCount = s.freeCount := by
  unfold State.makeVerdict; repeat' split
  all_goals simp
@[simp] theorem State.makeVerdict_pending (n : NestId) : (s.makeVerdict n).pending = s.pending := by
  unfold State.makeVerdict; repeat' split
  all_goals simp

end Sys2Proof.Machine
end

