-- ==== Sys2Proof/Laws/Ops.lean ====
section
/-! SUPPORT. What each shared operation can do, said once: the window and its bytes, the start, the taking and the answer of a
request, the latching of events, the results that are discarded, and the lists. -/

namespace Sys2Proof.Machine
open Sys2Proof

/-! ### Outcomes -/

theorem unlessHeld_live {f : State → State} {s : State} (h : s.held = false) : unlessHeld f s = .next (f s) := by
  simp [unlessHeld, h]

theorem unlessHeld_held {f : State → State} {s : State} (h : s.held = true) : unlessHeld f s = .next s := by
  simp [unlessHeld, h]

theorem unlessHeld_next (f : State → State) (s : State) : ∃ t, unlessHeld f s = .next t := ⟨_, rfl⟩

/-- Every command answers a next state: no rule of the spec stops the part. -/
theorem exec_next (i : Instr) (s : State) : ∃ t, exec i s = .next t := by
  cases i
  case linePinChange l v =>
    simp only [exec, execLinePinChange]
    repeat' split
    all_goals exact ⟨_, rfl⟩
  case resetRelease c a b =>
    simp only [exec, execResetRelease]
    split <;> exact ⟨_, rfl⟩
  all_goals exact ⟨_, rfl⟩

theorem step_next (s : State) : ∃ t, step s = .next t := by
  unfold step
  split
  · exact exec_next _ _
  · exact ⟨_, rfl⟩

theorem step_front {c : Instr} {rest : List Instr} {s : State} (h : s.pending = c :: rest) :
    step s = exec c { s with pending := rest } := by
  simp [step, h]

theorem step_idle {s : State} (h : s.pending = []) : step s = .next s.tick := by
  simp [step, h]

/-! ### Bytes -/

@[simp] theorem le_length (k n : Nat) : (le k n).length = k := by
  induction k generalizing n with
  | zero => rfl
  | succ k ih => simp [le, ih]

/-- What an area holds after a write: the bytes written, and elsewhere what it held (R167). -/
theorem writeBytes_get (v : Vector Byte 64) (i : Nat) (bs : List Byte) (k : Nat) (h : k < 64) :
    (writeBytes v i bs)[k] = if i ≤ k ∧ k < i + bs.length then bs.getD (k - i) 0 else v[k] := by
  induction bs generalizing v i with
  | nil =>
    have : ¬(i ≤ k ∧ k < i + 0) := by omega
    rw [writeBytes, List.length_nil, if_neg this]
  | cons b bs ih =>
    rw [writeBytes, ih]
    by_cases h1 : i + 1 ≤ k ∧ k < i + 1 + bs.length
    · have h2 : i ≤ k ∧ k < i + (b :: bs).length := by simp; omega
      rw [if_pos h1, if_pos h2]
      obtain ⟨j, rfl⟩ : ∃ j, k = i + 1 + j := ⟨k - (i + 1), by omega⟩
      have e1 : i + 1 + j - (i + 1) = j := by omega
      have e2 : i + 1 + j - i = j + 1 := by omega
      rw [e1, e2]; rfl
    · rw [if_neg h1]
      by_cases h3 : i = k
      · subst h3
        simp
      · have h2 : ¬(i ≤ k ∧ k < i + (b :: bs).length) := by simp; omega
        rw [if_neg h2, Vector.getElem_setIfInBounds_ne h h3]

/-- A byte read back from the parameter area just written (R167). -/
theorem u8At_writeBytes (v : Vector Byte 64) (bs : List Byte) (k : Nat) (hk : k < bs.length) (h : k < 64) :
    u8At (writeBytes v 0 bs).toList k = u8At bs k := by
  have : (writeBytes v 0 bs).toList.getD k 0 = bs.getD k 0 := by
    rw [List.getD_eq_getElem?_getD, List.getElem?_eq_getElem (by simpa using h), Option.getD_some,
      Vector.getElem_toList, writeBytes_get _ _ _ _ h, if_pos ⟨Nat.zero_le _, by omega⟩]
    rfl
  simp only [u8At, this]

/-! ### Codes -/

@[simp] theorem requestOf_requestCode (r : Request) : requestOf (requestCode r) = some r := by cases r <;> rfl

theorem requestCode_abandon {r : Request} (h : r ≠ .abandon) : requestCode r ≠ requestCode .abandon := by
  cases r <;> first | exact absurd rfl h | decide

/-! ### Requests -/

/-- The command of a request is the write of its code. -/
theorem exec_commandOf (r : Request) (p : PortId) (params : List Byte) (t : Taking) (s : State) :
    exec (commandOf r p params t) s = unlessHeld (State.hostRequest p params (requestCode r) t) s := by
  cases r <;> rfl

/-- The end of an interrupted transaction, written twice, is that written once. -/
@[simp] theorem modPort_endLost_twice (p : PortId) (s : State) :
    (s.modPort p Port.endLost).modPort p Port.endLost = s.modPort p Port.endLost := by
  cases p <;> rfl

/-- With no interrupted transaction under way its end changes nothing. -/
theorem modPort_endLost {p : PortId} {s : State} (h : (s.port p).lost = false) : s.modPort p Port.endLost = s := by
  cases p <;> (simp only [State.port] at h; simp only [State.modPort, Port.endLost, ← h])

/-- What a transaction can do: what it does once an interrupted one is over (R188). -/
theorem transact_after (p : PortId) (f : State → State) (s : State) :
    s.transact p f = (s.modPort p Port.endLost).transact p f := by
  simp only [State.transact, modPort_endLost_twice]

theorem transact_whole {p : PortId} {f : State → State} {s : State} (h : (s.port p).lost = false) : s.transact p f = f s := by
  rw [State.transact, modPort_endLost h]

/-- The write of a request that belongs to a port whose slot is not RUNNING, and its taking at once: the owning block takes it
in the state in which its slot is RUNNING (R170). -/
theorem writeRequest_atOnce (r : Request) (hr : r ≠ .abandon) (p : PortId) (hp : onPort p r = true) (params : List Byte)
    (s : State) (h : (s.port p).slot ≠ .running) :
    s.writeRequest p params (requestCode r) .atOnce =
      takeOf r p (writeBytes (s.port p).params 0 params) (s.begun p r params true) := by
  have hq : ((s.port p).written p params).slot = (s.port p).slot := by
    cases p <;> rfl
  simp only [State.writeRequest, State.writeCode, if_neg (requestCode_abandon hr), State.startRequest, State.modPort_port]
  rw [if_neg (fun hh => h (hq ▸ hh))]
  simp only [State.judgeCode, requestOf_requestCode, hp, if_true, State.takeRunning, State.modPort_port, Port.carry,
    State.modPort_modPort]
  cases p <;> rfl

/-- The write of a request that belongs to a port whose slot is not RUNNING, to be taken later (R170). -/
theorem writeRequest_later (r : Request) (hr : r ≠ .abandon) (p : PortId) (hp : onPort p r = true) (params : List Byte)
    (s : State) (h : (s.port p).slot ≠ .running) :
    s.writeRequest p params (requestCode r) .later = s.begun p r params false := by
  have hq : ((s.port p).written p params).slot = (s.port p).slot := by
    cases p <;> rfl
  simp only [State.writeRequest, State.writeCode, if_neg (requestCode_abandon hr), State.startRequest, State.modPort_port]
  rw [if_neg (fun hh => h (hq ▸ hh))]
  simp only [State.judgeCode, requestOf_requestCode, hp, if_true, Port.carry, State.modPort_modPort]
  cases p <;> rfl

/-- A request taken at once on a ready port acts as its block's `take` on the state in which it has begun. -/
theorem exec_atOnce (r : Request) (hr : r ≠ .abandon) (p : PortId) (hp : onPort p r = true) (params : List Byte) (s : State)
    (h : s.ready p) :
    exec (commandOf r p params .atOnce) s =
      .next (takeOf r p (writeBytes (s.port p).params 0 params) (s.begun p r params true)) := by
  rw [exec_commandOf r, unlessHeld_live h.1, State.hostRequest, transact_whole h.2.2,
    writeRequest_atOnce r hr p hp params s h.2.1]

/-- A request answered in the state in which it has begun leaves its window as `Port.replied` says (R170). -/
theorem begun_answer (r : Request) (p : PortId) (params : List Byte) (b : Bool) (st : Status) (sub : Nat) (body : List Byte)
    (s : State) : (s.begun p r params b).answer p st sub body = s.replied p r params st sub body := by
  simp only [State.begun, State.answer, State.replied, State.modPort_modPort]
  cases p <;> rfl

/-- The request of a port is the one that a block runs exactly when it stands there, taken (R170). -/
theorem runs_iff (p : PortId) (r : Request) (s : State) :
    s.runs p r = true ↔ ∃ q, (s.port p).running = some q ∧ q.request = r ∧ q.taken = true := by
  unfold State.runs
  split <;> simp_all

/-! ### Events -/

theorem latch_bit (e : Event) (q : Port) (i : Nat) :
    (q.latch e).events.getLsbD i = (q.events.getLsbD i || decide (i = eventBit e)) := by
  have he : eventBit e < 16 := by
    cases e <;> first | decide | (rename_i n; cases n <;> decide)
  by_cases hi : i = eventBit e
  · subst hi; simp [Port.latch, he]
  · by_cases h16 : i < 16
    · by_cases h2 : i < eventBit e
      · simp [Port.latch, hi, h2]
      · have : i - eventBit e ≠ 0 := by omega
        simp [Port.latch, hi, h2, this]
    · simp [Port.latch, hi, h16]

theorem latchBoth_port (e : Event) (p : PortId) (s : State) : (s.latchBoth e).port p = (s.port p).latch e := by
  cases p <;> rfl

/-- A withdrawal: the count 0, both qualifications gone, both unverified marks set (R129, R175). -/
theorem withdraw_eq (s : State) : s.withdraw =
    { s with
      units := { s.units with remaining := 0, qualifiedA := false, qualifiedB := false }
      station := { s.station with unverified := true }, line := { s.line with unverified := true } } := rfl

/-! ### Results that are discarded -/

/-- A claimant takes the result of half `i` exactly when it does not discard it (R25, R39, R80). -/
theorem takesResult_half (i : HalfId) (s : State) : s.takesResult (s.half i) = true ↔ ¬ s.discards i := by
  unfold State.takesResult State.discards
  cases (s.half i).claimant <;> simp only [Bool.and_eq_true, Bool.or_eq_true, decide_eq_true_eq] <;>
    simp only [State.tagOf] <;> tauto

/-- A discarded result changes nothing (R80). -/
theorem handOver_discarded {h : Half} {s : State} (hd : s.takesResult h = false) (a : Analysed) : s.handOver h a = s := by
  simp [State.handOver, hd]

/-! ### Lists -/

theorem keepLast_length {α : Type} (n : Nat) (l : List α) : (keepLast n l).length ≤ n := by
  simp [keepLast]; omega

theorem evictIfFull_length (s : State) (h : s.units.retest.length ≤ 32) : s.evictIfFull.units.retest.length < 32 := by
  unfold State.evictIfFull
  split
  · assumption
  · split <;> simp_all [UnitTable.bump]

theorem insertRetest_length (e : RetestEntry) (s : State) (h : s.units.retest.length ≤ 32) :
    (s.insertRetest e).units.retest.length ≤ 32 := by
  have := evictIfFull_length s h
  simp [State.insertRetest, UnitTable.bump]; omega

/-- The bytes of a check result read nothing of the state but the counter of unstated bytes (R185, assumption log 9). -/
theorem checkBody_congr {s t : State} (h : t.freeCount = s.freeCount) (r : CheckResult) : t.checkBody r = s.checkBody r := by
  have hc : t.crcBytes = s.crcBytes := by funext i v; cases v <;> simp [State.crcBytes, State.unstated, h]
  simp only [State.checkBody, hc]

/-- What the generator and the holdoff timer are after some sample periods; nothing else changes (R48, R68). -/
theorem play_eq (k : Nat) (s : State) : s.play k =
    { s with gen := s.gen.play k, capture := { s.capture with holdoff := holdoffAfter k s.capture.holdoff } } := rfl

end Sys2Proof.Machine
end

