-- ==== Sys2Proof/Laws/Grants.lean ====
section
/-! SUPPORT. What a grant of the chain can do (R36, R37, R39). -/

namespace Sys2Proof.Machine
open Sys2Proof

/-- A pending calibration record, where there is one, becomes the active one (R75). -/
theorem adoptPending_eq (x : Capture) :
    x.adoptPending = { x with active := x.pending.or x.active, pending := none } := by
  rcases x with ⟨_, _, _, _, _, _ | _⟩ <;> rfl

/-- What a nest's grant does to it and to the Unit Table (R25, R37, R128). -/
theorem enterChain_nest (n : NestId) (s : State) : s.enterChain (.nest n) =
    (s.modNest n (Nest.granted s.planPoints.length s.curveCount s.hasReference)).modUnits fun u =>
      { u with
        qualifiedA := u.qualifiedA || decide (n = .a ∧ s.nestA.kind = some .reference)
        qualifiedB := u.qualifiedB || decide (n = .b ∧ s.nestB.kind = some .reference) } := by
  by_cases k : (s.nest n).kind = some .reference <;> cases n <;> simp only [State.nest] at k <;>
    simp [State.enterChain, State.nest, State.modUnits, UnitTable.qualify, k, State.modNest]

/-- What a grant to a nest does, field by field (R25, R37, R50, R67, R75). -/
theorem grant_nest (n : NestId) (s : State) : s.grant (.nest n) =
    { State.modNest n (Nest.granted s.planPoints.length s.curveCount s.hasReference) s with
      chain := { s.chain with holder := some (.nest n) }
      capture := { s.capture with active := s.capture.pending.or s.capture.active, pending := none, attempt := 1 }
      gen := { s.gen with
        mode := .settle, acc := 0, ramp := 0, cursor := 0, samples := 0, wraps := 0, stopMark := false
        claimant := some (.nest n), inc := (s.planPoints.getD 0 noPoint).inc, amp := (s.planPoints.getD 0 noPoint).amp
        tag := (s.nest n).tag + 1, postWrap := false, windowPlayed := 0 }
      units := { s.units with
        qualifiedA := s.units.qualifiedA || decide (n = .a ∧ s.nestA.kind = some .reference)
        qualifiedB := s.units.qualifiedB || decide (n = .b ∧ s.nestB.kind = some .reference) } } := by
  have hc : ∀ f g, ((s.modCapture g).modChain f).curveCount = s.curveCount := fun _ _ => rfl
  have hr : ∀ f g, ((s.modCapture g).modChain f).hasReference = s.hasReference := fun _ _ => rfl
  simp only [State.grant, enterChain_nest, adoptPending_eq, hc, hr, State.modChain_planPoints, State.modCapture_planPoints,
   State.startSweep, State.pointsOf, State.modUnits_planPoints, State.modNest_planPoints]
  cases n
  · rfl
  · rfl

/-- Where the amplifier and the loopback stand while a claimant holds the chain (R37, R39). -/
theorem switch_of_holder (c : Claimant) (s : State) : s.held = false → s.chain.holder = some c →
    s.amplifier = (match c with | .nest n => some n | .check => none) ∧ s.loopback = decide (c = .check) := by
  intro held holder
  simp only [State.amplifier, State.loopback, held, holder]
  cases c <;> simp

/-- What a grant does when the chain is free and a claimant waits (R36, R37). -/
theorem grantHead_granted {c : Claimant} {rest : List Claimant} {s : State} (held : s.held = false)
    (free : s.chain.holder = none) (queue : s.chain.queue = c :: rest) : State.Granted c rest s s.grantHead := by
  have e : s.grantHead = (s.modChain fun x => { x with queue := rest }).grant c := by
    unfold State.grantHead; rw [free, queue]
  have held : s.grantHead.held = false := by simpa [State.held] using held
  have holder : s.grantHead.chain.holder = some c := by
    rw [e]; cases c
    · rw [grant_nest]
    · rfl
  have switch := switch_of_holder c s.grantHead held holder
  clear held holder queue free
  cases c with
  | check =>
    refine ⟨?_, ?_, switch, ?_, ?_, ?_, ?_⟩ <;> rw [e]
    · rfl
    · intro n; cases n <;> rfl
    · rfl
    · simp only [State.grant, adoptPending_eq]; rfl
    · simp [State.grant, State.enterChain]
    · rfl
  | nest n =>
    rw [grant_nest] at e
    refine ⟨?_, ?_, switch, ?_, ?_, ?_, ?_⟩ <;> rw [e]
    · rfl
    · intro m; cases n <;> cases m <;> rfl
    · cases n <;> rfl
    · rfl
    · cases n <;> simp
    · cases n <;> rfl

/-- Nothing is granted while the chain is held or nobody waits (R36). -/
theorem grantHead_idle {s : State} (h : s.chain.holder ≠ none ∨ s.chain.queue = []) : s.grantHead = s := by
  unfold State.grantHead
  split
  · simp_all
  · rfl
end Sys2Proof.Machine
end

