-- ==== Sys2Proof/WellFormed.lean ====
section
/-! DEFINITION. Which commands are well formed: the operands that a command of each row can carry. -/

namespace Sys2Proof
open Sys2Proof.Machine

/-- The parameters of a request lie in the 64 bytes of the parameter area (R167). -/
def paramsFit (params : List Byte) : Bool := decide (params.length ≤ 64)

/-- A write transaction from `start` covers offset 01h, the request code (R167). -/
def coversCode (start : Byte) (data : List Byte) : Bool := decide (start.toNat ≤ 1 ∧ 1 < start.toNat + data.length)

/-- The well-formedness of a command: parameters lie in the parameter area, an unknown code names no request, a whole parameter
area write carries no code, and a window has samples. -/
def Instr.wf : Instr → Bool
  | .planOpen _ params _ => paramsFit params
  | .planData _ params _ => paramsFit params
  | .planClose _ params _ => paramsFit params
  | .planActivate _ params _ => paramsFit params
  | .planRevoke _ params _ => paramsFit params
  | .calibrate _ params _ => paramsFit params
  | .chainCheck _ params _ => paramsFit params
  | .serialBase _ params _ => paramsFit params
  | .closeShift _ params _ => paramsFit params
  | .markerStart _ params _ => paramsFit params
  | .stationReset _ params _ => paramsFit params
  | .loadUnit _ params _ => paramsFit params
  | .releaseNest _ params _ => paramsFit params
  | .lineEvent _ params _ => paramsFit params
  | .startNest _ params _ => paramsFit params
  | .abortNest _ params _ => paramsFit params
  | .reprint _ params _ => paramsFit params
  | .readNest _ params _ => paramsFit params
  | .readPoints _ params _ => paramsFit params
  | .readAccounts _ params _ => paramsFit params
  | .readShift _ params _ => paramsFit params
  | .readMarker _ params _ => paramsFit params
  | .readUnitTable _ params _ => paramsFit params
  | .readEvents _ params _ => paramsFit params
  | .setMask _ params _ => paramsFit params
  | .identify _ params _ => paramsFit params
  | .abandon _ params => paramsFit params
  | .unknownRequest _ code params => (requestOf code).isNone && paramsFit params
  | .parameterAreaWrite _ _ start data fate => decide (fate ≠ .whole) || !coversCode start data
  | .windowEnd samples => !samples.isEmpty
  | .checksComplete | .burstTimerExpiry | .linePinChange _ _ | .debounceExpiry _ | .windowBegin | .holdoffEnd
  | .runOutFadeOut | .lastFadeOutSample | .analysisCompletion | .probeEnd _ | .retryWaitEnd _ | .pageTransactionEnd _
  | .busyWaitEnd | .labelTimerExpiry | .resetHold _ | .resetRelease _ _ _ | .requestTaken _ => true

/-- The bytes a command writes to the parameter area before a code (R167, R168). -/
def Instr.params : Instr → List Byte
  | .planOpen _ params _ => params
  | .planData _ params _ => params
  | .planClose _ params _ => params
  | .planActivate _ params _ => params
  | .planRevoke _ params _ => params
  | .calibrate _ params _ => params
  | .chainCheck _ params _ => params
  | .serialBase _ params _ => params
  | .closeShift _ params _ => params
  | .markerStart _ params _ => params
  | .stationReset _ params _ => params
  | .loadUnit _ params _ => params
  | .releaseNest _ params _ => params
  | .lineEvent _ params _ => params
  | .startNest _ params _ => params
  | .abortNest _ params _ => params
  | .reprint _ params _ => params
  | .readNest _ params _ => params
  | .readPoints _ params _ => params
  | .readAccounts _ params _ => params
  | .readShift _ params _ => params
  | .readMarker _ params _ => params
  | .readUnitTable _ params _ => params
  | .readEvents _ params _ => params
  | .setMask _ params _ => params
  | .identify _ params _ => params
  | .abandon _ params => params
  | .unknownRequest _ _ params => params
  | .parameterAreaWrite _ _ _ _ _ | .windowEnd _
  | .checksComplete | .burstTimerExpiry | .linePinChange _ _ | .debounceExpiry _ | .windowBegin | .holdoffEnd
  | .runOutFadeOut | .lastFadeOutSample | .analysisCompletion | .probeEnd _ | .retryWaitEnd _ | .pageTransactionEnd _
  | .busyWaitEnd | .labelTimerExpiry | .resetHold _ | .resetRelease _ _ _ | .requestTaken _ => []

end Sys2Proof
end

