-- ==== Sys2Proof/Laws/PerInstr.lean ====
section
/-! SUPPORT. A statement made of every command, with one lemma for each. -/

namespace Sys2Proof.Laws.ParamsFit
open Sys2Proof

/-- The parameters of a well-formed command lie in the 64 bytes of the parameter area (R167). -/
def Statement (i : Instr) : Prop := i.wf = true → i.params.length ≤ 64

theorem planOpen (p : PortId) (ps : List Byte) (t : Taking) : Statement (Instr.planOpen p ps t) := fun h => of_decide_eq_true h
theorem planData (p : PortId) (ps : List Byte) (t : Taking) : Statement (Instr.planData p ps t) := fun h => of_decide_eq_true h
theorem planClose (p : PortId) (ps : List Byte) (t : Taking) : Statement (Instr.planClose p ps t) := fun h => of_decide_eq_true h
theorem planActivate (p : PortId) (ps : List Byte) (t : Taking) : Statement (Instr.planActivate p ps t) := fun h => of_decide_eq_true h
theorem planRevoke (p : PortId) (ps : List Byte) (t : Taking) : Statement (Instr.planRevoke p ps t) := fun h => of_decide_eq_true h
theorem calibrate (p : PortId) (ps : List Byte) (t : Taking) : Statement (Instr.calibrate p ps t) := fun h => of_decide_eq_true h
theorem chainCheck (p : PortId) (ps : List Byte) (t : Taking) : Statement (Instr.chainCheck p ps t) := fun h => of_decide_eq_true h
theorem serialBase (p : PortId) (ps : List Byte) (t : Taking) : Statement (Instr.serialBase p ps t) := fun h => of_decide_eq_true h
theorem closeShift (p : PortId) (ps : List Byte) (t : Taking) : Statement (Instr.closeShift p ps t) := fun h => of_decide_eq_true h
theorem markerStart (p : PortId) (ps : List Byte) (t : Taking) : Statement (Instr.markerStart p ps t) := fun h => of_decide_eq_true h
theorem stationReset (p : PortId) (ps : List Byte) (t : Taking) : Statement (Instr.stationReset p ps t) := fun h => of_decide_eq_true h
theorem loadUnit (p : PortId) (ps : List Byte) (t : Taking) : Statement (Instr.loadUnit p ps t) := fun h => of_decide_eq_true h
theorem releaseNest (p : PortId) (ps : List Byte) (t : Taking) : Statement (Instr.releaseNest p ps t) := fun h => of_decide_eq_true h
theorem lineEvent (p : PortId) (ps : List Byte) (t : Taking) : Statement (Instr.lineEvent p ps t) := fun h => of_decide_eq_true h
theorem startNest (p : PortId) (ps : List Byte) (t : Taking) : Statement (Instr.startNest p ps t) := fun h => of_decide_eq_true h
theorem abortNest (p : PortId) (ps : List Byte) (t : Taking) : Statement (Instr.abortNest p ps t) := fun h => of_decide_eq_true h
theorem reprint (p : PortId) (ps : List Byte) (t : Taking) : Statement (Instr.reprint p ps t) := fun h => of_decide_eq_true h
theorem readNest (p : PortId) (ps : List Byte) (t : Taking) : Statement (Instr.readNest p ps t) := fun h => of_decide_eq_true h
theorem readPoints (p : PortId) (ps : List Byte) (t : Taking) : Statement (Instr.readPoints p ps t) := fun h => of_decide_eq_true h
theorem readAccounts (p : PortId) (ps : List Byte) (t : Taking) : Statement (Instr.readAccounts p ps t) := fun h => of_decide_eq_true h
theorem readShift (p : PortId) (ps : List Byte) (t : Taking) : Statement (Instr.readShift p ps t) := fun h => of_decide_eq_true h
theorem readMarker (p : PortId) (ps : List Byte) (t : Taking) : Statement (Instr.readMarker p ps t) := fun h => of_decide_eq_true h
theorem readUnitTable (p : PortId) (ps : List Byte) (t : Taking) : Statement (Instr.readUnitTable p ps t) := fun h => of_decide_eq_true h
theorem readEvents (p : PortId) (ps : List Byte) (t : Taking) : Statement (Instr.readEvents p ps t) := fun h => of_decide_eq_true h
theorem setMask (p : PortId) (ps : List Byte) (t : Taking) : Statement (Instr.setMask p ps t) := fun h => of_decide_eq_true h
theorem identify (p : PortId) (ps : List Byte) (t : Taking) : Statement (Instr.identify p ps t) := fun h => of_decide_eq_true h
theorem abandon (p : PortId) (ps : List Byte) : Statement (Instr.abandon p ps) := fun h => of_decide_eq_true h
theorem unknownRequest (p : PortId) (c : Byte) (ps : List Byte) : Statement (Instr.unknownRequest p c ps) := fun h => of_decide_eq_true (Bool.and_eq_true_iff.mp h).2
theorem parameterAreaWrite (p : PortId) (a b : Byte) (d : List Byte) (k : WriteEnd) : Statement (Instr.parameterAreaWrite p a b d k) := fun _ => Nat.zero_le _
theorem checksComplete : Statement (Instr.checksComplete) := fun _ => Nat.zero_le _
theorem burstTimerExpiry : Statement (Instr.burstTimerExpiry) := fun _ => Nat.zero_le _
theorem linePinChange (i : Fin 8) (v : Bool) : Statement (Instr.linePinChange i v) := fun _ => Nat.zero_le _
theorem debounceExpiry (i : Fin 8) : Statement (Instr.debounceExpiry i) := fun _ => Nat.zero_le _
theorem windowBegin : Statement (Instr.windowBegin) := fun _ => Nat.zero_le _
theorem windowEnd (l : List (Sample × Sample)) : Statement (Instr.windowEnd l) := fun _ => Nat.zero_le _
theorem holdoffEnd : Statement (Instr.holdoffEnd) := fun _ => Nat.zero_le _
theorem runOutFadeOut : Statement (Instr.runOutFadeOut) := fun _ => Nat.zero_le _
theorem lastFadeOutSample : Statement (Instr.lastFadeOutSample) := fun _ => Nat.zero_le _
theorem analysisCompletion : Statement (Instr.analysisCompletion) := fun _ => Nat.zero_le _
theorem probeEnd (r : ProbeResult) : Statement (Instr.probeEnd r) := fun _ => Nat.zero_le _
theorem retryWaitEnd (d : Fin 4) : Statement (Instr.retryWaitEnd d) := fun _ => Nat.zero_le _
theorem pageTransactionEnd (r : PageResult) : Statement (Instr.pageTransactionEnd r) := fun _ => Nat.zero_le _
theorem busyWaitEnd : Statement (Instr.busyWaitEnd) := fun _ => Nat.zero_le _
theorem labelTimerExpiry : Statement (Instr.labelTimerExpiry) := fun _ => Nat.zero_le _
theorem resetHold (c : HoldCause) : Statement (Instr.resetHold c) := fun _ => Nat.zero_le _
theorem resetRelease (c : HoldCause) (a : BitVec 2) (b : ReleasePins) : Statement (Instr.resetRelease c a b) := fun _ => Nat.zero_le _
theorem requestTaken (p : PortId) : Statement (Instr.requestTaken p) := fun _ => Nat.zero_le _

end Sys2Proof.Laws.ParamsFit
end

