-- ==== Sys2Proof/Laws/PlanImage.lean ====
section
/-! SUPPORT. When each section of a plan image is read: the readers of check 6 against the ranges and conditions of R3 to R8. -/

namespace Sys2Proof.Machine
open Sys2Proof

theorem inRange_eq_some {lo hi v w : Nat} : inRange lo hi v = some w ↔ (lo ≤ v ∧ v ≤ hi) ∧ v = w := by
  unfold inRange; split <;> simp_all

theorem inRangeInt_eq_some {lo hi v w : Int} : inRangeInt lo hi v = some w ↔ (lo ≤ v ∧ v ≤ hi) ∧ v = w := by
  unfold inRangeInt; split <;> simp_all

theorem flagOf_eq_some {v : Nat} {w : Bool} : flagOf v = some w ↔ v ≤ 1 ∧ decide (v = 1) = w := by
  unfold flagOf; split
  · simp_all
  · split
    · simp_all
    · simp; omega

theorem roleOf_eq_some {v : Nat} {w : Role} : roleOf v = some w ↔ (v = 1 ∨ v = 2) ∧ (if v = 1 then Role.label else .reject) = w := by
  unfold roleOf; split
  · simp_all
  · split <;> simp_all

/-- A list is read whole exactly when each of its members is. -/
theorem mapM_eq_some {α β : Type} {f : α → Option β} {c : α → Prop} {g : α → β}
    (h : ∀ a b, f a = some b ↔ c a ∧ g a = b) (l : List α) (m : List β) :
    l.mapM f = some m ↔ (∀ a ∈ l, c a) ∧ l.map g = m := by
  induction l generalizing m with
  | nil => simp [eq_comm]
  | cons a l ih =>
    rw [List.mapM_cons]
    simp only [Option.bind_eq_bind, Option.pure_def, Option.bind_eq_some_iff, h, ih]
    cases m <;> simp [and_assoc, and_left_comm]

/-- A list over the first numbers has no repeats exactly when no two of its places agree. -/
theorem nodup_map_range {α : Type} (f : Nat → α) (n : Nat) :
    ((List.range n).map f).Nodup ↔ ∀ j k, j < k → k < n → f j ≠ f k := by
  simp only [List.Nodup, List.pairwise_iff_getElem, List.length_map, List.length_range, List.getElem_map, List.getElem_range]
  exact ⟨fun h j k jk kn => h j k (by omega) kn jk, fun h j k _ kn jk => h j k jk kn⟩

/-- A value stands at most once in a list exactly when no two places hold it. -/
theorem count_le_one {α : Type} [DecidableEq α] (a : α) (l : List α) :
    l.count a ≤ 1 ↔ l.Pairwise fun x y => ¬(x = a ∧ y = a) := by
  induction l with
  | nil => simp
  | cons x l ih =>
    by_cases h : x = a
    · subst h
      simp only [List.count_cons_self, List.pairwise_cons, ← ih]
      constructor
      · intro h
        have : x ∉ l := List.count_eq_zero.1 (by omega)
        exact ⟨fun y hy e => this (e.2 ▸ hy), by omega⟩
      · rintro ⟨h, -⟩
        rw [List.count_eq_zero.2 fun hx => by simpa using h x hx]
    · simp [List.count_cons_of_ne h, ih, h]

/-- The GUARD section is read exactly when it meets its ranges (R6). -/
theorem parseGuard_isSome (b : List Byte) : (parseGuard b).isSome = true ↔ GuardMeets b := by
  simp [parseGuard, Option.isSome_iff_exists, Option.bind_eq_some_iff, inRange_eq_some, inRangeInt_eq_some]
  exact ⟨fun ⟨p, q, r, s, t⟩ => ⟨p, q, r, s, t⟩, fun ⟨p, q, r, s, t⟩ => ⟨p, q, r, s, t⟩⟩

/-- The POLICY section is read exactly when it meets its ranges (R6). -/
theorem parsePolicy_isSome (b : List Byte) : (parsePolicy b).isSome = true ↔ PolicyMeets b := by
  simp [parsePolicy, Option.isSome_iff_exists, Option.bind_eq_some_iff, inRange_eq_some]
  exact ⟨fun ⟨p, q, r, s, t⟩ => ⟨p, q, r, s, t⟩, fun ⟨p, q, r, s, t⟩ => ⟨p, q, r, s, t⟩⟩

/-- The BINS section is read exactly when it meets its ranges (R5). -/
theorem parseBins_isSome (b : List Byte) : (parseBins b).isSome = true ↔ BinsMeets b := by
  have h (i : Nat) (e : BinEntry) : ((inRange 1 15 (u8At b (2 * i))).bind fun bin =>
      (inRange 0 15 (u8At b (2 * i + 1))).bind fun priority => some (⟨bin, priority⟩ : BinEntry)) = some e ↔
      ((1 ≤ u8At b (2 * i) ∧ u8At b (2 * i) ≤ 15) ∧ u8At b (2 * i + 1) ≤ 15) ∧ ⟨u8At b (2 * i), u8At b (2 * i + 1)⟩ = e := by
    simp [Option.bind_eq_some_iff, inRange_eq_some, and_assoc]
  simp only [parseBins, Option.isSome_iff_exists, Option.bind_eq_bind, Option.pure_def]
  simp [Option.bind_eq_some_iff, inRange_eq_some, mapM_eq_some h]
  exact ⟨fun ⟨p, q, r⟩ => ⟨p, q, r⟩, fun ⟨p, q, r⟩ => ⟨p, q, r⟩⟩

/-- No line function has a code above 18h. -/
theorem lineFunctionOf_above {n : Nat} (h : 0x18 < n) : lineFunctionOf n = none := by
  have ne (k : Nat) (hk : k ≤ 0x18) : k ≠ n := by omega
  simp [lineFunctionOf, inputOf, allInputs, allOutputs, inputCode, outputCode, ne, (ne 0 (by omega)).symm]

/-- The codes of the line functions are those of R8. -/
theorem lineFunctionOf_isSome (n : Nat) : (lineFunctionOf n).isSome = true ↔ n ≤ 8 ∨ (0x11 ≤ n ∧ n ≤ 0x18) := by
  by_cases h : 0x18 < n
  · simp [lineFunctionOf_above h]; omega
  · have : ∀ n < 0x19, (lineFunctionOf n).isSome = true ↔ n ≤ 8 ∨ (0x11 ≤ n ∧ n ≤ 0x18) := by decide
    exact this n (by omega)

/-- The input function that a code names has that code. -/
theorem lineFunctionOf_input (n : Nat) (f : InputFunction) : lineFunctionOf n = some (.input f) ↔ n = inputCode f := by
  have hf : f ∈ allInputs := by cases f <;> first | decide | (rename_i n; cases n <;> decide)
  by_cases h : 0x18 < n
  · have : ∀ f ∈ allInputs, inputCode f ≤ 0x18 := by decide
    have := this f hf
    simp [lineFunctionOf_above h]; omega
  · have : ∀ f ∈ allInputs, ∀ n < 0x19, lineFunctionOf n = some (.input f) ↔ n = inputCode f := by decide +kernel
    exact this f hf n (by omega)

/-- The LINES section is read exactly when it meets its codes and conditions (R8). -/
theorem parseLines_isSome (b : List Byte) : (parseLines b).isSome = true ↔ LinesMeets b := by
  have all (P : InputFunction → Prop) : (∀ f ∈ allInputs, P f) ↔ ∀ f, P f :=
    ⟨fun h f => h f (by cases f <;> first | decide | (rename_i n; cases n <;> decide)), fun h f _ => h f⟩
  have hf (v : Byte) (e : LineFunction) : lineFunctionOf v.toNat = some e ↔
      (lineFunctionOf v.toNat).isSome = true ∧ (lineFunctionOf v.toNat).getD .unused = e := by
    cases h : lineFunctionOf v.toNat <;> simp
  simp only [parseLines, Option.isSome_iff_exists, Option.bind_eq_bind]
  have hi (v : Byte) (f : InputFunction) : (lineFunctionOf v.toNat).getD .unused = .input f ↔ v.toNat = inputCode f := by
    rw [← lineFunctionOf_input]
    cases h : lineFunctionOf v.toNat <;> simp
  have codes (n : Nat) : (∃ f, n = inputCode f) ↔ 1 ≤ n ∧ n ≤ 8 := by
    constructor
    · rintro ⟨f, rfl⟩
      cases f <;> first | decide | (rename_i n; cases n <;> decide)
    · rintro ⟨h, h'⟩
      have : ∀ n < 9, 1 ≤ n → ∃ f ∈ allInputs, n = inputCode f := by decide
      obtain ⟨f, -, e⟩ := this n (by omega) h
      exact ⟨f, e⟩
  have hu (k : Nat) (h : k < b.length) : u8At b k = b[k].toNat := by simp [u8At, h]
  simp [Option.bind_eq_some_iff, mapM_eq_some hf, all, count_le_one, List.pairwise_map, lineFunctionOf_isSome, hi]
  simp only [List.pairwise_iff_getElem, List.forall_mem_iff_forall_getElem]
  constructor
  · rintro ⟨l, c, o⟩
    refine ⟨l, fun k h => hu k (by omega) ▸ c k (by omega), fun j k jk hk p q e => ?_⟩
    rw [hu j (by omega)] at p q e
    rw [hu k (by omega)] at e
    obtain ⟨f, hf⟩ := (codes _).2 ⟨p, q⟩
    exact o f j k (by omega) (by omega) jk hf (e ▸ hf)
  · rintro ⟨l, c, o⟩
    refine ⟨l, fun k h => hu k h ▸ c k (by omega), fun f j k hj hk jk e e' => ?_⟩
    obtain ⟨p, q⟩ := (codes _).1 ⟨f, rfl⟩
    exact o j k jk (by omega) (by rw [hu j hj, e]; exact p) (by rw [hu j hj, e]; exact q) (by rw [hu j hj, hu k hk, e, e'])

/-- The MARKER section is read exactly when it meets its ranges and conditions (R7). -/
theorem parseMarker_isSome (b : List Byte) : (parseMarker b).isSome = true ↔ ∃ n m, MarkerMeets b n m := by
  have hd (i : Nat) (e : DevicePlan) : ((inRange 0x08 0x77 (u8At b (1 + 2 * i))).bind fun address =>
      (roleOf (u8At b (2 + 2 * i))).bind fun role => some (⟨address, role⟩ : DevicePlan)) = some e ↔
      ((0x08 ≤ u8At b (1 + 2 * i) ∧ u8At b (1 + 2 * i) ≤ 0x77) ∧ (u8At b (2 + 2 * i) = 1 ∨ u8At b (2 + 2 * i) = 2)) ∧
        ⟨u8At b (1 + 2 * i), if u8At b (2 + 2 * i) = 1 then .label else .reject⟩ = e := by
    simp [Option.bind_eq_some_iff, inRange_eq_some, roleOf_eq_some, and_assoc]
  have hp (k i : Nat) (e : Nat) : inRange 1 3 (u8At b (2 + 2 * k + i)) = some e ↔
      (1 ≤ u8At b (2 + 2 * k + i) ∧ u8At b (2 + 2 * k + i) ≤ 3) ∧ u8At b (2 + 2 * k + i) = e := inRange_eq_some
  simp only [parseMarker, Option.isSome_iff_exists, Option.bind_eq_bind, Option.pure_def]
  simp [Option.bind_eq_some_iff, inRange_eq_some, mapM_eq_some hd, mapM_eq_some (hp _), nodup_map_range]
  constructor
  · rintro ⟨c, d, ⟨p, q⟩, l, f, t, a, o⟩
    exact ⟨_, _, ⟨rfl, c⟩, fun k h => (d k h).1, fun k h => (d k h).2, a, ⟨rfl, p, q⟩, l, f, o, t⟩
  · rintro ⟨_, _, ⟨rfl, c⟩, d, r, a, ⟨rfl, p, q⟩, l, f, o, t⟩
    exact ⟨c, fun k h => ⟨d k h, r k h⟩, ⟨p, q⟩, l, f, t, a, o⟩

/-! ### LIMITS -/

theorem measureOf_isSome (v : Nat) : (measureOf v).isSome = true ↔ 1 ≤ v ∧ v ≤ 4 := by
  unfold measureOf
  by_cases h1 : v = 1; · simp [h1]
  by_cases h2 : v = 2; · simp [h2]
  by_cases h3 : v = 3; · simp [h3]
  by_cases h4 : v = 4; · simp [h4]
  simp [h1, h2, h3, h4]; omega

theorem measureOf_rel (v : Nat) : measureOf v = some .rel ↔ v = 2 := by
  unfold measureOf
  by_cases h1 : v = 1; · simp [h1]
  by_cases h2 : v = 2; · simp [h2]
  by_cases h3 : v = 3; · simp [h3]
  by_cases h4 : v = 4 <;> simp [h1, h2, h3, h4]

theorem conditionOf_isSome (v : Nat) : (conditionOf v).isSome = true ↔ 1 ≤ v ∧ v ≤ 4 := by
  unfold conditionOf
  by_cases h1 : v = 1; · simp [h1]
  by_cases h2 : v = 2; · simp [h2]
  by_cases h3 : v = 3; · simp [h3]
  by_cases h4 : v = 4; · simp [h4]
  simp [h1, h2, h3, h4]; omega

theorem breakpointsAscend_iff (l : List Breakpoint) :
    breakpointsAscend l = true ↔ ∀ i (h : i + 1 < l.length), l[i].freq < l[i + 1].freq := by
  induction l with
  | nil => simp [breakpointsAscend]
  | cons a l ih =>
    cases l with
    | nil => simp [breakpointsAscend]
    | cons b l =>
      simp only [breakpointsAscend, Bool.and_eq_true, decide_eq_true_iff, ih]
      constructor
      · rintro ⟨h, g⟩ i hi
        cases i with
        | zero => exact h
        | succ i => exact g i (by simpa using hi)
      · exact fun h => ⟨h 0 (by simp), fun i hi => h (i + 1) (by simpa using hi)⟩

/-- A curve that keeps its ranges and conditions is read (R4). -/
theorem curveAt_of_meets {b : List Byte} {o : Nat} (h : CurveMeets b o) :
    ∃ c, curveAt b o = some (c, o + 4 + 6 * u8At b (o + 3)) := by
  obtain ⟨m, c, r, n, f, a⟩ := h
  obtain ⟨m, hm⟩ := Option.isSome_iff_exists.1 ((measureOf_isSome _).2 m)
  obtain ⟨c, hc⟩ := Option.isSome_iff_exists.1 ((conditionOf_isSome _).2 c)
  have hb (i : Nat) (e : Breakpoint) : ((inRange 2000 2000000 (u32At b (o + 4 + 6 * i))).bind fun freq =>
      some (⟨freq, s16At b (o + 4 + 6 * i + 4)⟩ : Breakpoint)) = some e ↔
      (2000 ≤ u32At b (o + 4 + 6 * i) ∧ u32At b (o + 4 + 6 * i) ≤ 2000000) ∧
        ⟨u32At b (o + 4 + 6 * i), s16At b (o + 4 + 6 * i + 4)⟩ = e := by
    simp [Option.bind_eq_some_iff, inRange_eq_some]
  simp only [curveAt, Option.bind_eq_bind, Option.pure_def]
  simp [Option.bind_eq_some_iff, inRange_eq_some, mapM_eq_some hb, breakpointsAscend_iff, hm, hc, r, n]
  exact ⟨f, a⟩

/-- What the reading of a curve gives (R4): it keeps its ranges and conditions, its measure is the one of its code, and the next
one begins after its breakpoints. -/
theorem meets_of_curveAt {b : List Byte} {o : Nat} {x : Curve × Nat} (h : curveAt b o = some x) :
    CurveMeets b o ∧ x.2 = o + 4 + 6 * u8At b (o + 3) ∧ measureOf (u8At b o) = some x.1.measure := by
  have hb (i : Nat) (e : Breakpoint) : ((inRange 2000 2000000 (u32At b (o + 4 + 6 * i))).bind fun freq =>
      some (⟨freq, s16At b (o + 4 + 6 * i + 4)⟩ : Breakpoint)) = some e ↔
      (2000 ≤ u32At b (o + 4 + 6 * i) ∧ u32At b (o + 4 + 6 * i) ≤ 2000000) ∧
        ⟨u32At b (o + 4 + 6 * i), s16At b (o + 4 + 6 * i + 4)⟩ = e := by
    simp [Option.bind_eq_some_iff, inRange_eq_some]
  simp only [curveAt, Option.bind_eq_bind, Option.pure_def] at h
  simp [Option.bind_eq_some_iff, inRange_eq_some, mapM_eq_some hb, breakpointsAscend_iff] at h
  obtain ⟨m, hm, c, hc, r, n, f, a, rfl⟩ := h
  exact ⟨⟨(measureOf_isSome _).1 (by simp [hm]), (conditionOf_isSome _).1 (by simp [hc]), r, n, f, a⟩, rfl, hm⟩

/-- What the reading of the curves from place `j` on gives (R4). -/
theorem meets_of_curvesFrom {b : List Byte} {n j : Nat} {l : List Curve} (h : curvesFrom b n (curveStart b j) = some l) :
    (∀ k, k < n → CurveMeets b (curveStart b (j + k))) ∧ b.length = curveStart b (j + n) ∧
    (l.any (fun c => c.measure = .rel) = true ↔ ∃ k, k < n ∧ u8At b (curveStart b (j + k)) = 2) := by
  induction n generalizing j l with
  | zero => simp [curvesFrom] at h; obtain ⟨h, rfl⟩ := h; simp [h]
  | succ n ih =>
    simp only [curvesFrom, Option.bind_eq_bind, Option.pure_def, Option.bind_eq_some_iff, Option.some.injEq] at h
    obtain ⟨⟨c, o⟩, hc, r, hr, rfl⟩ := h
    obtain ⟨m, rfl, hm⟩ := meets_of_curveAt hc
    obtain ⟨p, q, s⟩ := ih (j := j + 1) hr
    have e (k : Nat) : j + (k + 1) = j + 1 + k := by omega
    have hrel : c.measure = .rel ↔ u8At b (curveStart b j) = 2 := by
      rw [← measureOf_rel, hm, Option.some.injEq]
    refine ⟨Nat.forall_lt_succ_left.2 ⟨m, fun k hk => ?_⟩, q.trans (by rw [← e]), ?_⟩
    · rw [e k]; exact p k hk
    · rw [List.any_cons, Bool.or_eq_true, s, decide_eq_true_iff, hrel, Nat.exists_lt_succ_left]
      exact or_congr_right (exists_congr fun k => by rw [e k])

theorem curvesFrom_of_meets {b : List Byte} {n j : Nat} (h : ∀ k, k < n → CurveMeets b (curveStart b (j + k)))
    (e : b.length = curveStart b (j + n)) : ∃ l, curvesFrom b n (curveStart b j) = some l := by
  induction n generalizing j with
  | zero => exact ⟨[], by simp [curvesFrom, e]⟩
  | succ n ih =>
    obtain ⟨c, hc⟩ := curveAt_of_meets (h 0 (by omega))
    obtain ⟨r, hr⟩ := ih (j := j + 1) (fun k hk => by have := h (k + 1) (by omega); rwa [show j + (k + 1) = j + 1 + k by omega] at this)
      (by rw [e]; congr 1; omega)
    refine ⟨c :: r, ?_⟩
    simp only [curvesFrom, Option.bind_eq_bind, Option.pure_def, Option.bind_eq_some_iff, Option.some.injEq]
    exact ⟨_, hc, r, hr, rfl⟩

/-- The LIMITS section is read exactly when it meets its ranges and conditions (R4). -/
theorem parseLimits_isSome (b : List Byte) : (parseLimits b).isSome = true ↔ LimitsMeets b := by
  simp only [parseLimits, Option.isSome_iff_exists, Option.bind_eq_bind, Option.bind_eq_some_iff, inRange_eq_some]
  constructor
  · rintro ⟨l, n, ⟨c, rfl⟩, h⟩
    obtain ⟨p, q, -⟩ := meets_of_curvesFrom (j := 0) h
    simp only [Nat.zero_add] at p q
    exact ⟨c, p, q⟩
  · rintro ⟨c, p, q⟩
    obtain ⟨l, h⟩ := curvesFrom_of_meets (j := 0) (n := u8At b 0) (by simpa using p) (by simpa using q)
    exact ⟨l, _, ⟨c, rfl⟩, h⟩

/-- Whether the LIMITS section read holds a REL curve (R4). -/
theorem parseLimits_rel {b : List Byte} {l : List Curve} (h : parseLimits b = some l) :
    l.any (fun c => c.measure = .rel) = true ↔ ∃ k, k < u8At b 0 ∧ u8At b (curveStart b k) = 2 := by
  simp only [parseLimits, Option.bind_eq_bind, Option.bind_eq_some_iff, inRange_eq_some] at h
  obtain ⟨n, ⟨c, rfl⟩, h⟩ := h
  simpa using (meets_of_curvesFrom (j := 0) h).2.2

/-! ### SWEEP -/

theorem segmentsAscend_iff (l : List Segment) :
    segmentsAscend l = true ↔ ∀ i (h : i + 1 < l.length), l[i].stop < l[i + 1].start := by
  induction l with
  | nil => simp [segmentsAscend]
  | cons a l ih =>
    cases l with
    | nil => simp [segmentsAscend]
    | cons b l =>
      simp only [segmentsAscend, Bool.and_eq_true, decide_eq_true_iff, ih]
      constructor
      · rintro ⟨h, g⟩ i hi
        cases i with
        | zero => exact h
        | succ i => exact g i (by simpa using hi)
      · exact fun h => ⟨h 0 (by simp), fun i hi => h (i + 1) (by simpa using hi)⟩

/-- The fields of the segment at `o` (R182). -/
def segmentFields (b : List Byte) (o : Nat) : Segment :=
  ⟨u32At b o, u32At b (o + 4), u8At b (o + 8), s16At b (o + 9), u8At b (o + 11), u16At b (o + 12), u8At b (o + 14),
    decide (u8At b (o + 15) = 1)⟩

/-- A segment is read exactly when it keeps its ranges, and its fields are read as they stand (R3). -/
theorem segmentAt_eq_some (b : List Byte) (o : Nat) (g : Segment) :
    segmentAt b o = some g ↔ SegmentMeets b o ∧ segmentFields b o = g := by
  simp only [segmentAt, Option.bind_eq_bind, Option.pure_def]
  simp [Option.bind_eq_some_iff, inRange_eq_some, inRangeInt_eq_some, flagOf_eq_some]
  constructor
  · rintro ⟨a, b, c, d, e, f, h, ⟨⟨i, j⟩, rfl⟩ | ⟨⟨i, j⟩, rfl⟩⟩
    · exact ⟨⟨a, b, c, d, e, f, h, i⟩, by simp [segmentFields, j]⟩
    · exact ⟨⟨a, b, c, d, e, f, h, i⟩, by simp [segmentFields, j]⟩
  · rintro ⟨⟨a, d, c, e, f, h, i, j⟩, rfl⟩
    refine ⟨a, d, c, e, f, h, i, ?_⟩
    by_cases k : u8At b (o + 15) = 1
    · exact .inr ⟨⟨j, k⟩, by simp [segmentFields, k]⟩
    · exact .inl ⟨⟨j, k⟩, by simp [segmentFields, k]⟩

/-- The fields of a SWEEP section (R182). -/
def sweepFields (b : List Byte) : Sweep where
  segments := (List.range (u8At b 0)).map fun k => segmentFields b (5 + 16 * k)
  stopOnFail := decide (u8At b 1 = 1)
  reference := if u8At b 2 = 0xFF then none else some (u8At b 2)
  minResponse := s16At b 3

theorem expandFrom_length (k i : Nat) (l : List Segment) :
    (expandFrom k i l).length = (l.map fun g => (segmentFreqs g).length).sum := by
  induction l generalizing k i with
  | nil => rfl
  | cons g l ih => simp [expandFrom, ih]

/-- The points of the fields of a SWEEP section are those that its point count counts (R46). -/
theorem sweepPointCount_eq (b : List Byte) :
    ((sweepFields b).segments.map fun g => (segmentFreqs g).length).sum = sweepPointCount b := by
  simp only [sweepFields, List.map_map, sweepPointCount]
  congr 1
  refine List.map_congr_left fun k _ => ?_
  simp only [Function.comp_apply, segmentFields, segmentFreqs, show 5 + 16 * k + 4 = 9 + 16 * k by omega,
    show 5 + 16 * k + 8 = 13 + 16 * k by omega]

/-- A SWEEP section that meets its own ranges is read, and its fields are read as they stand (R3). -/
theorem parseSweep_eq_some (b : List Byte) (w : Sweep) : parseSweep b = some w ↔
    ((1 ≤ u8At b 0 ∧ u8At b 0 ≤ 8) ∧ b.length = 5 + 16 * u8At b 0 ∧ u8At b 1 ≤ 1 ∧ (u8At b 2 = 0xFF ∨ u8At b 2 ≤ 127) ∧
      (-15000 ≤ s16At b 3 ∧ s16At b 3 ≤ 15000) ∧ (∀ k, k < u8At b 0 → SegmentMeets b (5 + 16 * k)) ∧
      ∀ k, k + 1 < u8At b 0 → u32At b (9 + 16 * k) < u32At b (5 + 16 * (k + 1))) ∧ sweepFields b = w := by
  have hs (k : Nat) (g : Segment) := segmentAt_eq_some b (5 + 16 * k) g
  have e9 (k : Nat) : 5 + 16 * k + 4 = 9 + 16 * k := by omega
  simp only [parseSweep, Option.bind_eq_bind]
  by_cases hk : u8At b 2 = 0xFF <;> by_cases hj : u8At b 1 = 1 <;>
    simp [hk, hj, Option.bind_eq_some_iff, inRange_eq_some, inRangeInt_eq_some, flagOf_eq_some, mapM_eq_some hs,
      segmentsAscend_iff, segmentFields, sweepFields, e9, and_assoc]

/-- The expanded list of a sweep, which stands when it holds at most 128 points (R3, R46). -/
theorem expandSweep_eq_some (w : Sweep) (l : List PointEntry) : expandSweep w = some l ↔
    (w.segments.map fun g => (segmentFreqs g).length).sum ≤ 128 ∧ expandFrom 0 0 w.segments = l := by
  unfold expandSweep
  rw [List.length_flatten, List.map_map, show List.length ∘ segmentFreqs = fun g => (segmentFreqs g).length from rfl]
  split <;> simp_all

/-- The SWEEP section is read, expanded, and its reference found in the list exactly when it meets its ranges and conditions; what
is read are its fields and a list of as many points as it counts (R3, R46). -/
theorem sweep_read (b : List Byte) (w : Sweep) (l : List PointEntry) :
    (parseSweep b = some w ∧ expandSweep w = some l ∧ referenceFits w l = true) ↔
      SweepMeets b ∧ sweepFields b = w ∧ expandFrom 0 0 w.segments = l := by
  rw [parseSweep_eq_some, expandSweep_eq_some]
  constructor
  · rintro ⟨⟨⟨c, n, f, r, m, s, a⟩, rfl⟩, ⟨p, rfl⟩, h⟩
    rw [sweepPointCount_eq] at p
    refine ⟨⟨c, n, f, r, m, s, a, p, fun hr => ?_⟩, rfl, rfl⟩
    simpa [referenceFits, sweepFields, hr, expandFrom_length, ← sweepPointCount_eq] using h
  · rintro ⟨⟨c, n, f, r, m, s, a, p, q⟩, rfl, rfl⟩
    refine ⟨⟨⟨c, n, f, r, m, s, a⟩, rfl⟩, ⟨by rwa [sweepPointCount_eq], rfl⟩, ?_⟩
    rw [← sweepPointCount_eq] at q
    by_cases hr : u8At b 2 = 0xFF
    · simp [referenceFits, sweepFields, hr]
    · simpa [referenceFits, sweepFields, hr, expandFrom_length] using q hr

/-! ### The directory -/

/-- An entry that check 5 finds sound breaks no condition of it (R14). -/
theorem entrySound_of_sound {image : List Byte} {i : Nat}
    (h : (sectionAt image i).sound image.length (16 + 6 * u16At image 2) ((List.range i).map (sectionAt image)) = true) :
    EntrySound image i := by
  simp only [Section.sound, Section.overlaps, Bool.and_eq_true, decide_eq_true_iff, List.all_map, List.all_eq_true,
    List.mem_range, Function.comp_apply, Bool.not_eq_true', decide_eq_false_iff_not] at h
  obtain ⟨⟨⟨⟨t, s⟩, l⟩, n⟩, a⟩ := h
  refine ⟨t, s, l, n, fun j hj b hb => a j hj ?_⟩
  unfold inSection at hb
  omega

/-- An entry that breaks no condition of check 5, after entries that hold bytes, is found sound by it (R14). -/
theorem sound_of_entrySound {image : List Byte} {i : Nat} (h : EntrySound image i)
    (before : ∀ j, j < i → 1 ≤ (sectionAt image j).length) :
    (sectionAt image i).sound image.length (16 + 6 * u16At image 2) ((List.range i).map (sectionAt image)) = true := by
  simp only [Section.sound, Section.overlaps, Bool.and_eq_true, decide_eq_true_iff, List.all_map, List.all_eq_true,
    List.mem_range, Function.comp_apply, Bool.not_eq_true', decide_eq_false_iff_not]
  refine ⟨⟨⟨⟨h.type, h.single⟩, h.length⟩, h.inside⟩, fun j hj ho => ?_⟩
  have hl := before j hj
  have he := h.length
  refine h.apart j hj (max (sectionAt image j).offset (sectionAt image i).offset) ?_
  unfold inSection
  omega

/-! ### A section -/

/-- A section of the seven types is read exactly when it meets its own ranges and conditions (R15). -/
theorem Parts.read_isSome (image : List Byte) (i k : Nat) (p : Parts)
    (h : 1 ≤ (sectionAt image i).type ∧ (sectionAt image i).type ≤ 7) :
    (p.read image k (sectionAt image i)).isSome = true ↔ SectionMeets image i := by
  have sweep (b : List Byte) (q : Sweep × List PointEntry → Parts) : (do
      let w ← parseSweep b
      let points ← expandSweep w
      if referenceFits w points then some (q (w, points)) else none).isSome = true ↔ SweepMeets b := by
    simp only [Option.isSome_iff_exists, Option.bind_eq_bind, Option.bind_eq_some_iff]
    constructor
    · rintro ⟨_, w, hw, l, hl, hr⟩
      split at hr
      · next hf => exact ((sweep_read b w l).1 ⟨hw, hl, hf⟩).1
      · cases hr
    · intro m
      obtain ⟨a, c, d⟩ := (sweep_read b _ _).2 ⟨m, rfl, rfl⟩
      exact ⟨_, _, a, _, c, if_pos d⟩
  have only {α : Type} (o : Option α) (f : α → Parts) : (o.bind fun x => some (f x)).isSome = o.isSome := by cases o <;> rfl
  unfold Parts.read SectionMeets
  generalize (sectionAt image i).bytes image = b
  generalize (sectionAt image i).type = t at h
  obtain rfl | rfl | rfl | rfl | rfl | rfl | rfl : t = 1 ∨ t = 2 ∨ t = 3 ∨ t = 4 ∨ t = 5 ∨ t = 6 ∨ t = 7 := by omega
  · simpa using sweep b fun x => { p with sweep := some x }
  · simp [← parseLimits_isSome, only]
  · simp [← parseBins_isSome, only]
  · simp [← parseGuard_isSome, only]
  · simp [← parsePolicy_isSome, only]
  · simp [← parseMarker_isSome, only]
  · simp [← parseLines_isSome, only]

end Sys2Proof.Machine
end

