-- ==== Sys2Proof/Laws/Values.lean ====
section
/-! SUPPORT. What the measurement values are: the search of `greatest`, the logarithm that R87 rounds, and the exact values of an
analysis. -/

namespace Sys2Proof.Machine
open Sys2Proof

/-- What the search for the greatest value finds, for a test that passes everywhere below a value that it passes. -/
theorem greatest_spec {test : Int → Bool} (anti : ∀ m n, m ≤ n → test n = true → test m = true) (k : Nat) (lo : Int) :
    lo ≤ greatest test k lo ∧ (greatest test k lo = lo ∨ test (greatest test k lo) = true) ∧
      ∀ m, greatest test k lo < m → m < lo + 2 ^ k → test m = false := by
  induction k generalizing lo with
  | zero => exact ⟨Int.le_refl _, .inl rfl, fun m h h' => by simp [greatest] at h h'; omega⟩
  | succ k ih =>
    have p : (0 : Int) < 2 ^ k := by positivity
    unfold greatest
    split
    · next h =>
      obtain ⟨a, b, c⟩ := ih (lo + 2 ^ k)
      refine ⟨by omega, .inr (b.elim (fun e => by rw [e]; exact h) id), fun m h1 h2 => c m h1 ?_⟩
      rw [Int.pow_succ] at h2; omega
    · next h =>
      obtain ⟨a, b, c⟩ := ih lo
      refine ⟨a, b, fun m h1 h2 => ?_⟩
      by_cases hm : m < lo + 2 ^ k
      · exact c m h1 hm
      · exact Bool.eq_false_iff.2 fun e => h (anti _ _ (by omega) e)

/-- The comparison of powers that decides the logarithm: p to the 2,000 at least q to the 2,000 times 10 to the 2n − 1. -/
theorem logReaches_iff {p q : Nat} (hp : 0 < p) (hq : 0 < q) (n : Int) :
    logReaches (p ^ 2000) (q ^ 2000) n = true ↔ (n : ℝ) - 1 / 2 ≤ 1000 * Real.logb 10 (p / q) := by
  have hp' : (0 : ℝ) < p := by exact_mod_cast hp
  have hq' : (0 : ℝ) < q := by exact_mod_cast hq
  have hl : 1000 * Real.logb 10 ((p : ℝ) / q) = Real.logb 10 ((p : ℝ) ^ 2000) / 2 - Real.logb 10 ((q : ℝ) ^ 2000) / 2 := by
    rw [Real.logb_div hp'.ne' hq'.ne', Real.logb_pow, Real.logb_pow]; push_cast; ring
  have h10 : (1 : ℝ) < 10 := by norm_num
  have key (k : Nat) (x y : ℝ) (hx : 0 < x) (hy : 0 < y) : x * 10 ^ k ≤ y ↔ Real.logb 10 x + k ≤ Real.logb 10 y := by
    rw [← Real.logb_le_logb h10 (by positivity) hy, Real.logb_mul hx.ne' (by positivity), Real.logb_pow, Real.logb_self_eq_one h10,
      mul_one]
  unfold logReaches
  split
  · next h =>
    have e : ((2 * n - 1).toNat : ℝ) = 2 * n - 1 := by
      have : (((2 * n - 1).toNat : Int) : ℝ) = ((2 * n - 1 : Int) : ℝ) := by rw [Int.toNat_of_nonneg (by omega)]
      push_cast at this; exact this
    have := key (2 * n - 1).toNat ((q : ℝ) ^ 2000) ((p : ℝ) ^ 2000) (by positivity) (by positivity)
    rw [decide_eq_true_iff, ← @Nat.cast_le ℝ]
    push_cast
    rw [this, hl, e]
    constructor <;> intro h <;> linarith
  · next h =>
    have e : ((1 - 2 * n).toNat : ℝ) = 1 - 2 * n := by
      have : (((1 - 2 * n).toNat : Int) : ℝ) = ((1 - 2 * n : Int) : ℝ) := by rw [Int.toNat_of_nonneg (by omega)]
      push_cast at this; exact this
    rw [decide_eq_true_iff, ← @Nat.cast_le ℝ]
    push_cast
    rw [hl, ← Real.logb_le_logb h10 (by positivity) (by positivity), Real.logb_mul (by positivity) (by positivity),
      Real.logb_pow 10 10, Real.logb_self_eq_one h10, mul_one, e]
    constructor <;> intro h <;> linarith

/-- An odd power of 10 is no quotient of two powers with an even exponent. -/
theorem pow_mul_ten_ne {p q : Nat} (hq : 0 < q) (k : Nat) : q ^ 2000 * 10 ^ (2 * k + 1) ≠ p ^ 2000 := by
  intro h
  have := congrArg (padicValNat 2) h
  rw [padicValNat.mul (by positivity) (by positivity), padicValNat.pow, padicValNat.pow, padicValNat.pow] at this
  have h10 : padicValNat 2 10 = 1 := by
    rw [show (10 : Nat) = 2 * 5 from rfl, padicValNat.mul (by norm_num) (by norm_num), padicValNat_self,
      padicValNat.eq_zero_of_not_dvd (by norm_num)]
  rw [h10] at this
  omega

/-- The logarithm of a quotient of naturals is never halfway between two of the values it is rounded to. -/
theorem logReaches_strict {p q : Nat} (hp : 0 < p) (hq : 0 < q) (n : Int) :
    (n : ℝ) - 1 / 2 ≠ 1000 * Real.logb 10 (p / q) := by
  intro h
  have a := (logReaches_iff hp hq n).2 h.le
  have b := (logReaches_iff hq hp (1 - n)).2 (by
    rw [show (q : ℝ) / p = ((p : ℝ) / q)⁻¹ by rw [inv_div], Real.logb_inv]; push_cast; linarith)
  unfold logReaches at a b
  split at a <;> split at b <;> try omega
  · rw [decide_eq_true_iff] at a b
    obtain ⟨k, hk⟩ : ∃ k, (2 * n - 1).toNat = 2 * k + 1 := ⟨(n - 1).toNat, by omega⟩
    rw [show (1 - 2 * (1 - n)).toNat = (2 * n - 1).toNat by congr 1; omega] at b
    exact pow_mul_ten_ne (p := p) hq k (hk ▸ Nat.le_antisymm a b)
  · rw [decide_eq_true_iff] at a b
    obtain ⟨k, hk⟩ : ∃ k, (1 - 2 * n).toNat = 2 * k + 1 := ⟨(-n).toNat, by omega⟩
    rw [show (2 * (1 - n) - 1).toNat = (1 - 2 * n).toNat by congr 1; omega] at b
    exact pow_mul_ten_ne (p := q) hp k (hk ▸ Nat.le_antisymm b a)

/-- What the logarithm gives: the measurement value of 1,000 × log10(p / q) (R87). -/
theorem log1000_measures {p q : Nat} (hp : 0 < p) (hq : 0 < q) : Measures (1000 * Real.logb 10 ((p : ℝ) / q)) (log1000 p q) := by
  obtain ⟨a, b, c⟩ := greatest_spec (test := logReaches (p ^ 2000) (q ^ 2000)) (fun m n h e => by
    rw [logReaches_iff hp hq] at e ⊢
    have : (m : ℝ) ≤ n := by exact_mod_cast h
    linarith) 15 (-15000)
  unfold log1000
  generalize greatest (logReaches (p ^ 2000) (q ^ 2000)) 15 (-15000) = g at a b c ⊢
  have lo : -15000 < g → (g : ℝ) - 1 / 2 < 1000 * Real.logb 10 (p / q) := fun h =>
    lt_of_le_of_ne ((logReaches_iff hp hq g).1 (b.resolve_left (by omega))) (logReaches_strict hp hq g)
  have hi : g < 15000 → 1000 * Real.logb 10 ((p : ℝ) / q) < g + 1 / 2 := fun h => by
    have := c (g + 1) (by omega) (by omega)
    rw [Bool.eq_false_iff, Ne, logReaches_iff hp hq] at this
    push_cast at this; linarith
  have hc : clampLevel g = if 15000 < g then 15000 else g := by
    unfold clampLevel clampTo; split <;> omega
  rw [hc]
  split
  · next h =>
    refine ⟨by omega, fun _ => ?_, fun h => by omega⟩
    have := lo (by omega)
    have : ((15000 : Int) : ℝ) < g := by exact_mod_cast h
    push_cast at *; linarith
  · exact ⟨by omega, lo, hi⟩

theorem foldl_add_eq {α : Type} (f : α → Int) (l : List α) (a : Int) :
    l.foldl (fun a x => a + f x) a = a + (l.map f).sum := by
  induction l generalizing a with
  | nil => simp
  | cons x l ih => simp [ih, add_assoc]

/-- The accumulators hold the sums of R84. -/
theorem inPhaseSum_eq (l : List (Int × Phase)) (k : Nat) : inPhaseSum l k = (l.map fun x => x.1 * cosineAt k x.2).sum := by
  rw [inPhaseSum, foldl_add_eq, zero_add]; rfl

theorem quadSum_eq (l : List (Int × Phase)) (k : Nat) : quadSum l k = (l.map fun x => x.1 * sineAt k x.2).sum := by
  rw [quadSum, foldl_add_eq, zero_add]; rfl

/-- A list has a greatest value of a function, 0 standing for the empty list. -/
theorem exists_greatest {α : Type} (f : α → ℝ) (l : List α) :
    ∃ P, (∀ x ∈ l, f x ≤ P) ∧ ((P = 0 ∧ l = []) ∨ ∃ x ∈ l, P = f x) := by
  induction l with
  | nil => exact ⟨0, nofun, .inl ⟨rfl, rfl⟩⟩
  | cons a l ih =>
    obtain ⟨P, hP, hl⟩ := ih
    rcases hl with ⟨rfl, rfl⟩ | ⟨y, hy, rfl⟩
    · exact ⟨f a, by simp, .inr ⟨a, by simp, rfl⟩⟩
    · rcases le_total (f a) (f y) with h | h
      · exact ⟨f y, by simpa [h] using hP, .inr ⟨y, by simp [hy], rfl⟩⟩
      · exact ⟨f a, by simpa using fun x hx => (hP x hx).trans h, .inr ⟨a, by simp, rfl⟩⟩

/-- Every half has exact analysis values (R83 to R86). -/
theorem Half.analysis_exists (h : Half) : ∃ (I Q : Nat → Int) (A : Nat → ℝ) (D P : ℝ),
    h.Analysis (min h.harmonics (2399999 / h.freq)) I Q A D P := by
  obtain ⟨P, hP, hl⟩ := exists_greatest _ h.samples
  exact ⟨_, _, _, _, P, rfl, fun _ => rfl, fun _ => rfl, fun _ => rfl, rfl, hP, hl⟩

end Sys2Proof.Machine
end

