-- ==== Sys2Proof/Tests/Slice0.lean ====
section
/-! SUPPORT. Tests: ill-formed commands refused, the spec's worked examples, one step of each kind of command, and for each
statement of the certificates states and operands that meet its hypotheses. -/

set_option Elab.async false
set_option maxRecDepth 20000

namespace Sys2Proof.Tests
open Sys2Proof Sys2Proof.Machine

/-! ### Small states -/

/-- The state after one command. -/
def after (i : Instr) (s : State) : State :=
  match exec i s with
  | .next t => t
  | .fault _ => s
  | .refused _ => s

/-- One segment from 100,000 to 125,000 cHz (03_tone_sweep.md, Worked example: expanding a segment). -/
def seg : Segment := ⟨100000, 125000, 12, -2000, 8, 8, 3, true⟩

/-- The curve of 05_point_analysis.md, Judgement against one curve. -/
def rnbCurve : Curve := ⟨.rnb, .failAbove, 1, [⟨80000, -3500⟩, ⟨125000, -4500⟩]⟩

/-- A plan: the guard of 04_capture_and_the_ambient_guard.md, two attempts, a window of 5, and the devices and preferences of
09_the_marker_link_and_labels.md (Worked example: negotiation and two jobs). -/
def content : PlanContent where
  id := 17
  sweep := ⟨[seg], false, none, 6000⟩
  limits := [rnbCurve]
  bins := ⟨[⟨4, 1⟩, ⟨5, 2⟩], 11⟩
  guard := ⟨7000, 2, 50, 8000000⟩
  policy := ⟨2, 5, 3, 9000⟩
  marker := some ⟨[⟨0x31, .label⟩, ⟨0x32, .reject⟩, ⟨0x33, .label⟩], [3, 2], 5⟩
  lines := none

/-- Its points. -/
def points : List PointEntry := (expandSweep content.sweep).getD []

/-- The state after reset with the plan `c` active. -/
def planned (c : PlanContent) : State :=
  { State.reset with loader := { Loader.reset with active := some ⟨[], c, points⟩ } }

/-- A calibration record. -/
def cal : Calibration := ⟨11400, 11250, 12000⟩

/-- A state in which nest A can start: a production unit LOADED, the plan active, calibrated, verified once. -/
def startable : State :=
  { planned content with
    nestA := { Nest.reset with state := .loaded, kind := some .production, serial := some 7, attempt := some 1 }
    capture := { Capture.reset with active := some cal }
    units := { UnitTable.reset with remaining := 1 } }

/-- Nest A in its sweep, in generator mode `m`. -/
def sweeping (m : GenMode) : State :=
  { startable with
    nestA := { startable.nestA with state := .measuring, slots := List.replicate 5 none, judged := [[]], worst := [none] }
    chain := { Chain.reset with holder := some (.nest .a) }
    gen := { Generator.reset with mode := m, inc := 89478485, amp := 838861, claimant := some (.nest .a) } }

/-- A half in state `st` that holds a window of claimant `c`, of two samples. -/
def halfOf (st : HalfState) (c : Claimant) : Half :=
  { Half.reset with state := st, claimant := c, freq := 100000, harmonics := 3, guard := true, length := 2 }

/-- The state with a half. -/
def withHalf (h : Half) (s : State) : State := { s with capture := { s.capture with half0 := h } }

/-- The engine with half 0 alone under analysis. -/
def analysing (s : State) : State := { s with engine := { Engine.reset with under := some .zero, queue := [.zero] } }

/-- A chain check that holds the chain, in generator mode `m`. -/
def checking (m : GenMode) : State :=
  { State.reset with
    chain := { Chain.reset with holder := some .check }
    gen := { Generator.reset with mode := m, inc := 89478485, amp := 838861, claimant := some .check } }

/-- A port that runs request `r`, taken or not. -/
def running (r : Request) (taken : Bool) : Port :=
  { Port.reset with slot := .running, running := some ⟨r, Vector.replicate 64 0, taken⟩ }

/-- The state with the Station Port running `r`. -/
def stationRuns (r : Request) (taken : Bool) (s : State) : State := { s with station := running r taken }

/-- The loader in state `st`. -/
def loading (st : LoaderState) (s : State) : State :=
  { s with loader := { s.loader with state := st, staged := some ⟨content, points⟩, declared := 64 } }

/-- A device in state `st`. -/
def dev (st : DeviceState) : Device := ⟨0x31, .label, st, none, none, some 2, false, 2, true, none⟩

/-- A job. -/
def job : Job := ⟨some 1, 1306, .a, false, 0, 1, 1, 17, .label, false, 0, [none, none, none, none]⟩

/-- Device 0 in state `st`, with work `w` under way on the bus, and jobs `js`, the first bound to it at page `g`. -/
def marking (st : DeviceState) (w : BusWork) (js : List Job) (g : Nat) : State :=
  { planned content with
    marker := { Marker.reset with
      devices := [dev st], bus := some ⟨0, w, .live⟩, queue := js, enqueued := BitVec.ofNat 32 js.length
      head := { Head.clear with bound := if js.isEmpty then none else some 0, page := g, timer := if js.isEmpty then none else some 5 } } }

/-- Line 0 under function `f`, with its levels. -/
def lined (f : LineFunction) (pin : Bool) (level : Option Bool) (timer : Bool) (s : State) : State :=
  { s with lines := { s.lines with line := s.lines.line.set 0 ⟨f, pin, level, timer⟩ } }

/-- A command answers the state after it. -/
theorem exec_after (i : Instr) (s : State) : exec i s = .next (after i s) := by
  obtain ⟨t, h⟩ := exec_next i s
  simp [after, h]

/-! ### Well-formedness, one ill-formed command for each check -/

theorem test_wf_params : (Instr.identify .line (List.replicate 64 0) .atOnce).wf = true ∧
    (Instr.identify .line (List.replicate 65 0) .atOnce).wf = false := by decide +kernel
theorem test_wf_unknown : (Instr.unknownRequest .line 0x77 []).wf = true ∧ (Instr.unknownRequest .line 0x10 []).wf = false ∧
    (Instr.unknownRequest .line 0x77 (List.replicate 65 0)).wf = false := by decide +kernel
theorem test_wf_area : (Instr.parameterAreaWrite .line 1 0x40 [1, 2] .whole).wf = true ∧
    (Instr.parameterAreaWrite .line 1 0 [1, 2] .whole).wf = false ∧
    (Instr.parameterAreaWrite .line 1 1 [1] .whole).wf = false ∧
    (Instr.parameterAreaWrite .line 1 1 [1] .interrupted).wf = true := by decide +kernel
theorem test_wf_window : (Instr.windowEnd []).wf = false ∧ (Instr.windowEnd [(0, 0)]).wf = true := by decide +kernel

/-! ### The spec's worked examples -/

/-- R1: the nine ASCII bytes of "123456789". -/
theorem test_crc : crc32 [0x31, 0x32, 0x33, 0x34, 0x35, 0x36, 0x37, 0x38, 0x39] = 0xCBF43926 := by decide +kernel
/-- 03_tone_sweep.md, Worked example: expanding a segment. -/
theorem test_expansion : points.map (fun p => p.freq) = [100000, 105946, 112246, 118921, 125000] ∧
    (points.map (fun p => p.inc)).take 2 = [89478485, 94798876] ∧ (points.map (fun p => p.amp)).head? = some 838861 ∧
    (points.map (fun p => p.cEff)).head? = some 8 := by decide +kernel
/-- 05_point_analysis.md: N = 384 from p0 = 12,345,678; at 2,000 cHz 2,400 below p0 = 1,788,866 and 2,399 from there. -/
theorem test_window_length : windowSamples 8 12345678 89478485 = 384 ∧ phaseIncrement 2000 = 1789570 ∧
    effectiveCycles 64 2000 = 1 ∧ windowSamples 1 1788865 1789570 = 2400 ∧ windowSamples 1 1788866 1789570 = 2399 := by
  decide +kernel
/-- 05_point_analysis.md, Outputs: −2,000, −3,959, −4,602; A_1 = 8,000,000 gives −41, and 5 gives −12,449. -/
theorem test_outputs : levelFs (5277496010304 ^ 2) 384 = -2000 ∧ thdOf 77413730 703687777321 = -3959 ∧
    log1000 (4195 ^ 2) (838861 ^ 2) = -4602 ∧ log1000 (8000000 ^ 2) (8388607 ^ 2) = -41 ∧
    log1000 (5 ^ 2) (8388607 ^ 2) = -12449 := by decide +kernel
/-- 05_point_analysis.md, Values at the limits of the arithmetic. -/
theorem test_harmonics : effectiveHarmonics 6 1500000 = 1 ∧ effectiveHarmonics 6 1199999 = 2 ∧
    effectiveHarmonics 3 100000 = 3 := by decide
/-- R97, its table. -/
theorem test_limits : limitAt 100000 rnbCurve.breakpoints = -3944 ∧ limitAt 101000 rnbCurve.breakpoints = -3966 ∧
    limitAt 141421 [⟨50000, 8800⟩, ⟨200000, 9400⟩] = 9165 ∧ limitAt 200000 [⟨50000, 8800⟩, ⟨200000, 9400⟩] = 9400 := by decide
/-- 05_point_analysis.md: the margin −658 passes. -/
theorem test_margin : marginOf rnbCurve 100000 (-4602) = -658 ∧ rnbCurve.condition.fails (-658) = false := by decide
/-- 04_capture_and_the_ambient_guard.md: guard levels 7,398, 7,709 and 6,755. -/
theorem test_guard_levels : guardLevel 41943 12000 = 7398 ∧ guardLevel 60000 12000 = 7709 ∧ guardLevel 20000 12000 = 6755 := by
  decide +kernel
/-- 08_yield_accounts_and_shift_records.md, Worked example: closing a shift. -/
theorem test_yields : yieldOf 430 462 = some 9307 ∧ yieldOf 448 462 = some 9696 ∧ yieldOf 1630 1742 = some 9357 ∧
    yieldOf 1688 1742 = some 9690 ∧ yieldOf 0 0 = none := by decide
/-- 08_yield_accounts_and_shift_records.md, Worked example: the yield alarm. -/
theorem test_alarm_limit : (planned content).alarmLimit = some 57 := by decide +kernel
/-- 09_the_marker_link_and_labels.md: FULL needs 3 pages against 2, TRACE qualifies; device 2 supports neither. -/
theorem test_formats : resolveFormat [3, 2] 7 2 = some 2 ∧ resolveFormat [3, 2] 1 4 = none := by decide

/-! ### One step of a command -/

/-- 03_tone_sweep.md, Worked example: the timing of one sweep start: sample 481 begins a window of 384 samples with phase
89,478,325, and the second point's window begins with phase 89,478,037. -/
theorem test_chain_check_timing :
    let s := after .windowBegin (after (.chainCheck .station [] .atOnce) State.reset)
    let t := after .windowBegin (after (.windowEnd (List.replicate 384 (0, 0))) s)
    (s.gen.acc, s.gen.samples, s.capture.half0.length) = (89478325, 481, 384) ∧
    (t.gen.acc, t.gen.samples, t.capture.half1.length, t.capture.half1.input) = (89478037, 480, 384, .b) := by decide +kernel
/-- 10_station_and_line_ports.md, Worked example: a collision and an abandon on the Station Port. -/
theorem test_collision_and_abandon :
    let s := { loading .receiving State.reset with
      station := { Port.reset with slot := .done, sequence := 41, events := 0, mask := ~~~0x6000 } }
    let a := after (.planClose .station [] .atOnce) s
    let b := after (.closeShift .station [] .later) a
    let c := after (.abandon .station []) b
    let d := after (.readEvents .station [] .atOnce) c
    (a.station.slot, a.station.sequence, a.attention .station) = (.running, 42, false) ∧
    (b.station.events, b.attention .station, b.line.events) = (0x2000, true, s.line.events) ∧
    (c.station.slot, c.station.reply.toList.take 3, c.loader.state) = (.done, [0x12, 42, 16], .receiving) ∧
    (d.station.sequence, d.station.events, d.station.reply.toList.take 7) = (43, 0, [0x48, 43, 0, 0, 8, 0, 0x20]) := by
  decide +kernel
/-- R180: a reply carries code, sequence, status, subcode and length; R173: NOT_ON_THIS_PORT is 2, UNKNOWN_REQUEST 1. -/
theorem test_refusals :
    (after (.loadUnit .station [1, 1] .atOnce) State.reset).station.reply.toList.take 5 = [0x20, 1, 2, 0, 0] ∧
    (after (.unknownRequest .line 0x77 []) State.reset).line.reply.toList.take 5 = [0x77, 1, 1, 0, 0] ∧
    (after (.planActivate .station [] .atOnce) State.reset).station.reply.toList.take 5 = [0x13, 1, 4, 0, 16] := by decide +kernel
/-- 08_yield_accounts_and_shift_records.md, Worked example: units conserved, its first two rows and the release at 503. -/
theorem test_loads :
    let s := { State.reset with units := { UnitTable.reset with serialCounter := 501 } }
    let t := after (.loadUnit .line [2, 1] .atOnce) (after (.loadUnit .line [1, 1] .atOnce) s)
    (t.nestA.serial, t.nestB.serial, t.accounts.counts.issued, t.units.serialCounter) = (some 501, some 502, 2, 503) ∧
    (after (.releaseNest .line [1] .atOnce) t).accounts.counts.releasedUntested = 1 := by decide +kernel
/-- R116: the counter is 0 after 16,777,215 has been issued. -/
theorem test_last_serial :
    let t := after (.loadUnit .line [1, 1] .atOnce) { State.reset with units := { UnitTable.reset with serialCounter := 16777215 } }
    (t.nestA.serial, t.units.serialCounter) = (some 16777215, 0) ∧
    (after (.loadUnit .line [2, 1] .atOnce) t).line.reply.toList.take 3 = [0x20, 2, 10] := by decide +kernel
/-- R116: values held by a nest or listed are passed over, and one passed over at 16,777,215 leaves no serial. -/
theorem test_passed_over :
    let s (v k : Nat) := { State.reset with
      units := { UnitTable.reset with serialCounter := v, retest := [⟨k, 1, .fail, 4⟩] }
      nestA := { Nest.reset with serial := some v } }
    ((s 501 502).candidate, (s 501 503).candidate, (s 16777214 16777215).candidate) = (503, 502, 0) := by decide +kernel
/-- R27, R28, R127: the start that spends the last unit marks both ports. -/
theorem test_start :
    let t := after (.startNest .line [1] .atOnce) { startable with station := { Port.reset with unverified := false } }
    (t.nestA.state, t.nestA.tag, t.units.remaining, t.station.unverified, t.amplifier) = (.measuring, 1, 0, true, some .a) := by
  decide +kernel
/-- R32: an abort gives the unit back to LOADED and counts it. -/
theorem test_abort :
    let t := after (.abortNest .station [1] .atOnce) (sweeping .settle)
    (t.nestA.state, t.chain.holder, t.gen.mode, t.accounts.counts.aborted) = (.loaded, none, .silent, 1) := by decide +kernel
/-- 04_capture_and_the_ambient_guard.md, Worked example: a guarded point: 50 ms are 2,400 sample periods. -/
theorem test_contaminated :
    let s := withHalf (halfOf .filling (.nest .a)) { sweeping .window with straps := ⟨0, true⟩ }
    let t := after (.windowEnd [(912004, 41943), (0, 0)]) s
    (t.capture.half0.state, t.capture.attempt, t.capture.holdoff, t.accounts.counts.guardHits, t.gen.mode) =
      (.free, 2, some 2400, 1, .holdoff) := by decide +kernel
/-- 04_capture_and_the_ambient_guard.md: a peak of 8,100,000 is OVERLOAD with attempts used 1, and the guard is not looked at. -/
theorem test_overload :
    let s := withHalf (halfOf .filling (.nest .a)) { sweeping .window with straps := ⟨0, true⟩ }
    let t := after (.windowEnd [(8100000, 41943), (0, 0)]) s
    ((t.nestA.slot 0).map fun r => (r.status, r.attempts)) = some (.overload, 1) ∧
    (t.accounts.counts.overloadPoints, t.accounts.counts.guardHits) = (1, 0) := by decide +kernel
/-- R91, and 05_point_analysis.md: A_1 = 0 with mic offset 11,400 gives NO_SIGNAL with SPL −3,600. -/
theorem test_no_signal :
    let h := { halfOf .inAnalysis (.nest .a) with micOffset := some 11400, samples := [(0, 0), (0, 89478485)] }
    ((recordOf 6000 h (analyse h)).status, (recordOf 6000 h (analyse h)).spl) = (.noSignal, some (-3600)) := by decide +kernel
/-- 09_the_marker_link_and_labels.md: the third NAK is FAULT, ABSENT, with MARKER_FAULT on both ports. -/
theorem test_third_nak :
    let t := after (.probeEnd .nak) (marking .negotiating .probe [] 0)
    (t.marker.devices.map fun d => (d.state, d.cause, d.naks)) = [(.fault, some .absent, 3)] ∧
    (t.latched .station .markerFault && t.latched .line .markerFault) = true := by decide +kernel
/-- 09_the_marker_link_and_labels.md: page 0 accepted with echo 0 flips the toggle; page 1 sent with toggle 1 (R183). -/
theorem test_pages :
    let t := after (.pageTransactionEnd (.reply 1)) (marking .ready (.page 4 []) [job] 0)
    (t.marker.head.page, t.marker.devices.map (·.toggle)) = (1, [true]) ∧
    (t.marker.bus.map fun x => match x.work with | .page c _ => c | .probe => 0xFF) = some 9 := by decide +kernel
/-- R165: the counters at a completion. -/
theorem test_completion :
    let t := after (.pageTransactionEnd (.reply 1)) (marking .ready (.page 1 []) [job] 1)
    (t.marker.enqueued, t.marker.done, t.marker.failed, t.marker.queue) = (1, 1, 0, []) := by decide +kernel
/-- R161, R163: the label timer. -/
theorem test_label_timeout :
    let t := after .labelTimerExpiry (marking .ready (.page 0 []) [job] 0)
    (t.marker.lastFailed.map (·.cause), t.marker.failed, t.latched .line .labelFailed) = (some .timeout, 1, true) := by
  decide +kernel
/-- R186, R187: a hold answers no port, and a release latches RESET alone. -/
theorem test_hold_and_release :
    let h := after (.resetHold .pin) startable
    let t := after (.resetRelease .pin 3 ⟨true, false, false⟩) h
    (h.held, h.stationRead 2 0 1, h.nestA.state) = (true, none, .loaded) ∧
    (t.station.events, t.lineAddress, t.nestA.state, t.plan) = (0x8000, 0x5B, .empty, none) := by decide +kernel
/-- R188: a write of IDENTIFY's code that a hold interrupted starts nothing; the first write after the release is taken. -/
theorem test_lost_write :
    let t := after (.resetRelease .pin 0 ⟨false, true, false⟩) (after (.resetHold .pin) startable)
    let a := after (.parameterAreaWrite .station 1 1 [requestCode .identify] .interrupted) t
    let b := after (.identify .station [] .atOnce) a
    (t.attends .station, a.attends .station, a.station.sequence, b.station.sequence) = (false, true, 0, 1) := by decide +kernel
/-- R188: after a read that a hold interrupted, the first read and the first write after the release are taken; a Line Port read
without an offset byte begins at 00h. -/
theorem test_lost_read :
    let t := after (.resetRelease .pin 0 ⟨false, true, true⟩) (after (.resetHold .pin) startable)
    let a := after (.identify .station [] .atOnce) t
    (t.attends .line, (t.lineRead none 2).map (·.1), (t.stationRead 2 0 1).map (·.1), a.station.sequence) =
      (false, some [8, 0], some [8], 1) := by decide +kernel
/-- R74: offsets are clamped to 5,000 to 16,000, and the reply is CLAMPED. -/
theorem test_calibrate :
    let t := after (.calibrate .station (leSigned 4999 ++ leSigned 16001 ++ leSigned 12000) .atOnce) State.reset
    (t.capture.active, t.station.reply.toList.take 3) = (some ⟨5000, 16000, 12000⟩, [0x18, 1, 17]) := by decide +kernel

/-! ### Invariants at reset -/

theorem test_reset_lists : State.reset.ListsBounded := ⟨by decide, by decide, by decide, by decide⟩
theorem test_reset_labels : State.reset.LabelsBalance := by unfold State.LabelsBalance; decide +kernel
theorem test_reset_verification : State.reset.VerificationSound := ⟨by decide +kernel, fun _ => ⟨rfl, rfl⟩⟩
theorem test_reset_chain : State.reset.ChainSound where
  measuring n := by cases n <;> decide
  queued n := by cases n <;> decide
  free _ := rfl
  generator n h := by cases h
  waits n := by cases n <;> decide
  check := by decide
  checking h := by cases h
  requests p r h := by cases p <;> cases h
  closing h := by cases h
theorem test_reset_records : State.reset.RecordsSound where
  skipped n h := by cases n <;> exact absurd h (by decide)
  unruled n h := by cases n <;> rfl
  pass n h := by cases n <;> cases h
theorem test_reset_engine : State.reset.EngineSound where
  idle _ := rfl
  busy h e := by cases e
  behind h e := by cases e
  once := List.nodup_nil
  holds h := by cases h <;> decide
theorem test_reset_units : State.reset.UnitsBalance where
  issued := by decide +kernel
  kinds n h := by cases n <;> cases h
  serial n h := by cases n <;> cases h
  held n h := by cases n <;> cases h
  list := List.nodup_nil
  apart n h := by cases n <;> cases h
  nests h := absurd rfl h
  below c h := by cases h

/-! ### Witnesses: states and operands that meet the hypotheses of each statement, clause by clause -/

/-- The Line Port and the Station Port of the state after reset can take a request. -/
theorem witness_ready : State.reset.ready .station ∧ State.reset.ready .line ∧ startable.ready .line := by decide +kernel

theorem witness_StepRunsTheFrontCommand :
    ({ State.reset with pending := [.burstTimerExpiry, .windowBegin] }).pending = .burstTimerExpiry :: [.windowBegin] ∧
    State.reset.pending = [] := by decide +kernel

theorem witness_ReleaseGivesPowerOnValues :
    ((after (.resetHold .pin) startable).hold.has .pin = true ∧
      (after (.resetHold .pin) startable).hold.set .pin false = ⟨false, false⟩) ∧
    ((after (.resetHold .supply) (after (.resetHold .pin) startable)).hold.has .pin = true ∧
      (after (.resetHold .supply) (after (.resetHold .pin) startable)).hold.set .pin false ≠ ⟨false, false⟩) := by
  decide +kernel

theorem witness_HoldStopsThePart :
    (sweeping .window).held = false ∧ (after (.resetHold .pin) startable).held = true ∧
    (∀ c, Instr.windowBegin ≠ .resetHold c) ∧ (∀ c a b, Instr.windowBegin ≠ .resetRelease c a b) ∧
    (∀ l v, Instr.windowBegin ≠ .linePinChange l v) ∧
    (let s := { State.reset with station := { Port.reset with lost := true }, line := { Port.reset with lost := true } };
      s.held = false ∧ s.station.lost = true ∧ (s.port .line).lost = true ∧
      Instr.abandon .line [] = commandOf .abandon .line [] .later) :=
  ⟨by decide +kernel, by decide +kernel, nofun, nofun, nofun, by decide +kernel⟩

theorem witness_PortsRefuseWhatNobodyCanTake :
    (State.reset.ready .station ∧ onPort .station .loadUnit = false) ∧ (State.reset.ready .line ∧ requestOf 0x00 = none) ∧
    (State.reset.ready .line ∧ requestOf 0xFF = none) ∧
    (State.reset.ready .line ∧ onPort .line .loadUnit = true ∧ (0 : Byte) ≠ 1 ∧ (0 : Byte) ≠ 2) ∧
    (State.reset.ready .station ∧ onPort .station .readPoints = true ∧ (3 : Byte) ≠ 1 ∧ (3 : Byte) ≠ 2) := by decide +kernel

theorem witness_CollisionIsLatchedOnItsPort :
    (stationRuns .chainCheck true (checking .settle)).listens .station ∧
    ((stationRuns .chainCheck true (checking .settle)).port .station).slot = .running ∧ Request.planOpen ≠ .abandon ∧
    Instr.planOpen .station [] .later = commandOf .planOpen .station [] .later ∧ (0x7E : Byte) ≠ 0x7F := by decide +kernel

theorem witness_LaterTakingEqualsTakingAtOnce :
    (Request.startNest ≠ .abandon ∧ startable.ready .line ∧ onPort .line .startNest = true) ∧
    (State.reset.port .line).running = none := by decide +kernel

theorem witness_ParameterAreaWriteFillsTheArea :
    (State.reset.listens .station ∧ State.reset.listens .line ∧ writeApplies .station 1 .whole = true ∧ 0x40 ≤ (0x40 : Byte).toNat ∧
      (0x40 : Byte).toNat + (List.replicate 64 (7 : Byte)).length ≤ 0x80) ∧
    (writeApplies .line 9 .whole = true ∧ 0x40 ≤ (0x7F : Byte).toNat ∧ (0x7F : Byte).toNat + [(7 : Byte)].length ≤ 0x80) ∧
    (2 : Byte) ≠ 1 ∧ (List.replicate 64 (7 : Byte)).length ≤ 64 ∧ (1 : Byte) ≠ 2 ∧
    255 = (match some (0xFF : Byte) with | some b => b.toNat | none => State.reset.line.readOffset) ∧
    0 = (match (none : Option Byte) with | some b => b.toNat | none => State.reset.line.readOffset) := by decide +kernel

/-- R167, R168: after the external reset RESET is latched and masked, so the status byte shows bit 3 alone; the window ends at FFh. -/
theorem test_port_reads : (State.reset.stationRead 2 0 4).map (·.1) = some [8, 0, 0, 0] ∧ (State.reset.stationRead 1 0 2).map (·.1) = some [0, 0] ∧
    ((after (.parameterAreaWrite .line 0 0x7E [5, 6] .whole) State.reset).lineRead (some 0x7D) 4).map (·.1) = some [0, 5, 6, 0] ∧
    ((after (.parameterAreaWrite .line 0 0x7E [5, 6] .whole) State.reset).lineRead none 300).map (·.2.line.readOffset) = some 256 := by
  decide +kernel

theorem witness_ParameterAreaWrite_before_its_code :
    ∃ u, exec (.parameterAreaWrite .station 1 0x40 (le 4 501) .whole) State.reset = .next u := ⟨_, rfl⟩

theorem witness_AbandonClearsWithdrawsOrReopens :
    State.reset.ready .line ∧
    ((stationRuns .calibrate false State.reset).listens .station ∧
      ((stationRuns .calibrate false State.reset).port .station).slot = .running ∧
      ((stationRuns .calibrate false State.reset).port .station).running = some ⟨.calibrate, Vector.replicate 64 0, false⟩) ∧
    ((stationRuns .planClose true (loading .checking State.reset)).listens .station ∧
      (stationRuns .planClose true (loading .checking State.reset)).station.slot = .running ∧
      (stationRuns .planClose true (loading .checking State.reset)).station.running =
        some ⟨.planClose, Vector.replicate 64 0, true⟩ ∧
      (stationRuns .planClose true (loading .checking State.reset)).loader.state = .checking) := by decide +kernel

/-- A chain check that waits while nest A holds the chain. -/
def waitingCheck : State := stationRuns .chainCheck true { sweeping .settle with chain := ⟨[.check], some (.nest .a), 0, none, none, false⟩ }

theorem witness_AbandonOfChainCheck :
    (waitingCheck.listens .station ∧ waitingCheck.station.slot = .running ∧
      waitingCheck.station.running = some ⟨.chainCheck, Vector.replicate 64 0, true⟩ ∧ waitingCheck.chain.holder ≠ some .check) ∧
    (let s := stationRuns .chainCheck true (withHalf (halfOf .filling .check) (checking .window));
      s.listens .station ∧ s.station.slot = .running ∧
      s.station.running = some ⟨.chainCheck, Vector.replicate 64 0, true⟩ ∧ s.chain.holder = some .check ∧ s.chain.queue = [] ∧ s.loader.state ≠ .pending ∧
      (s.half .zero).claimant = .check ∧ (s.half .zero).tag = s.chain.checkTag ∧ (s.half .zero).state = .filling) := by
  decide +kernel

theorem witness_AbandonOfMarkerStart :
    let s := stationRuns .markerStart true (marking .negotiating .probe [] 0)
    s.listens .station ∧ s.station.slot = .running ∧ s.station.running = some ⟨.markerStart, Vector.replicate 64 0, true⟩ ∧
    s.marker.queue = [] ∧ s.marker.head.bound = none := by decide +kernel

theorem witness_AbandonOfMarkerStart_with_a_job (st : DeviceState) :
    let s := stationRuns .markerStart true (marking st .probe [job] 0)
    s.listens .station ∧ s.station.slot = .running ∧ s.station.running = some ⟨.markerStart, Vector.replicate 64 0, true⟩ ∧
    s.marker.queue = job :: [] ∧ (∃ y ∈ s.marker.devices, y.role = job.role) ∧ s.marker.bus ≠ none ∧
    s.marker.head.bound = some 0 ∧ s.marker.devices[0]? = some (dev st) ∧ (dev st).state = st := by cases st <;> decide +kernel

/-- The Marker Bus idle when the ABANDON arrives: the one device waits to be probed again. -/
theorem witness_AbandonOfMarkerStart_with_an_idle_bus (js : List Job) (h : js = [] ∨ js = [job]) :
    let m := marking .negotiating .probe js 0
    let s := stationRuns .markerStart true { m with marker := { m.marker with bus := none } }
    s.listens .station ∧ s.station.slot = .running ∧ s.station.running = some ⟨.markerStart, Vector.replicate 64 0, true⟩ ∧
    s.marker.queue = js ∧ s.marker.head.bound = (if js = [] then none else some 0) ∧ s.marker.bus = none ∧
    s.marker.devices = [dev .negotiating] ∧ (dev .negotiating).retryWait = true ∧
    (∀ j rest, js = j :: rest → ∃ y ∈ s.marker.devices, y.role = j.role) := by
  rcases h with rfl | rfl
  · exact ⟨by decide, by decide, by decide, by decide, by decide, by decide, by decide, by decide, nofun⟩
  · refine ⟨by decide, by decide, by decide, by decide, by decide, by decide, by decide, by decide, fun j rest e => ?_⟩
    cases e; decide

theorem witness_PlanOpenOpensATransfer :
    (State.reset.ready .station ∧ State.reset.loader.state = .idle ∧ (64 ≤ 64 ∧ 64 ≤ 16384 ∧ 64 % 4 = 0 ∧ 1 ≤ 1 ∧ 1 ≤ 63)) ∧
    ((loading .receiving State.reset).loader.state = .receiving ∧ (loading .staged State.reset).loader.state = .staged ∧
      (64 ≤ 16384 ∧ 16384 ≤ 16384 ∧ 16384 % 4 = 0 ∧ 1 ≤ 63 ∧ 63 ≤ 63)) ∧
    (63 < 65536 ∧ 63 < 256 ∧ (63 < 64 ∨ 16384 < 63 ∨ 63 % 4 ≠ 0)) ∧ (16388 < 65536 ∧ 16384 < 16388) ∧ (66 % 4 ≠ 0) ∧
    (64 < 256 ∧ (64 < 1 ∨ 63 < 64)) ∧ (0 < 1) ∧
    ((loading .pending State.reset).ready .station ∧ (loading .pending State.reset).loader.state = .pending ∧
      (loading .checking State.reset).ready .station ∧ (loading .checking State.reset).loader.state = .checking) := by
  decide +kernel

theorem witness_PlanDataStoresWhatFits :
    ((loading .receiving State.reset).ready .station ∧ 1 ≤ [(0 : Byte)].length ∧
      (List.replicate 56 (0 : Byte)).length ≤ 56 ∧ (loading .receiving State.reset).loader.state = .receiving) ∧
    (State.reset.ready .station ∧ State.reset.loader.state ≠ .receiving) ∧
    (0 < 256 ∧ (0 < 1 ∨ 56 < 0)) ∧ (57 < 256 ∧ (57 < 1 ∨ 56 < 57)) := by decide +kernel

theorem witness_CloseAndBurstExpiryEndATransfer :
    ((loading .receiving State.reset).ready .station ∧ (loading .receiving State.reset).loader.state = .receiving) ∧
    (State.reset.ready .station ∧ State.reset.loader.state ≠ .receiving) ∧
    (let s := after (.planOpen .station (le 2 64 ++ byte 20) .atOnce) State.reset;
      s.held = false ∧ s.loader.state = .receiving ∧ s.loader.burstRunning = true) := by decide +kernel

/-- The bytes of a whole plan: one segment of two points, one curve, no MARKER and no LINES section. -/
def imageBody : List Byte :=
  le 2 1 ++ le 2 46 ++ le 2 21 ++ le 2 2 ++ le 2 67 ++ le 2 17 ++ le 2 3 ++ le 2 84 ++ le 2 29 ++ le 2 4 ++ le 2 113 ++ le 2 9 ++
  le 2 5 ++ le 2 122 ++ le 2 6 ++
  (byte 1 ++ byte 0 ++ byte 0xFF ++ leSigned 6000 ++ le 4 100000 ++ le 4 103000 ++ byte 12 ++ leSigned (-2000) ++ byte 8 ++
    le 2 8 ++ byte 3 ++ byte 1) ++
  (byte 1 ++ byte 4 ++ byte 1 ++ byte 1 ++ byte 2 ++ le 4 80000 ++ leSigned (-3500) ++ le 4 125000 ++ leSigned (-4500)) ++
  ((List.range 14).map fun k => byte (k + 1) ++ byte (k % 4)).flatten ++ byte 15 ++
  (leSigned 7000 ++ byte 2 ++ le 2 50 ++ le 4 8000000) ++ (byte 2 ++ le 2 5 ++ byte 3 ++ le 2 9000)

/-- The image with its header: version 1, five sections, plan id 17, its length and its CRC (R1). -/
def image : List Byte :=
  let head := le 2 1 ++ le 2 5 ++ le 4 17 ++ le 4 128
  head ++ le 4 (crc32 (head ++ imageBody)).toNat ++ imageBody

/-- The state in which PLAN CLOSE runs its checks on the bytes `b`. -/
def closing (b : List Byte) : State :=
  stationRuns .planClose true { State.reset with loader := { Loader.reset with
    state := .checking, staging := b, writePtr := b.length, declared := b.length } }

theorem test_image_length : image.length = 128 := by decide +kernel

/-- R16: a whole image is STAGED with two points; one bit wrong is rejected. -/
theorem test_checks :
    let t := after .checksComplete (closing image)
    let u := after .checksComplete (closing (image.set 20 0xAA))
    (t.loader.state, t.loader.staged.map (fun p => (p.content.id, p.points.map (fun x => x.freq)))) =
      (.staged, some (17, [100000, 103000])) ∧ (u.loader.state, u.latched .line .planRejected) = (.receiving, true) := by
  decide +kernel

theorem witness_ChecksCompleteStagesOrRejects :
    ((closing image).held = false ∧ (closing image).loader.state = .checking ∧ (closing image).checkResult.plan ≠ none) ∧
    ((closing []).held = false ∧ (closing []).loader.state = .checking ∧ (closing []).checkResult.plan = none) := by
  decide +kernel

/-- The image with the bytes `vs` from place `i` on, and its CRC made right again. -/
def edited (i : Nat) (vs : List Byte) : List Byte :=
  let b := image.take i ++ vs ++ image.drop (i + vs.length)
  b.take 12 ++ le 4 (imageCrc b).toNat ++ b.drop 16

/-- Every entry of an image is sound where the check finds every one sound. -/
theorem edited_entries {b : List Byte} (n : Nat) (h : ∀ i < n,
    (sectionAt b i).sound b.length (16 + 6 * u16At b 2) ((List.range i).map (sectionAt b)) = true) :
    ∀ i, i < n → EntrySound b i := fun i hi => entrySound_of_sound (h i hi)

/-- The sections of an image that are read meet their contents. -/
theorem edited_sections {b : List Byte} (n : Nat) (h : ∀ i < n, (1 ≤ (sectionAt b i).type ∧ (sectionAt b i).type ≤ 7) ∧
    (Parts.start.read b i (sectionAt b i)).isSome = true) : ∀ i, i < n → SectionMeets b i := fun i hi =>
  (Parts.read_isSome b i i _ (h i hi).1).1 (h i hi).2

/-- Checks 1 to 5 of PLAN CLOSE pass for the bytes `b`. -/
theorem edited_sound {b : List Byte} (w : u32At b 8 = 128 ∧ u16At b 0 = 1 ∧ imageCrc b = headerCrc b ∧ u16At b 2 = 5)
    (h : ∀ i < 5, (sectionAt b i).sound b.length 46 ((List.range i).map (sectionAt b)) = true)
    (p : ∀ t < 6, 1 ≤ t → ∃ i < 5, (sectionAt b i).type = t) : ImageWhole b 128 128 false ∧ StructureSound b := by
  obtain ⟨l, v, c, n⟩ := w
  refine ⟨⟨⟨rfl, l⟩, rfl, v, c⟩, ⟨by omega, ?_, fun t h1 h5 => ?_⟩⟩
  · rw [n]; exact edited_entries 5 (by rw [n]; exact h)
  · rw [n]; exact p t (by omega) h1

/-- R13: the sizes differ, bytes were dropped, another version, another CRC; then check 5: no section, eight sections. -/
theorem witness_PassedImageIsWhole : (checkImage image 128 128 false).plan.isSome = true ∧ 127 ≠ 128 ∧ u32At image 8 ≠ 129 ∧
    u32At image 8 = 128 ∧ u16At (edited 0 [2]) 0 ≠ 1 ∧ u16At image 0 = 1 ∧
    imageCrc (image.set 20 0xAA) ≠ headerCrc (image.set 20 0xAA) ∧ u32At (image.set 20 0xAA) 8 = 128 ∧
    ImageWhole (edited 2 [0]) 128 128 false ∧ u16At (edited 2 [0]) 2 = 0 ∧
    ImageWhole (edited 2 [8]) 128 128 false ∧ 7 < u16At (edited 2 [8]) 2 := by
  refine ⟨?_, ?_, ?_, ?_, ?_, ?_, ?_, ?_, ⟨⟨?_, ?_⟩, ?_, ?_, ?_⟩, ?_, ⟨⟨?_, ?_⟩, ?_, ?_, ?_⟩, ?_⟩ <;> decide +kernel

/-- R14: an entry of a type that stands before it, and an image without POLICY (its entry being one of MARKER). -/
theorem witness_PassedImageIsWhole_of_the_directory :
    (ImageWhole (edited 22 [1]) 128 128 false ∧ u16At (edited 22 [1]) 2 = 5 ∧ EntrySound (edited 22 [1]) 0 ∧
      ¬ EntrySound (edited 22 [1]) 1) ∧
    (ImageWhole (edited 40 [6]) 128 128 false ∧ u16At (edited 40 [6]) 2 = 5 ∧ (∀ i, i < 5 → EntrySound (edited 40 [6]) i) ∧
      (∀ u < 5, 1 ≤ u → ∃ i < 5, (sectionAt (edited 40 [6]) i).type = u) ∧
      ∀ i < 5, (sectionAt (edited 40 [6]) i).type ≠ 5) := by
  refine ⟨⟨⟨⟨?_, ?_⟩, ?_, ?_, ?_⟩, ?_, entrySound_of_sound ?_, fun h => h.single 0 (by decide) ?_⟩,
    ⟨⟨⟨?_, ?_⟩, ?_, ?_, ?_⟩, ?_, edited_entries 5 ?_, ?_, ?_⟩⟩ <;> decide +kernel

/-- R15: GUARD allows eight retries; a REL curve in LIMITS without a reference point; and the whole image. -/
theorem witness_PassedImageIsWhole_of_the_contents :
    (let b := edited 115 [8];
      (ImageWhole b 128 128 false ∧ StructureSound b) ∧ (∀ j, j < 3 → SectionMeets b j) ∧ ¬ SectionMeets b 3 ∧
      ∀ a l, a < 3 → l < 3 → ¬ RelAlone b a l) ∧
    (let b := edited 68 [2];
      (ImageWhole b 128 128 false ∧ StructureSound b) ∧ (∀ j, j ≤ 0 ∨ j ≤ 1 → SectionMeets b j) ∧ RelAlone b 0 1) ∧
    ((ImageWhole image 128 128 false ∧ StructureSound image) ∧ (∀ i, i < 5 → SectionMeets image i) ∧
      ∀ a l, a < 5 → l < 5 → ¬ RelAlone image a l) := by
  have alone (b : List Byte) (n : Nat) (h : ∀ l < n, (sectionAt b l).type = 2 →
      ∀ k < u8At ((sectionAt b l).bytes b) 0, u8At ((sectionAt b l).bytes b) (curveStart ((sectionAt b l).bytes b) k) ≠ 2) :
      ∀ a l, a < n → l < n → ¬ RelAlone b a l := fun a l _ hl r => by
    obtain ⟨k, hk, e⟩ := r.rel
    exact h l hl r.limits k hk e
  refine ⟨⟨edited_sound ?_ ?_ ?_, edited_sections 3 ?_, fun h => ?_, alone _ 3 ?_⟩,
    ⟨edited_sound ?_ ?_ ?_, fun j hj => edited_sections 2 ?_ j (by omega), ⟨?_, ?_, ?_, ⟨0, ?_, ?_⟩⟩⟩,
    ⟨edited_sound ?_ ?_ ?_, edited_sections 5 ?_, alone _ 5 ?_⟩⟩
  case refine_5 => exact absurd ((Parts.read_isSome _ _ 3 Parts.start (by decide +kernel)).2 h) (by decide +kernel)
  all_goals decide +kernel

theorem witness_PlanActivateWaitsWhileInUse :
    ((loading .staged (sweeping .settle)).ready .station ∧ (loading .staged (sweeping .settle)).loader.state = .staged ∧
      (loading .staged (sweeping .settle)).planInUse = true) ∧
    (State.reset.ready .station ∧ State.reset.loader.state ≠ .staged) := by decide +kernel

theorem witness_ActivationReplacesThePlan :
    let s := loading .staged startable
    s.ready .station ∧ s.loader.state = .staged ∧ s.loader.staged = some ⟨content, points⟩ ∧ s.planInUse = false ∧
    (s.nest .a).state ≠ .labelWait ∧ s.marker.waitList = [] := by decide +kernel

/-- An activation that finds a line bound to STOP, device 31h with a history, a probe under way or none, and a job in front. -/
def replacing (b : Option Transaction) (r : Role) : State :=
  let s := marking .ready .probe [{ job with role := r }] 1
  loading .staged (lined (.input .stop) false (some false) false
    { s with marker := { s.marker with bus := b, devices := [{ dev .ready with history := some job }], waitList := [⟨.b, job⟩] } })

theorem witness_ActivationReplacesThePlan_with_devices_and_a_job :
    (∀ b ∈ [none, some ⟨0, .probe, .live⟩], ∀ r ∈ [Role.label, Role.reject],
      let s := replacing b r
      s.ready .station ∧ s.loader.state = .staged ∧ s.loader.staged = some ⟨content, points⟩ ∧ s.planInUse = false ∧
      s.marker.bus = b ∧ s.lines.line[(0 : Fin 8)].function = .input .stop ∧ (s.lines.bound .stop).isSome = true ∧
      (content.lines.getD []).getD 0 .unused = .unused ∧
      (s.deviceOf ⟨0x31, .label⟩).map (·.history) = some (some job) ∧ s.deviceOf ⟨0x32, .reject⟩ = none) ∧
    (let s := replacing none .label;
      s.marker.queue = job :: [] ∧ ∃ q ∈ (⟨content, points⟩ : StagedPlan).devices, q.role = job.role) ∧
    (let c := { content with marker := some ⟨[⟨0x31, .label⟩], [3, 2], 5⟩ };
      let s := replacing none .reject;
      s.marker.waitList = [⟨.b, job⟩] ++ [] ∧ [(⟨.b, job⟩ : WaitingJob)].length = min 1 s.marker.waitList.length ∧
      s.marker.queue ++ s.marker.entering [⟨.b, job⟩] =
        [{ job with role := .reject }] ++ [{ job with ticket := some (s.marker.ticket + 1) }] ∧
      (∀ q ∈ (⟨c, points⟩ : StagedPlan).devices, q.role ≠ .reject) ∧
      ∃ q ∈ (⟨c, points⟩ : StagedPlan).devices, q.role = .label) := by decide +kernel

theorem witness_PlanRevokeDiscardsTheStagedPlan :
    ((loading .staged State.reset).ready .station ∧ (loading .staged State.reset).loader.state = .staged) ∧
    ((loading .pending (sweeping .settle)).ready .station ∧ (loading .pending (sweeping .settle)).loader.state = .pending) ∧
    State.reset.loader.state = .idle ∧ (loading .receiving State.reset).loader.state = .receiving := by decide +kernel

theorem witness_CalibrateStoresTheRecord :
    (sweeping .settle).ready .station ∧ (sweeping .settle).nestHoldsChain = true ∧ State.reset.nestHoldsChain = false ∧
    ((-32768 : Int) ≤ -32768 ∧ (-32768 : Int) ≤ 32767 ∧ (-32768 : Int) ≤ 32767 ∧ (32767 : Int) ≤ 32767) := by decide +kernel

theorem witness_ChainCheckIsGrantedOrQueued :
    (State.reset.ready .station ∧ State.reset.chain.holder = none ∧ State.reset.chain.queue = []) ∧
    ((sweeping .settle).ready .station ∧ (sweeping .settle).chain.holder = some (.nest .a)) := by decide +kernel

theorem witness_SerialBaseSetsTheCounter :
    State.reset.ready .station ∧ State.reset.ready .line ∧ (1 ≤ 1 ∧ 1 ≤ 16777215) ∧ (1 ≤ 16777215 ∧ 16777215 ≤ 16777215) ∧
    (0 < 2 ^ 32) ∧ (16777216 < 2 ^ 32 ∧ 16777215 < 16777216) := by decide +kernel

theorem witness_CloseShiftMakesARecord : startable.ready .station := by decide +kernel

theorem witness_MarkerStartNegotiatesEveryDevice :
    ((marking .down .probe [] 0).ready .station ∧ (marking .down .probe [] 0).plan ≠ none ∧
      (marking .down .probe [] 0).marker.devices ≠ []) ∧
    ((marking .ready (.page 4 []) [job] 1).marker.head.bound = some 0 ∧
      0 < (marking .ready (.page 4 []) [job] 1).marker.devices.length ∧
      (marking .ready (.page 4 []) [job] 1).marker.bus = some ⟨0, .page 4 [], .live⟩ ∧
      { (marking .down .probe [] 0).marker with bus := none }.bus = none) ∧
    (State.reset.ready .station ∧ State.reset.plan = none) ∧
    (startable.ready .station ∧ startable.plan ≠ none ∧ startable.marker.devices = []) := by decide +kernel

theorem witness_StationResetClearsTheBlocks :
    (let s := { sweeping .window with line := running .loadUnit false };
      s.ready .station ∧ s.line.running = some ⟨.loadUnit, Vector.replicate 64 0, false⟩) ∧
    (let s := lined (.input .stop) true (some true) true (planned { content with lines := some [.input .stop, .output .unverified] });
      s.ready .station ∧ s.line.running = none ∧ s.lines.line[(0 : Fin 8)].function = s.planLines.getD 0 .unused ∧
      s.lines.line[(1 : Fin 8)].function ≠ s.planLines.getD 1 .unused) := by decide +kernel

/-- The serial counter at `v`. -/
def counting (v : Nat) : State := { State.reset with units := { UnitTable.reset with serialCounter := v } }

theorem witness_NewLoadIssuesASerial :
    ((counting 16777215).ready .line ∧ ((counting 16777215).nest .b).state = .empty ∧ (counting 16777215).candidate ≠ 0) ∧
    ((counting 1).candidate ≠ 0 ∧ (counting 1).units.serialCounter ≤ 16777215 ∧
      (counting 16777215).units.serialCounter ≤ 16777215) ∧ ((counting 0).ready .line ∧ ((counting 0).nest .a).state = .empty ∧ (counting 0).candidate = 0) := by
  decide +kernel

/-- A retest list of one entry. -/
def listed : State := { State.reset with
  units := { UnitTable.reset with retest := [⟨502, 1, .fail, 4⟩] }
  nestB := { Nest.reset with state := .loaded, kind := some .production, serial := some 16777215, attempt := some 1 } }

theorem witness_RetestAndReferenceLoads :
    (listed.ready .line ∧ (listed.nest .a).state = .empty ∧ 1 ≤ 502 ∧ 502 ≤ 16777215 ∧
      listed.units.retest.find? (fun x => x.serial = 502) = some ⟨502, 1, .fail, 4⟩ ∧
      (listed.nest (otherNest .a)).serial ≠ some 502) ∧
    (16777215 ≤ 16777215 ∧ (listed.nest (otherNest .a)).serial = some 16777215) ∧
    (1 ≤ 1 ∧ (listed.nest (otherNest .a)).serial ≠ some 1 ∧ (∀ e ∈ listed.units.retest, e.serial ≠ 1)) ∧
    ((listed.nest .b).state ≠ .empty ∧ (2 : Byte) = 2 ∧ 1 ≤ 1 ∧ 16777215 ≤ 16777215) ∧
    ((0 : Byte) ≠ 1 ∧ (0 : Byte) ≠ 2 ∧ (0 : Byte) ≠ 3 ∧ (4 : Byte) ≠ 1 ∧ (4 : Byte) ≠ 2 ∧ (4 : Byte) ≠ 3) ∧
    (0 < 2 ^ 32 ∧ 16777216 < 2 ^ 32 ∧ 16777215 < 16777216) := by decide +kernel

/-- Nest A LOADED with a retest unit of `k` attempts made, `m` entries in the list. -/
def retesting (k m : Nat) : State :=
  { startable with
    nestA := { startable.nestA with serial := some 502, attempt := some (k + 1) }
    units := { UnitTable.reset with heldA := some ⟨502, k, .fail, 4⟩, retest := List.replicate m ⟨700, 1, .fail, 4⟩ } }

theorem witness_ReleaseNestEmptiesTheNest :
    (startable.ready .line ∧ (startable.nest .a).state = .loaded ∧ (startable.nest .a).kind = some .production ∧
      (startable.nest .a).attempt = some 1) ∧
    (({ State.reset with nestA := { Nest.reset with state := .done } }).nest .a).state = .done ∧
    (let s := { State.reset with nestB := { Nest.reset with state := .loaded, kind := some .reference } };
      (s.nest .b).state = .loaded ∧ (s.nest .b).kind = some .reference) ∧
    ((retesting 1 31).ready .line ∧ ((retesting 1 31).nest .a).state = .loaded ∧
      ((retesting 1 31).nest .a).kind = some .production ∧ ((retesting 1 31).nest .a).attempt ≠ some 1 ∧
      (retesting 1 31).units.held .a = some ⟨502, 1, .fail, 4⟩ ∧ (retesting 1 31).plan = some content ∧
      1 < content.policy.maxAttempts ∧ (retesting 1 31).units.retest.length < 32) ∧
    ((retesting 1 32).units.retest = ⟨700, 1, .fail, 4⟩ :: List.replicate 31 ⟨700, 1, .fail, 4⟩ ∧
      32 ≤ (retesting 1 32).units.retest.length ∧ (retesting 1 32).units.retest.head?.map (·.serial) = some 700) ∧
    ((retesting 2 0).units.held .a = some ⟨502, 2, .fail, 4⟩ ∧ content.policy.maxAttempts ≤ 2) ∧
    (State.reset.ready .line ∧ (State.reset.nest .a).state ≠ .loaded ∧ (State.reset.nest .a).state ≠ .done) := by decide +kernel

theorem witness_StartNestBeginsTheTest :
    (startable.ready .station ∧ startable.startRefusal .a = none ∧ startable.chain.holder = none ∧ startable.chain.queue = []) ∧
    (let s := { startable with nestA := { startable.nestA with kind := some .reference, serial := none } };
      s.ready .line ∧ s.startRefusal .a = none ∧ (s.nest .a).kind = some .reference) ∧
    ((startable.nest .a).kind ≠ some .reference ∧ startable.planPoints[0]? ≠ none) ∧
    (let s := { startable with chain := { Chain.reset with holder := some .check } };
      s.ready .line ∧ s.startRefusal .a = none ∧ s.chain.holder = some .check) := by decide +kernel

theorem witness_StartChecksInOrder :
    (State.reset.ready .line ∧ State.reset.startRefusal .a = some ⟨.state, 0⟩ ∧ (State.reset.nest .a).state ≠ .loaded) ∧
    ((listed.nest .b).state = .loaded ∧ listed.plan = none) ∧
    ((startable.nest .a).state = .loaded ∧ startable.plan ≠ none ∧ (loading .pending startable).loader.state = .pending) ∧
    (let s := { startable with capture := Capture.reset };
      (s.nest .a).state = .loaded ∧ s.plan ≠ none ∧ s.loader.state ≠ .pending ∧ s.capture.active = none) ∧
    (let s := { startable with lines := { Lines.reset with presentA := false } };
      (s.nest .a).state = .loaded ∧ s.plan ≠ none ∧ s.loader.state ≠ .pending ∧ s.capture.active ≠ none ∧
      s.lines.level (.present .a) ≠ some true) ∧
    (let s := { startable with units := UnitTable.reset };
      (s.nest .a).state = .loaded ∧ s.plan ≠ none ∧ s.loader.state ≠ .pending ∧ s.capture.active ≠ none ∧
      s.lines.level (.present .a) = some true ∧ s.lines.level (.clamp .a) = some true ∧ s.lines.level .doorClosed = some true ∧
      s.lines.level .stop = some false ∧ (s.nest .a).kind = some .production ∧ s.windowLength ≠ 0 ∧ s.units.remaining = 0) ∧
    (let l := { Lines.reset with clampA := false };
      l.level (.present .a) = some true ∧ l.level (.clamp .a) ≠ some true) ∧
    (let l := { Lines.reset with door := false };
      l.level (.present .a) = some true ∧ l.level (.clamp .a) = some true ∧ l.level .doorClosed ≠ some true) ∧
    (let l := { Lines.reset with stop := true };
      l.level (.present .a) = some true ∧ l.level (.clamp .a) = some true ∧ l.level .doorClosed = some true ∧
      l.level .stop ≠ some false) ∧
    (1 ≤ startable.units.remaining ∧ startable.lines = Lines.reset ∧ startable.capture.active ≠ none) := by
  decide +kernel

theorem witness_AbortStopsTheTest :
    (let s := withHalf (halfOf .filling (.nest .a)) (sweeping .window);
      s.ready .line ∧ (s.nest .a).state = .measuring ∧ s.chain.queue = [] ∧ s.loader.state ≠ .pending ∧
      (s.half .zero).unbegun (.nest .a) (s.nest .a).tag = true) ∧
    (let s := { startable with
        nestA := { startable.nestA with state := .waiting, verdict := some .fail }
        chain := { Chain.reset with holder := some .check, queue := [.nest .a] } };
      s.ready .station ∧ (s.nest .a).state = .waiting ∧ s.chain.holder = some .check ∧ s.loader.state ≠ .pending) ∧
    (let s := { startable with nestA := { startable.nestA with state := .analysing } };
      s.ready .station ∧ (s.nest .a).state = .analysing ∧ s.chain.queue = [] ∧ s.loader.state ≠ .pending) ∧
    (let s := { sweeping .settle with chain := { Chain.reset with holder := some (.nest .a), queue := [.nest .b, .check] } };
      s.ready .line ∧ (s.nest .a).state = .measuring ∧ s.chain.queue = .nest .b :: [.check] ∧ s.loader.state ≠ .pending) ∧
    (let s := loading .pending (sweeping .settle);
      s.ready .station ∧ s.loader.state = .pending ∧ s.loader.staged = some ⟨content, points⟩ ∧
      (s.nest .a).state = .measuring ∧ (s.nest (otherNest .a)).state.inTest = false ∧ s.chain.queue = [] ∧
      s.marker.waitList = []) ∧
    (let s := loading .pending { sweeping .settle with nestB := { Nest.reset with state := .analysing } };
      s.loader.state = .pending ∧ (s.nest .a).state.inTest = true ∧ (s.nest (otherNest .a)).state.inTest = true) ∧
    (State.reset.ready .station ∧ (State.reset.nest .b).state.inTest = false) := by decide +kernel

theorem witness_LineEventSetsTheVirtualLevel :
    (State.reset.ready .line ∧ State.reset.lines.bound (.present .a) = none ∧ (∀ n, InputFunction.present .a ≠ .start n)) ∧
    (State.reset.lines.bound .stop = none ∧ (InputFunction.stop ≠ .stop ∨
      ({ Lines.reset with stop := true }).virtual .stop = some true)) ∧
    (State.reset.lines.bound .doorClosed = none ∧ (State.reset.nest .a).state = .empty ∧
      ({ Lines.reset with clampB := false }).virtual (.clamp .b) = some false ∧
      ∀ n, (State.reset.nest n).state.inTest = false) ∧
    (let s := { sweeping .settle with
        nestB := { Nest.reset with state := .waiting }
        chain := { Chain.reset with holder := some (.nest .a), queue := [.nest .b] } };
      s.ready .line ∧ s.lines.bound .doorClosed = none ∧ s.lines.virtual .doorClosed = some (decide ((2 : Byte) = 2)) ∧
      s.lines.bound .stop = none ∧ s.lines.virtual .stop = some (decide ((1 : Byte) = 2)) ∧ s.loader.state ≠ .pending ∧
      .check ∉ s.chain.queue ∧ ∀ n, .nest n ∈ s.chain.queue → (s.nest n).state = .waiting) ∧
    ((withHalf (halfOf .filling (.nest .a)) (sweeping .window)).abortFrees .zero = true ∧
      (withHalf (halfOf .inAnalysis (.nest .a)) (sweeping .window)).abortFrees .zero = false) ∧
    (let s := sweeping .settle;
      s.ready .line ∧ s.lines.bound (.clamp .a) = none ∧ s.lines.virtual (.clamp .a) = some true ∧
      s.lines.bound (.present .a) = none ∧ s.lines.virtual (.present .a) = some true ∧ (s.nest .a).state.inTest = true ∧
      s.loader.state ≠ .pending ∧ .nest .a ∉ s.chain.queue) ∧
    (startable.ready .line ∧ startable.lines.bound (.present .a) = none ∧ startable.lines.virtual (.present .a) = some true ∧
      (startable.nest .a).state = .loaded) ∧
    (State.reset.lines.bound (.start .b) = none ∧ State.reset.startRefusal .b = some ⟨.state, 0⟩) ∧
    (startable.lines.bound (.start .a) = none ∧ startable.startRefusal .a = none) ∧
    (let s := lined (.input (.start .b)) false none true State.reset;
      s.ready .line ∧ s.lines.bound (.start .b) = some ⟨.input (.start .b), false, none, true⟩ ∧
      InputFunction.start .b = .start .b ∧ (3 : Byte) = 3) ∧
    ((lined (.input .stop) false none true State.reset).lines.bound .stop = some ⟨.input .stop, false, none, true⟩) ∧
    ((2 : Byte) ≠ 3 ∧ (4 : Byte) ≠ 3 ∧ (∀ n, InputFunction.stop ≠ .start n) ∧ (0 : Byte) ≠ 1 ∧ (3 : Byte) ≠ 2) ∧
    (State.reset.ready .line ∧ inputOf (0 : Byte).toNat = none ∧ inputOf (9 : Byte).toNat = none) :=
  ⟨⟨by decide +kernel, by decide +kernel, nofun⟩, by decide +kernel,
    ⟨by decide +kernel, by decide +kernel, by decide +kernel, fun n => by cases n <;> decide +kernel⟩,
    ⟨by decide +kernel, by decide +kernel, by decide +kernel, by decide +kernel, by decide +kernel, by decide +kernel,
      by decide +kernel, fun n => by cases n <;> decide +kernel⟩,
    by decide +kernel, by decide +kernel, by decide +kernel, by decide +kernel, by decide +kernel, by decide +kernel,
    by decide +kernel, ⟨by decide, by decide, nofun, by decide, by decide⟩, by decide +kernel⟩

/-- Nest A MEASURING, or a CHAIN CHECK running with nest A ANALYSING, under an abort of both nests: a CHAIN CHECK waits, a plan is
pending, or neither. -/
def aborting (holder : Claimant) (q : List Claimant) (st : LoaderState) : State :=
  loading st (stationRuns .chainCheck true
    { sweeping .settle with
      nestA := { (sweeping .settle).nestA with state := if holder = .check then .analysing else .measuring }
      chain := { Chain.reset with holder := some holder, queue := q } })

/-- What `State.TestsLeft` asks of the state before, clause by clause, at any edge that aborts both nests. -/
theorem witness_TestsLeft (l : Lines) :
    (let s := { aborting (.nest .a) [.check] .pending with lines := l };
      (∀ n, .nest n ∈ s.chain.queue → (s.nest n).state = .waiting) ∧ s.chain.queue.count .check = 1 ∧
      ∃ n, (s.nest n).state = .measuring) ∧
    (let s := { aborting (.nest .a) [] .pending with lines := l };
      (∀ n, .nest n ∈ s.chain.queue → (s.nest n).state = .waiting) ∧ .check ∉ s.chain.queue ∧
      s.chain.holder ≠ some .check ∧ s.loader.state = .pending ∧ s.loader.staged = some ⟨content, points⟩ ∧
      ∃ n, (s.nest n).state.inTest = true) ∧
    (let s := { aborting .check [] .pending with lines := l };
      (∀ n, .nest n ∈ s.chain.queue → (s.nest n).state = .waiting) ∧ .check ∉ s.chain.queue ∧
      s.chain.holder = some .check ∧ ∀ n, (s.nest n).state ≠ .measuring) :=
  ⟨⟨nofun, rfl, .a, rfl⟩, ⟨nofun, nofun, nofun, rfl, rfl, .a, rfl⟩, ⟨nofun, nofun, rfl, fun n => by cases n <;> nofun⟩⟩

theorem witness_LineEventSetsTheVirtualLevel_with_others_waiting (c : Claimant) (q : List Claimant) :
    (aborting c q .pending).ready .line ∧ (aborting c q .pending).lines.bound .doorClosed = none ∧
    (aborting c q .pending).lines.virtual .doorClosed = some (decide ((2 : Byte) = 2)) ∧
    (aborting c q .pending).lines.bound .stop = none ∧
    (aborting c q .pending).lines.virtual .stop = some (decide ((1 : Byte) = 2)) :=
  ⟨⟨rfl, nofun, rfl⟩, rfl, rfl, rfl, rfl⟩

/-- A state whose device 0 has the job of ticket 1 as its history, with `n` jobs in the queue. -/
def reprintable (n : Nat) : State :=
  let s := marking .ready (.page 0 []) (List.replicate n job) 0
  { s with marker := { s.marker with devices := [{ dev .ready with history := some job }] } }

theorem witness_ReprintQueuesACopy :
    ((reprintable 7).ready .station ∧ ((reprintable 7).marker.devices[(0 : Fin 4).val]?).bind (·.history) = some job ∧
      (reprintable 7).marker.queue ≠ [] ∧ (reprintable 7).marker.queue.length < 8) ∧ (3 < (4 : Byte).toNat) ∧
    ((reprintable 0).ready .line ∧ ((reprintable 0).marker.devices[(0 : Fin 4).val]?).bind (·.history) = some job ∧
      (reprintable 0).marker.queue = [] ∧ (reprintable 0).plan = some content ∧ content.marker ≠ none ∧
      (∃ x ∈ (reprintable 0).marker.devices, x.role = job.role) ∧ (reprintable 0).marker.bus ≠ none) ∧
    (let m := { (reprintable 0).marker with bus := none };
      m.bus = none ∧ (∀ y ∈ m.devices, y.state ≠ .negotiating) ∧ m.devices[0]? = some { dev .ready with history := some job }) ∧
    (let m := { (reprintable 0).marker with devices := [{ dev .ready with role := .reject, history := some job }] };
      (m.devices[(0 : Fin 4).val]?).bind (·.history) = some job ∧ m.queue = [] ∧ m.waitList = [] ∧
      ∀ x ∈ m.devices, x.role ≠ job.role) ∧
    ((reprintable 1).ready .line ∧ ((reprintable 1).marker.devices[(3 : Fin 4).val]?).bind (·.history) = none) ∧
    (((reprintable 8).marker.devices[(0 : Fin 4).val]?).bind (·.history) = some job ∧ 8 ≤ (reprintable 8).marker.queue.length) := by
  decide +kernel

/-- A record of point 3. -/
def record : PointRecord := ⟨3, 118921, .valid, 1, some 9400, some (-3959), some (-4602), none⟩

theorem witness_PagedListReplies :
    (127 : Byte).toNat ≤ 127 ∧ 127 < (128 : Byte).toNat ∧ (31 : Byte).toNat ≤ 31 ∧ 31 < (32 : Byte).toNat ∧
    (let s := { sweeping .settle with nestA := { (sweeping .settle).nestA with slots := [none, none, none, some record] } };
      s.ready .line ∧ (s.nest .a).slots[(0 : Byte).toNat + 3]? = some (some record) ∧
      (s.nest .a).slots[(2 : Byte).toNat + 0]? = some none) ∧
    ((retesting 1 32).ready .station ∧ (retesting 1 32).units.retest[(24 : Byte).toNat + 7]? = some ⟨700, 1, .fail, 4⟩) := by
  decide +kernel

/-- A state with one shift record. -/
def shifted : State := after (.closeShift .station [] .atOnce) State.reset

theorem witness_AccountAndCounterReplies :
    (State.reset.ready .line ∧ 4 < (5 : Byte).toNat ∧ (63 : Byte).toNat ≤ 63 ∧ 63 < (64 : Byte).toNat) ∧
    (let s := { State.reset with accounts := { Accounts.reset with ring := List.replicate 64 ⟨7, .expired⟩ } };
      s.ready .line ∧ s.accounts.ring[(63 : Byte).toNat + 0]? = some ⟨7, .expired⟩ ∧
      s.accounts.ring[(0 : Byte).toNat + 7]? = some ⟨7, .expired⟩) ∧
    (shifted.ready .line ∧ shifted.accounts.shifts.reverse[(0 : Fin 8).val]? = some (State.reset.shiftRecord .requested) ∧
      shifted.accounts.shifts.length ≤ (1 : Fin 8).val) ∧
    (let r := State.reset.shiftRecord .planChange;
      let s := { State.reset with accounts := { Accounts.reset with shifts := List.replicate 8 r } };
      s.ready .line ∧ s.accounts.shifts.reverse[(7 : Fin 8).val]? = some r ∧ r.deltas.ended < 4294967296) ∧
    (7 < (8 : Byte).toNat ∧ 3 < (4 : Byte).toNat) ∧
    (let s := { State.reset with marker := { Marker.reset with
        devices := [{ dev .ready with abilities := some ⟨1, 7, 2, 9⟩, history := some job }, dev .down], queue := [job]
        lastFailed := some ⟨job, .timeout, some 0, 1⟩ } };
      s.ready .line ∧ s.marker.devices[1]? = some (dev .down) ∧
      s.marker.devices[0]? = some { dev .ready with abilities := some ⟨1, 7, 2, 9⟩, history := some job } ∧
      ({ dev .ready with abilities := some ⟨1, 7, 2, 9⟩, history := some job }).history.bind (·.ticket) = some 1 ∧
      s.marker.queue = job :: [] ∧ s.marker.queue[0]? = some job ∧ job.ticket = some 1 ∧
      s.marker.lastFailed = some ⟨job, .timeout, some 0, 1⟩ ∧
      (s.marker.devices[(0 : Fin 4).val]?).bind (·.history) = some job ∧
      (s.marker.devices[(3 : Fin 4).val]?).bind (·.history) = none) ∧
    (State.reset.marker.lastFailed = none ∧ (4 : Byte) = 4 ∧ 3 < (4 : Byte).toNat) ∧
    (let s := { State.reset with marker := { Marker.reset with waitList := [⟨.b, job⟩, ⟨.a, { job with role := .reject }⟩] } };
      s.ready .station ∧ s.marker.waitList[0]? = some ⟨.b, job⟩ ∧
      s.marker.waitList[1]? = some ⟨.a, { job with role := .reject }⟩) := by decide +kernel

theorem witness_NestSummaryLayout :
    startable.ready .line ∧
    (let n := { startable.nestA with
        bin := some 15, ticket := some 0xFFFF, detected := [1, 14], worst := [some ⟨-658, 0, true⟩, none]
        lastRefusal := some ⟨.fixture, 8⟩ };
      n.bin = some 15 ∧ n.attempt.getD 0 < 8 ∧ 0 ∉ n.detected ∧ n.ticket = some 0xFFFF ∧
      (n.worst[0]?).join = some ⟨-658, 0, true⟩ ∧ (n.worst[1]?).join = none) := by decide +kernel
theorem witness_ReadEventsReportsAndClears :
    ({ startable with station := { Port.reset with unverified := false } }).ready .station := by decide +kernel
theorem witness_SetMaskAndIdentify : State.reset.ready .station ∧ State.reset.ready .line := by decide +kernel

theorem witness_DebounceAndPresenceLoss :
    (let s := lined (.input .stop) false none false State.reset;
      s.held = false ∧ s.lines.line[(0 : Fin 8)].pin ≠ true ∧ s.lines.line[(0 : Fin 8)].function = .input .stop) ∧
    ((after (.resetHold .pin) State.reset).held = true ∧ State.reset.lines.line[(7 : Fin 8)].pin = false ∧
      ∀ f, State.reset.lines.line[(7 : Fin 8)].function ≠ .input f) ∧
    (let s := lined (.input .stop) true none true State.reset;
      s.lines.line[(0 : Fin 8)].timer = true ∧ s.lines.line[(0 : Fin 8)].debounced = none) ∧
    (let s := lined (.input .stop) true (some true) true State.reset;
      s.lines.line[(0 : Fin 8)].timer = true ∧ s.lines.line[(0 : Fin 8)].debounced = some s.lines.line[(0 : Fin 8)].pin) ∧
    (let s := lined (.input .stop) false (some true) true State.reset;
      s.lines.line[(0 : Fin 8)].function = .input .stop ∧ s.lines.line[(0 : Fin 8)].pin = false) ∧
    State.reset.lines.line[(7 : Fin 8)].timer = false ∧
    (∀ st : NestState, st = .done ∨ st = .loaded ∨ st = .empty ∨ st = .labelWait →
      let s := lined (.input (.present .a)) false (some true) true
        { startable with nestA := { startable.nestA with state := st } };
      s.AtEdge 0 (.present .a) false ∧ s.loader.state ≠ .pending ∧ (s.nest .a).state = st ∧
      (s.nest .a).kind = some .production ∧ (s.nest .a).attempt = some 1) ∧
    (let s := lined (.input (.clamp .a)) false (some true) true (sweeping .settle);
      s.AtEdge 0 (.clamp .a) false ∧ s.loader.state ≠ .pending ∧ (s.nest .a).state = .measuring ∧ s.chain.queue = []) ∧
    (let s := lined (.input (.clamp .b)) false (some true) true (sweeping .settle);
      s.AtEdge 0 (.clamp .b) false ∧ (s.nest .b).state.inTest = false) ∧
    (let s := lined (.input .doorClosed) false (some true) true (sweeping .settle);
      s.AtEdge 0 .doorClosed false ∧ s.loader.state ≠ .pending ∧ s.chain.queue = []) ∧
    (lined (.input .stop) true (some false) true (sweeping .settle)).AtEdge 0 .stop true ∧
    (let s := lined (.input (.start .a)) true (some false) true startable;
      s.AtEdge 0 (.start .a) true ∧ s.startRefusal .a = none ∧ s.chain.holder = none ∧ s.chain.queue = []) ∧
    (let s := lined (.input (.start .b)) true (some false) true (sweeping .settle);
      s.AtEdge 0 (.start .b) true ∧ s.startRefusal .b = some ⟨.state, 0⟩) ∧
    (let s := lined (.output .yieldLow) true none false startable;
      s.held = false ∧ s.lines.line[(0 : Fin 8)].function = .output .yieldLow) := by
  refine ⟨by decide +kernel, ⟨by decide +kernel, by decide +kernel, nofun⟩, by decide +kernel, by decide +kernel,
    by decide +kernel, by decide +kernel, ?_, ⟨⟨by decide, by decide, by decide, by decide, by decide⟩, by decide +kernel⟩,
    ⟨⟨by decide, by decide, by decide, by decide, by decide⟩, by decide +kernel⟩,
    ⟨⟨by decide, by decide, by decide, by decide, by decide⟩, by decide +kernel⟩,
    ⟨by decide, by decide, by decide, by decide, by decide⟩,
    ⟨⟨by decide, by decide, by decide, by decide, by decide⟩, by decide +kernel⟩,
    ⟨⟨by decide, by decide, by decide, by decide, by decide⟩, by decide +kernel⟩, by decide +kernel⟩
  rintro st (rfl | rfl | rfl | rfl) <;>
    exact ⟨⟨by decide, by decide, by decide, by decide, by decide⟩, by decide +kernel⟩

theorem witness_DebounceAndPresenceLoss_with_others_waiting (c : Claimant) (q : List Claimant) :
    (lined (.input .doorClosed) false (some true) true (aborting c q .pending)).AtEdge 0 .doorClosed false ∧
    (lined (.input .stop) true (some false) true (aborting c q .pending)).AtEdge 0 .stop true :=
  ⟨⟨rfl, rfl, rfl, rfl, rfl⟩, ⟨rfl, rfl, rfl, rfl, rfl⟩⟩

theorem witness_WindowHoldsAtMost4001Samples :
    (2000 ≤ 2000 ∧ 2000 ≤ 2000000 ∧ 4 ≤ 4 ∧ 4 ≤ 256 ∧ (0 : Phase).toNat < (phaseIncrement 2000).toNat) ∧
    (2000 ≤ 2000000 ∧ 2000000 ≤ 2000000 ∧ 4 ≤ 256 ∧ 256 ≤ 256 ∧ (1789569706 : Phase).toNat < (phaseIncrement 2000000).toNat) := by
  decide +kernel

theorem witness_WindowBeginsAtAPostWrapSample :
    (let s := sweeping .settle;
      s.held = false ∧ s.gen.mode = .settle ∧ s.gen.claimant = some (.nest .a) ∧ s.gen.stopMark = false ∧
      0 < s.gen.inc.toNat ∧ s.freeHalf ≠ none) ∧
    (let s := { sweeping .settle with capture := ⟨halfOf .queued (.nest .b), halfOf .inAnalysis (.nest .b), 1, none, none, none⟩ };
      s.held = false ∧ s.gen.mode = .settle ∧ s.freeHalf = none ∧ { s.gen with mode := .holdoff }.mode = .holdoff ∧
      s.capture.holdoff = none) ∧
    (let s := sweeping .holdoff;
      s.held = false ∧ s.gen.mode = .holdoff ∧ s.capture.holdoff = none ∧ s.gen.claimant = some (.nest .a) ∧
      s.gen.stopMark = false ∧ 0 < s.gen.inc.toNat ∧ s.freeHalf ≠ none) := by decide +kernel

theorem witness_WindowEndDecisions :
    (let s := { withHalf (halfOf .filling .check) (checking .window) with
        engine := { Engine.reset with under := some .one, queue := [.one] } };
      s.held = false ∧ s.gen.mode = .window ∧ s.fillingHalf = some .zero ∧ (s.half .zero).claimant = .check ∧
      s.gen.claimant = some .check ∧ s.gen.cursor = 0 ∧ [((0 : Sample), (0 : Sample)), (1, 1)].length = (s.half .zero).length ∧
      s.engine.under = some .one ∧ (s.engine.under = none → s.engine.queue = [])) ∧
    (let s := withHalf (halfOf .filling .check) (checking .window);
      s.engine.under = none ∧ s.engine.queue = [] ∧ 1 ≤ { s.gen with cursor := 1 }.cursor) ∧
    (let s := withHalf (halfOf .filling (.nest .a)) { sweeping .window with straps := ⟨0, true⟩ };
      let w : List (Sample × Sample) := [(912004, 41943), (0, 0)];
      s.held = false ∧ s.gen.mode = .window ∧ s.fillingHalf = some .zero ∧ (s.half .zero).claimant = .nest .a ∧
      s.plan = some content ∧ w.length = (s.half .zero).length ∧ peakOf (w.map (·.1)) < content.guard.overload ∧
      s.straps.ambient = true ∧ (s.half .zero).guard = true ∧
      content.guard.threshold < guardLevel (peakOf (w.map (·.2))) ((s.capture.active.map (·.ambient)).getD 0) ∧
      (s.half .zero).attempt ≤ content.guard.retries) := by decide +kernel

/-- Nest A's window in half 0 is played, with the guard on and `k` windows tried at the point. -/
def windowed (k : Nat) : State :=
  withHalf { halfOf .filling (.nest .a) with attempt := k } { sweeping .window with straps := ⟨0, true⟩ }

theorem witness_WindowEndDecisions_of_a_nest :
    ((windowed 1).AtWindowEnd .a .zero content [(912004, 10), (0, 0)] ∧
      peakOf ([((912004 : Sample), (10 : Sample)), (0, 0)].map (·.1)) < content.guard.overload ∧
      ¬ (windowed 1).guardFails .zero content [(912004, 10), (0, 0)] ∧ (windowed 1).engine.under = none ∧
      (windowed 1).engine.queue = [] ∧ (windowed 1).gen.cursor + 1 < (windowed 1).planPoints.length) ∧
    ((windowed 1).AtWindowEnd .a .zero content [(8000000, 41943), (0, 0)] ∧ ((windowed 1).nest .a).state = .measuring ∧
      ((windowed 1).half .zero).tag = ((windowed 1).nest .a).tag ∧
      content.guard.overload ≤ peakOf ([((8000000 : Sample), (41943 : Sample)), (0, 0)].map (·.1))) ∧
    ((windowed 3).AtWindowEnd .a .zero content [(7999999, 41943), (0, 0)] ∧
      peakOf ([((7999999 : Sample), (41943 : Sample)), (0, 0)].map (·.1)) < content.guard.overload ∧
      (windowed 3).guardFails .zero content [(7999999, 41943), (0, 0)] ∧
      content.guard.retries < ((windowed 3).half .zero).attempt) := by
  refine ⟨⟨⟨?_, ?_, ?_, ?_, ?_, ?_, ?_, ?_⟩, ?_⟩, ⟨⟨?_, ?_, ?_, ?_, ?_, ?_, ?_, ?_⟩, ?_⟩,
    ⟨⟨?_, ?_, ?_, ?_, ?_, ?_, ?_, ?_⟩, ?_⟩⟩ <;> (try unfold State.guardFails) <;> decide +kernel

theorem witness_HoldoffRunOutAndFadeOutEnd :
    (let s := { sweeping .holdoff with capture := { Capture.reset with holdoff := some 1 } };
      s.held = false ∧ s.gen.mode = .holdoff ∧ s.capture.holdoff = some (0 + 1)) ∧
    ((sweeping .runOut).held = false ∧ (sweeping .runOut).gen.mode = .runOut ∧ 0 < (sweeping .runOut).gen.inc.toNat ∧
      (sweeping .runOut).capture.holdoff = none) ∧
    (let s := withHalf (halfOf .queued (.nest .a)) (sweeping .fadeOut);
      s.held = false ∧ s.gen.mode = .fadeOut ∧ s.gen.claimant = some (.nest .a) ∧ s.gen.ramp < 480 ∧
      s.outstanding .a ≠ 0 ∧ s.chain.queue = [] ∧ s.capture.holdoff = none) ∧
    (let s := stationRuns .chainCheck true (checking .fadeOut);
      s.held = false ∧ s.gen.mode = .fadeOut ∧ s.gen.claimant = some .check ∧ s.gen.ramp < 480 ∧ s.capture.holdoff = none ∧
      s.chain.holder = some .check ∧ s.chain.checkA = none) ∧
    (let s := stationRuns .chainCheck true { checking .fadeOut with
        chain := { Chain.reset with holder := some .check, checkA := some (-2050), checkB := some (-1949) } };
      s.chain.checkA = some (-2050) ∧ s.chain.checkB = some (-1949) ∧ s.chain.queue = [] ∧ s.loader.state ≠ .pending ∧
      s.station.running = some ⟨.chainCheck, Vector.replicate 64 0, true⟩) := by decide +kernel

/-- A chain check at its end, in generator mode `m`: both results are in, or the one for input A is under analysis; `q` waits. -/
def ending (m : GenMode) (a : Option Int) (q : List Claimant) : State :=
  stationRuns .chainCheck true (analysing (withHalf (halfOf .inAnalysis .check) { checking m with
    chain := { Chain.reset with
      holder := some .check, checkA := a, checkB := some (-1950), checkFaded := decide (m = .silent), queue := q } }))

theorem witness_HoldoffRunOutAndFadeOutEnd_with_a_grant :
    (∃ u, exec .lastFadeOutSample (ending .fadeOut (some (-2050)) [.nest .b, .nest .a]).alone = .next u ∧
      u.chain.holder = none) ∧
    (∃ u, exec .analysisCompletion (ending .silent none [.nest .b, .nest .a]).alone = .next u ∧ u.chain.holder = none) ∧
    (∃ u, exec (.abandon .station []) (ending .settle none [.nest .b, .nest .a]).alone = .next u ∧ u.chain.holder = none) ∧
    (∀ m a, (ending m a [.nest .b, .nest .a]).chain.holder ≠ none ∧
      (ending m a [.nest .b, .nest .a]).chain.queue = .nest .b :: [.nest .a]) :=
  ⟨⟨_, exec_after _ _, by decide +kernel⟩, ⟨_, exec_after _ _, by decide +kernel⟩, ⟨_, exec_after _ _, by decide +kernel⟩,
    fun _ _ => ⟨nofun, rfl⟩⟩

theorem witness_HoldoffRunOutAndFadeOutEnd_with_an_activation :
    let pending (m : GenMode) (a : Option Int) : State := loading .pending (ending m a [])
    (∃ u, exec .lastFadeOutSample (pending .fadeOut (some (-2050))).alone = .next u ∧ u.planInUse = false) ∧
    (∃ u, exec .analysisCompletion (pending .silent none).alone = .next u ∧ u.planInUse = false) ∧
    (∃ u, exec (.abandon .station []) (pending .settle none).alone = .next u ∧ u.planInUse = false) ∧
    (∀ m a, (pending m a).chain.queue = [] ∧ (pending m a).loader.state = .pending ∧
      (pending m a).loader.staged = some ⟨content, points⟩ ∧ (pending m a).planInUse = true) :=
  ⟨⟨_, exec_after _ _, by decide +kernel⟩, ⟨_, exec_after _ _, by decide +kernel⟩, ⟨_, exec_after _ _, by decide +kernel⟩,
    fun _ _ => ⟨rfl, rfl, rfl, rfl⟩⟩

theorem witness_CompletionGoesToItsClaimant :
    (let s := analysing (withHalf (halfOf .inAnalysis (.nest .b)) (sweeping .settle));
      s.held = false ∧ s.engine.under = some .zero ∧ s.engine.queue = [.zero] ∧ (s.half .zero).claimant = .nest .b ∧
      (s.nest .b).state ≠ .measuring ∧ (s.nest .b).state ≠ .analysing) ∧
    (let s := analysing (withHalf (halfOf .inAnalysis (.nest .a)) (sweeping .settle));
      s.held = false ∧ s.engine.under = some .zero ∧ s.engine.queue = [.zero] ∧ (s.half .zero).claimant = .nest .a ∧
      (s.nest .a).state = .measuring ∧ (s.half .zero).tag = (s.nest .a).tag ∧ s.plan = some content ∧
      content.sweep.stopOnFail = false ∧ content.sweep.reference = none) ∧
    (let s := analysing (withHalf (halfOf .inAnalysis .check) (checking .settle));
      s.held = false ∧ s.engine.under = some .zero ∧ s.engine.queue = [.zero] ∧ (s.half .zero).claimant = .check ∧
      s.chain.holder = some .check ∧ (s.half .zero).tag = s.chain.checkTag ∧ s.chain.checkFaded = false) ∧
    (let s := stationRuns .chainCheck true (analysing (withHalf (halfOf .inAnalysis .check)
        { checking .silent with chain := { Chain.reset with holder := some .check, checkB := some (-1950), checkFaded := true } }));
      s.chain.checkFaded = true ∧ (s.half .zero).input = .a ∧ (analyse (s.half .zero)).lfs = -15000 ∧
      s.chain.checkB = some (-1950) ∧ s.chain.queue = [] ∧ s.loader.state ≠ .pending ∧
      s.station.running = some ⟨.chainCheck, Vector.replicate 64 0, true⟩) := by decide +kernel

/-- In `s`, half 0 holds a window of claimant `c` under tag 1 that completes, and half 1 is QUEUED behind it. -/
def stale (c : Claimant) (s : State) : State :=
  { s with
    capture := { s.capture with half0 := { halfOf .inAnalysis c with tag := 1 }, half1 := halfOf .queued (.nest .a) }
    engine := { Engine.reset with under := some .zero, queue := [.zero, .one] } }

/-- Each result that its claimant discards: a nest in none of the two states, one MEASURING and one ANALYSING under a later tag, a
CHAIN CHECK of another tag, and one that holds the chain no more, a nest or nobody holding it. -/
theorem witness_CompletionGoesToItsClaimant_of_a_discarded_result :
    (∀ (c : Claimant) (s : State), s.held = false → (stale c s).held = false ∧ (stale c s).engine.under = some .zero ∧
      (stale c s).engine.queue = .zero :: [.one] ∧ .zero ∉ [HalfId.one] ∧ ((stale c s).half .one).state = .queued) ∧
    (stale (.nest .b) (sweeping .settle)).discards .zero ∧
    (∀ st, st = .measuring ∨ st = .analysing →
      let s := { sweeping .settle with nestA := { (sweeping .settle).nestA with state := st, tag := 2 } };
      (s.nest .a).state = st ∧ (stale (.nest .a) s).discards .zero) ∧
    (let s := { checking .settle with chain := { (checking .settle).chain with checkTag := 2 } };
      s.chain.holder = some .check ∧ (stale .check s).discards .zero) ∧
    (let s := { sweeping .settle with chain := { (sweeping .settle).chain with checkTag := 1 } };
      ((stale .check s).half .zero).tag = s.chain.checkTag ∧ (stale .check s).discards .zero) ∧
    (stale .check { State.reset with chain := { Chain.reset with checkTag := 1 } }).discards .zero := by
  refine ⟨fun c s h => ⟨h, rfl, rfl, by decide, rfl⟩, Or.inl ⟨nofun, nofun⟩, fun st _ => ⟨rfl, Or.inr ?_⟩, ⟨rfl, Or.inr ?_⟩,
    ⟨rfl, Or.inl ?_⟩, Or.inl ?_⟩ <;> exact of_decide_eq_false rfl

/-- Nest A ANALYSING a unit of kind `kind`, with a VALID window in half 0 under analysis and `m` more of its windows queued. -/
def finishing (kind : UnitKind) (m : Nat) : State :=
  let h := { halfOf .inAnalysis (.nest .a) with
    micOffset := some 11400, samples := [(838861, 0x40000000), (-838861, 0xC0000000)] }
  { sweeping .silent with
    nestA := { (sweeping .silent).nestA with state := .analysing, kind := some kind }
    chain := Chain.reset, gen := Generator.reset
    capture := { Capture.reset with half0 := h, half1 := if m = 0 then Half.reset else { h with state := .queued } }
    engine := { Engine.reset with under := some .zero, queue := if m = 0 then [.zero] else [.zero, .one] } }

/-- The record of nest A after the completion in `finishing`. -/
def finished (kind : UnitKind) : Nest :=
  let s := finishing kind 0
  (s.nest .a).take content (recordOf content.sweep.minResponse (s.half .zero) (analyse (s.half .zero)))

theorem witness_CompletionGoesToItsClaimant_of_an_analysing_nest (kind : UnitKind) :
    (finishing kind 0).AtLastCompletion .a .zero content (finished kind) ∧ (finishing kind 0).loader.state ≠ .pending ∧
    (finished kind).kind = some kind ∧ (finishing kind 0).chain.holder ≠ some .check ∧
    (let s := loading .pending (finishing kind 0);
      s.loader.state = .pending ∧ s.loader.staged = some ⟨content, points⟩ ∧ (s.nest (otherNest .a)).state.inTest = false) ∧
    (let s := finishing kind 1;
      s.engine.queue = [.zero, .one] ∧ (s.half .one).claimant = .nest .a ∧ (s.half .one).tag = (s.nest .a).tag ∧
      (s.half .one).state = .queued ∧ (s.nest .a).state = .analysing ∧ s.plan = some content) := by
  cases kind <;> refine ⟨⟨?_, ?_, ?_, ?_, ?_, ?_, ?_, ?_, ?_, ?_⟩, ?_⟩ <;> decide +kernel

theorem witness_CompletionGoesToItsClaimant_at_a_ruling :
    (finishing .production 0).AtRuling .a content (finished .production) 7 1 .fail .fail false true false := by
  refine ⟨?_, ?_, ?_, ?_, ?_, ?_, ?_, ?_, ?_⟩ <;> decide +kernel

/-- A window of nest A with harmonic count `k`: one cycle of a tone in four samples, or nothing. -/
def toned (k : Nat) (silent : Bool) : Half :=
  { halfOf .inAnalysis (.nest .a) with
    harmonics := k, micOffset := some 11400, length := 4
    samples := if silent then [] else [(0, 0), (838861, 0x40000000), (0, 0x80000000), (-838861, 0xC0000000)] }

theorem witness_MeasurementsAreClamped (k : Nat) (silent : Bool) : ∃ (I Q : Nat → Int) (A : Nat → ℝ) (D P : ℝ),
    (toned k silent).Analysis (min k 23) I Q A D P ∧ 1 ≤ (toned k silent).length ∧ (toned k silent).micOffset = some 11400 ∧
    (A 1 = 0 ↔ silent = true) := by
  obtain ⟨I, Q, A, D, P, h⟩ := (toned k silent).analysis_exists
  have e : min (toned k silent).harmonics (2399999 / (toned k silent).freq) = min k 23 := by simp [toned, halfOf]
  rw [e] at h
  refine ⟨I, Q, A, D, P, h, by change 1 ≤ 4; decide, rfl, ?_⟩
  have hi := h.inPhase 1
  have hq := h.quad 1
  have hl : ((toned k silent).length : ℝ) = 4 := by simp [toned]
  rw [h.amplitude, hl]
  cases silent
  · have : Q 1 = 54973916774 :=
      hq.trans (by rw [show (toned k false).samples = (toned 0 false).samples from rfl]; decide +kernel)
    have : (0 : ℝ) < (Q 1 : ℝ) := by rw [this]; norm_num
    simp; positivity
  · have hi : I 1 = 0 := hi.trans rfl
    have hq : Q 1 = 0 := hq.trans rfl
    simp [hi, hq]

/-- A tone is VALID, with one harmonic below half the sample rate and with two; nothing is NO_SIGNAL. -/
theorem witness_MeasurementsAreClamped_by_status :
    (recordOf 6000 (toned 2 false) (analyse (toned 2 false))).status = .valid ∧
    (recordOf 6000 (toned 1 false) (analyse (toned 1 false))).status = .valid ∧
    (recordOf 6000 (toned 2 true) (analyse (toned 2 true))).status = .noSignal ∧ (toned 2 false).claimant = .nest .a ∧
    1 ≤ min 1 23 ∧ 2 ≤ min 2 23 := by decide +kernel

theorem witness_EffectiveHarmonicsStayBelowHalfTheRate :
    1 ≤ 1 ∧ (1 ≤ 1200000 ∧ 1200000 ≤ 1200000) ∧ (1199999 < 1200000 ∧ 2 ≤ 2) ∧ (halfOf .queued .check).harmonics = 3 ∧
    (halfOf .queued .check).freq = 100000 := by decide

theorem witness_MarginIsTheSaturatedDifference :
    (let d : Int := 28823 - limitAt 100000 rnbCurve.breakpoints;
      -32768 ≤ d ∧ d ≤ 32767) ∧
    32767 < (28824 : Int) - limitAt 100000 rnbCurve.breakpoints ∧
    (-36713 : Int) - limitAt 100000 rnbCurve.breakpoints < -32768 := by decide

theorem witness_LimitLiesBetweenItsBreakpoints :
    ([] ++ (⟨80000, -3500⟩ : Breakpoint) :: ⟨125000, -4500⟩ :: [⟨200000, 100⟩]).Pairwise (fun (x y : Breakpoint) => x.freq < y.freq) ∧
    (⟨80000, -3500⟩ : Breakpoint).freq < 80001 ∧ 124999 < (⟨125000, -4500⟩ : Breakpoint).freq ∧
    ([(⟨80000, -3500⟩ : Breakpoint)] ++ (⟨125000, -4500⟩ : Breakpoint) :: ⟨200000, 100⟩ :: []).Pairwise (fun (x y : Breakpoint) => x.freq < y.freq) ∧
    -32768 ≤ min (-3500 : Int) (-4500) ∧ max (-3500 : Int) (-4500) ≤ 32767 := by decide

/-- A production unit's first test at its last fade-out sample, every record VALID, in a plan without a MARKER section. -/
def passing : State :=
  let c := { content with marker := none }
  { sweeping .fadeOut with
    loader := { Loader.reset with active := some ⟨[], c, points⟩ }
    nestA := { (sweeping .fadeOut).nestA with slots := [some ⟨0, 100000, .valid, 1, some 9400, none, some (-4602), none⟩] } }

theorem witness_VerdictFollowsTheRecord :
    (let n : Nest := { Nest.reset with slots := [some ⟨0, 100000, .overload, 1, none, none, none, none⟩] };
      n.hasStatus .overload = true) ∧
    (let n : Nest := { Nest.reset with detected := [1] };
      n.hasStatus .overload = false ∧ n.detected ≠ []) ∧ Nest.reset.resolve [] = .pass ∧
    (Nest.reset.hasStatus .overload = false ∧ Nest.reset.detected = []) ∧
    (let b : Bins := ⟨[⟨4, 1⟩, ⟨5, 1⟩, ⟨6, 0⟩], 15⟩;
      3 ∈ [2, 1, 3] ∧ b.binOf .fail [2, 1, 3] = 6 ∧ b.binOf .fail [2, 1] = 4) ∧
    (passing.held = false ∧ passing.gen.mode = .fadeOut ∧ passing.gen.claimant = some (.nest .a) ∧ passing.gen.ramp < 480 ∧
      passing.outstanding .a = 0 ∧ passing.chain.queue = [] ∧ passing.capture.holdoff = none ∧ passing.loader.state ≠ .pending ∧
      passing.plan = some { content with marker := none } ∧ (passing.nest .a).kind = some .production ∧
      (passing.nest .a).serial = some 7 ∧ (passing.nest .a).attempt = some 1 ∧
      (passing.nest .a).resolve content.limits = .pass) := by decide +kernel

/-- Nest A's last fade-out sample under a plan with a MARKER section, at attempt `k`, with `q` label jobs, the record of the one
point being `r`, and one FAIL before the limit. -/
def deciding (kind : UnitKind) (k q : Nat) (r : PointRecord) : State :=
  { sweeping .fadeOut with
    nestA := { (sweeping .fadeOut).nestA with
      kind := some kind, attempt := some k, slots := [some r]
      detected := if r.status = .noSignal then [1] else [] }
    units := { UnitTable.reset with failCount := 2, retest := List.replicate 32 ⟨700, 1, .fail, 4⟩ }
    marker := { Marker.reset with queue := List.replicate q job } }

theorem witness_VerdictFollowsTheRecord_at_a_ruling :
    (deciding .production 2 0 record).AtRuling .a content ((deciding .production 2 0 record).nest .a) 7 2 .pass .pass true false
      false ∧
    (deciding .production 2 8 { record with status := .overload }).AtRuling .a content
      ((deciding .production 2 8 { record with status := .overload }).nest .a) 7 2 .retest .fail true false true ∧
    (deciding .production 1 0 { record with status := .noSignal }).AtRuling .a content
      ((deciding .production 1 0 { record with status := .noSignal }).nest .a) 7 1 .fail .fail false true true := by
  refine ⟨⟨?_, ?_, ?_, ?_, ?_, ?_, ?_, ?_, ?_⟩, ⟨?_, ?_, ?_, ?_, ?_, ?_, ?_, ?_, ?_⟩, ⟨?_, ?_, ?_, ?_, ?_, ?_, ?_, ?_, ?_⟩⟩ <;>
    decide +kernel

/-- A stopped test: the record of the point that failed and a SKIPPED one behind it, beside the reason. -/
theorem witness_VerdictFollowsTheRecord_of_a_skipped_point :
    let s := { State.reset with nestA := { Nest.reset with
      state := .analysing, detected := [1], slots := [some record, some { record with index := 4, status := .skipped }] } }
    s.RecordsSound ∧ (s.nest .a).hasStatus .skipped = true :=
  ⟨⟨fun n h => by cases n <;> revert h <;> decide +kernel, fun n h => by cases n <;> rfl, fun n h => by cases n <;> cases h⟩,
    by decide +kernel⟩

/-- R108: code 3 wins by its priority, and of codes of one priority the lowest. -/
theorem witness_VerdictFollowsTheRecord_of_the_bin :
    Bins.wins ⟨[⟨4, 1⟩, ⟨5, 1⟩, ⟨6, 0⟩], 15⟩ [2, 1, 3] 3 ∧ Bins.wins ⟨[⟨4, 1⟩, ⟨5, 1⟩, ⟨6, 0⟩], 15⟩ [2, 1] 1 := by
  unfold Bins.wins; decide

theorem witness_VerdictFollowsTheRecord_of_any_attempt :
    ((deciding .production 1 7 record).AtVerdict .a content ∧
      ((deciding .production 1 7 record).nest .a).kind = some .production ∧
      ((deciding .production 1 7 record).nest .a).serial = some 7 ∧
      ((deciding .production 1 7 record).nest .a).attempt = some 1 ∧
      (deciding .production 1 7 record).marker.queue ≠ [] ∧ (deciding .production 1 0 record).marker.queue = [] ∧
      (∀ y ∈ (deciding .production 1 0 record).marker.devices, y.role ≠ .label) ∧
      (∃ y ∈ (marking .ready .probe [] 0).marker.devices, y.role = .label) ∧
      ((deciding .production 1 7 record).nest .a).resolve content.limits = .pass ∧
      (deciding .production 1 7 record).marker.queue.length < 8 ∧ 8 ≤ (deciding .production 2 8 record).marker.queue.length) ∧
    (((deciding .production 1 7 { record with status := .noSignal }).nest .a).resolve content.limits = .fail ∧
      1 < content.policy.maxAttempts ∧ 0 < content.policy.failLimit ∧ content.policy.failLimit ≤ 2 + 1 ∧
      (deciding .production 1 7 record).units.failCount = 2 ∧ 31 ≤ (List.replicate 31 (⟨700, 1, .fail, 4⟩ : RetestEntry)).length ∧
      (deciding .production 1 7 record).units.retest = ⟨700, 1, .fail, 4⟩ :: List.replicate 31 ⟨700, 1, .fail, 4⟩) ∧
    (((deciding .production 2 8 { record with status := .overload }).nest .a).resolve content.limits = .retest ∧
      content.policy.maxAttempts ≤ 2) ∧
    ((deciding .reference 1 0 record).AtVerdict .a content ∧
      ((deciding .reference 1 0 record).nest .a).kind = some .reference) := by
  refine ⟨⟨⟨?_, ?_, ?_, ?_, ?_, ?_, ?_, ?_, ?_⟩, ?_⟩, ?_, ?_, ⟨⟨?_, ?_, ?_, ?_, ?_, ?_, ?_, ?_, ?_⟩, ?_⟩⟩ <;> decide +kernel

/-- Nest B waits for the chain, or a plan to be activated, at the verdict of nest A. -/
theorem witness_VerdictFollowsTheRecord_with_others_waiting :
    (let s := { deciding .production 1 7 record with
        chain := { (sweeping .fadeOut).chain with queue := [.nest .b, .check] } };
      s.alone.AtVerdict .a content ∧ s.alone.AtRuling .a content (s.nest .a) 7 1 .pass .pass false false false ∧
      s.chain.queue = .nest .b :: [.check]) ∧
    (let s := loading .pending (deciding .production 1 7 record);
      s.alone.AtVerdict .a content ∧ s.alone.AtRuling .a content (s.nest .a) 7 1 .pass .pass false false false ∧
      s.chain.queue = [] ∧ s.loader.state = .pending ∧ s.loader.staged = some ⟨content, points⟩ ∧
      (s.nest (otherNest .a)).state.inTest = false) := by
  refine ⟨⟨⟨?_, ?_, ?_, ?_, ?_, ?_, ?_, ?_, ?_⟩, ⟨?_, ?_, ?_, ?_, ?_, ?_, ?_, ?_, ?_⟩, ?_⟩,
    ⟨⟨?_, ?_, ?_, ?_, ?_, ?_, ?_, ?_, ?_⟩, ⟨?_, ?_, ?_, ?_, ?_, ?_, ?_, ?_, ?_⟩, ?_⟩⟩ <;> decide +kernel

theorem witness_ProbeOutcomes :
    (let s := marking .negotiating .probe [] 0;
      s.held = false ∧ s.marker.bus = some ⟨0, .probe, .live⟩ ∧ s.marker.devices[0]? = some (dev .negotiating) ∧
      (dev .negotiating).state = .negotiating ∧ s.marker.queue = [] ∧ s.marker.head.bound = none ∧ 2 ≤ (dev .negotiating).naks) ∧
    ({ dev .negotiating with naks := 1 }).naks < 2 ∧ (2 : Byte) ≠ 1 ∧
    resolveFormat (marking .negotiating .probe [] 0).preferences 7 2 = some 2 ∧
    resolveFormat (marking .negotiating .probe [] 0).preferences 1 4 = none ∧
    (let s := marking .negotiating .probe [job] 0;
      s.held = false ∧ s.marker.bus = some ⟨0, .probe, .live⟩ ∧ s.marker.devices[0]? = some (dev .negotiating) ∧
      s.marker.queue = job :: [] ∧ s.marker.head.bound = some 0 ∧ (dev .negotiating).role = job.role ∧
      resolveFormat s.preferences 7 2 = some 2 ∧ (∀ y ∈ s.marker.devices, y.role = job.role → y.state ≠ .ready) ∧
      { s.marker with head := Head.clear }.head.bound = none ∧ s.marker.head.busyWait = false ∧ s.marker.devices.length = 1) := by
  decide +kernel

/-- R151: a MARKER START that runs completes at the probe that leaves no device NEGOTIATING: one device, address 31h, READY with
format 2, or FAULT with cause ABSENT and MARKER_FAULT latched. -/
theorem test_marker_start_completes :
    let s := stationRuns .markerStart true (marking .negotiating .probe [] 0)
    let t := after (.probeEnd (.page 1 7 2 0)) s
    let u := after (.probeEnd .nak) s
    (t.station.slot, t.station.events, t.station.reply.toList.take 9) = (.done, 0xC000, [0, 0, 0, 0, 4, 1, 0x31, 4, 2]) ∧
    (u.station.slot, u.station.events, u.station.reply.toList.take 9) = (.done, 0xC400, [0, 0, 0, 0, 4, 1, 0x31, 14, 2]) := by
  decide +kernel

theorem witness_WaitsEnd :
    (let s := marking .negotiating .probe [] 0;
      s.held = false ∧ s.marker.devices[(0 : Fin 4).val]? = some (dev .negotiating) ∧ (dev .negotiating).retryWait = true ∧
      s.marker.bus ≠ none ∧ s.marker.head.busyWait = false ∧ { s.marker with bus := none }.bus = none) ∧
    (let s := after (.pageTransactionEnd (.reply 2)) (marking .ready (.page 4 []) [job] 0);
      s.held = false ∧ s.marker.head.busyWait = true ∧ s.marker.bus = none ∧
      (∀ y ∈ s.marker.devices, y.state = .negotiating → y.retryWait = true) ∧ s.marker.head.bound = some 0 ∧
      s.marker.devices[0]? = some (dev .ready) ∧ s.marker.queue = job :: []) ∧
    [dev .ready, { dev .negotiating with retryWait := false }].findIdx? (fun y => y.state = .negotiating && !y.retryWait) =
      some 1 := by decide +kernel

theorem witness_PageOutcomes :
    (let s := marking .ready (.page 4 []) [job] 0;
      s.held = false ∧ s.marker.bus = some ⟨0, .page 4 [], .live⟩ ∧ s.marker.devices[0]? = some (dev .ready) ∧
      (dev .ready).state = .ready ∧ (dev .ready).resolved = some 2 ∧ s.marker.queue = job :: [] ∧
      s.marker.head.bound = some 0 ∧ s.marker.head.page + 1 < 2) ∧
    (let s := marking .ready (.page 4 []) [{ job with restarts := 3 }, job] 0;
      s.marker.queue = { job with restarts := 3 } :: [job] ∧ s.marker.head.bound = some 0) ∧
    ({ job with restarts := 2 }).restarts < 3 ∧ 3 ≤ ({ job with restarts := 3 }).restarts ∧
    ((0x71 : Byte).toNat % 16 = 1 ∧ (0x71 : Byte).getLsbD 7 = (dev .ready).toggle) ∧ (0xF2 : Byte).toNat % 16 = 2 ∧
    ((0x81 : Byte).toNat % 16 = 1 ∧ (0x81 : Byte).getLsbD 7 ≠ (dev .ready).toggle) ∧ (0x70 : Byte).toNat % 16 = 0 ∧
    3 < (0x84 : Byte).toNat % 16 ∧
    (let s := { (marking .ready (.page 4 []) [job] 0) with marker := { (marking .ready (.page 4 []) [job] 0).marker with
        bus := some ⟨0, .page 4 [], .deviceOnly⟩ } };
      s.held = false ∧ s.marker.bus = some ⟨0, .page 4 [], .deviceOnly⟩ ∧ s.marker.devices[0]? = some (dev .ready) ∧
      s.marker.head.bound = some 0) ∧ (0x83 : Byte).toNat % 16 = 3 ∧
    (let m := { (marking .negotiating (.page 4 []) [] 0).marker with
        devices := [{ dev .negotiating with retryWait := false }], bus := some ⟨0, .page 4 [], .discarded⟩ };
      m.bus = some ⟨0, .page 4 [], .discarded⟩ ∧
      m.devices.findIdx? (fun y => y.state = .negotiating && !y.retryWait) = some 0) := by decide +kernel

theorem witness_PageOutcomes_of_a_lost_link : losesLink false .nak ∧ losesLink false (.reply 0x81) ∧ losesLink true (.reply 0x10) ∧
    losesLink true (.reply 0x04) :=
  ⟨.inl rfl, .inr ⟨_, rfl, .inl (by decide)⟩, .inr ⟨_, rfl, .inr (.inl (by decide))⟩, .inr ⟨_, rfl, .inr (.inr (by decide))⟩⟩

/-- What `State.HeadLeft` asks of the state before: one job behind the head, a job of a role that no device has between them, and a
nest that waits for the place. -/
theorem witness_HeadLeft :
    (let s := marking .ready (.page 1 []) [job, { job with role := .reject }, job] 1;
      let g := { job with role := .reject };
      s.marker.waitList = [] ++ [] ∧ ([] : List WaitingJob).length = min ([g].length + 1) s.marker.waitList.length ∧
      [g, job] ++ s.marker.entering [] = [g] ++ [job] ∧ (∀ y ∈ s.marker.devices, y.role ≠ g.role) ∧
      ∃ y ∈ s.marker.devices, y.role = job.role) ∧
    (let s := { marking .ready (.page 1 []) [job] 1 with marker := { (marking .ready (.page 1 []) [job] 1).marker with
        waitList := [⟨.b, { job with role := .reject }⟩, ⟨.a, job⟩] } };
      let g := { job with role := .reject, ticket := some 1 };
      let adm : List WaitingJob := [⟨.b, { job with role := .reject }⟩, ⟨.a, job⟩];
      s.marker.waitList = adm ++ [] ∧ adm.length = min ([g].length + 1) s.marker.waitList.length ∧
      [] ++ s.marker.entering adm = [g] ++ [{ job with ticket := some 2 }] ∧ (adm.map (·.nest)).Nodup ∧
      (∀ y ∈ s.marker.devices, y.role ≠ g.role) ∧ ∃ y ∈ s.marker.devices, y.role = job.role) := by decide +kernel

theorem witness_LastPageCompletesTheJob (rest : List Job) :
    let s := marking .ready (.page 1 []) (job :: rest) 1
    s.held = false ∧ s.marker.bus = some ⟨0, .page 1 [], .live⟩ ∧ s.marker.devices[0]? = some (dev .ready) ∧
    (dev .ready).state = .ready ∧ (dev .ready).resolved = some 2 ∧ s.marker.queue = job :: rest ∧
    s.marker.head.bound = some 0 ∧ 2 ≤ s.marker.head.page + 1 ∧ (0xF3 : Byte).toNat % 16 = 3 :=
  ⟨rfl, rfl, rfl, rfl, rfl, rfl, rfl, Nat.le.refl, by decide⟩

theorem witness_LabelTimeoutFailsTheHead (rest : List Job) :
    (let s := marking .ready (.page 4 []) (job :: rest) 0;
      s.held = false ∧ s.marker.head.timer = some 5 ∧ s.marker.queue = job :: rest ∧
      s.marker.bus = some ⟨0, .page 4 [], .live⟩) ∧
    (let m := (marking .ready (.page 4 []) (job :: rest) 0).marker;
      { m with bus := none }.bus = none ∧ { m with bus := some ⟨0, .probe, .live⟩ }.bus = some ⟨0, .probe, .live⟩ ∧
      (∀ ctl pay, BusWork.probe = .page ctl pay → Fate.live ≠ .live) ∧
      ∀ ctl pay, BusWork.page 4 [] = .page ctl pay → Fate.deviceOnly ≠ .live) :=
  ⟨⟨rfl, rfl, rfl, rfl⟩, rfl, rfl, nofun, nofun⟩

/-- A plan whose point 0 is the reference, with an SPL, a REL and an RNB curve, and stop-on-fail. -/
def judging : PlanContent :=
  { content with
    sweep := ⟨[seg], true, some 0, 6000⟩
    limits := [⟨.spl, .failAbove, 1, [⟨80000, 9000⟩, ⟨125000, 9000⟩]⟩, ⟨.rel, .failAbove, 2, [⟨80000, 300⟩, ⟨125000, 300⟩]⟩, rnbCurve] }

/-- A nest in its sweep under `judging`, its slot 3 taken, with reference state `g`. -/
def judged (g : RefState) : Nest :=
  { Nest.reset with
    state := .measuring, slots := [none, none, none, some record, none], judged := [[], [], []], worst := [none, none, none]
    refState := g }

theorem witness_RecordsAreJudged :
    (let r := { record with index := 1, freq := 105946 };
      let x := (judged .awaited).take judging r;
      (r.status = .valid ∨ r.status = .noSignal) ∧ x.slots[r.index]? = some (some r) ∧
      judging.sweep.reference ≠ some r.index ∧ (judged .awaited).refState = .awaited ∧
      judging.limits[0]? = some ⟨.spl, .failAbove, 1, [⟨80000, 9000⟩, ⟨125000, 9000⟩]⟩ ∧ 0 < (judged .awaited).judged.length ∧
      0 < (judged .awaited).worst.length) ∧
    (let r : PointRecord := ⟨0, 100000, .noSignal, 1, some (-3600), none, none, none⟩;
      judging.sweep.reference = some r.index ∧ r.status = .noSignal) ∧
    ((judged .awaited).detected.Nodup ∧ (judged .awaited).failList = (judged .awaited).detected.take 8 ∧
      (judged .awaited).overflow = (judged .awaited).detected.length - 8) ∧
    ((PointStatus.noisy = .noisy) ∧ (PointStatus.overload = .overload) ∧ (PointStatus.skipped = .skipped)) ∧
    (let r : PointRecord := ⟨0, 100000, .valid, 1, some 9400, none, some (-4602), none⟩;
      r.status = .valid ∧ r.spl = some 9400 ∧ judging.sweep.reference = some r.index ∧ r.index < (judged .awaited).slots.length ∧
      judging.limits[2]? = some rnbCurve ∧ rnbCurve.reads .valid true r = some (some (-4602)) ∧
      ((judged .awaited).judged[2]?).isSome = true ∧ ((judged .awaited).worst[2]?).isSome = true) ∧
    (let n := { judged .valid with slots := [some { record with index := 0, rel := some 0 }, none, none, none, none] };
      judging.sweep.reference = some 0 ∧ 0 ≠ record.index ∧
      n.slots[0]? = some (some { record with index := 0, rel := some 0 })) := by decide +kernel

/-- The reference point of `judging`, which has a REL curve, ends as OVERLOAD or NOISY (R103). -/
theorem witness_WindowEndDecisions_at_the_reference :
    let s := { windowed 3 with loader := { Loader.reset with active := some ⟨[], judging, points⟩ } }
    s.AtWindowEnd .a .zero judging [(8000000, 41943), (0, 0)] ∧ (s.nest .a).state = .measuring ∧
    (s.half .zero).tag = (s.nest .a).tag ∧ judging.sweep.reference = some (s.half .zero).point ∧
    (∃ u ∈ judging.limits, u.measure = .rel) ∧
    judging.guard.overload ≤ peakOf ([((8000000 : Sample), (41943 : Sample)), (0, 0)].map (·.1)) := by
  refine ⟨⟨?_, ?_, ?_, ?_, ?_, ?_, ?_, ?_⟩, ?_⟩ <;> decide +kernel

/-- R103: the cause NOISY joins OVERLOAD at the reference point of a plan with a REL curve. -/
theorem test_overload_at_the_reference :
    let t := after (.windowEnd [(8000000, 41943), (0, 0)])
      { windowed 1 with loader := { Loader.reset with active := some ⟨[], judging, points⟩ } }
    (t.nestA.refState, t.nestA.causeOverload, t.nestA.causeNoisy) = (.notValid, true, true) := by decide +kernel

/-- A record of point 1 that fails the SPL curve of `judging`, with reference point `g`, while the generator is in mode `m` at point
2: its window fills half 1, or a holdoff runs. -/
def stopping (m : GenMode) (g : Nat) : State :=
  let c := { judging with sweep := ⟨[seg], true, some g, 6000⟩ }
  let s := analysing (withHalf
    { halfOf .inAnalysis (.nest .a) with
      point := 1, freq := 105946, micOffset := some 16000, samples := [(8388607, 0x40000000), (-8388607, 0xC0000000)] }
    { sweeping m with
      loader := { Loader.reset with active := some ⟨[], c, points⟩ }
      nestA := { (sweeping m).nestA with judged := [[], [], []], worst := [none, none, none], refState := .awaited }
      gen := { (sweeping m).gen with cursor := 2 } })
  { s with capture := { s.capture with
      half1 := if m = .window then halfOf .filling (.nest .a) else Half.reset
      holdoff := if m = .holdoff then some 3 else none } }

/-- A stop in each mode, with the reference point behind the cursor (0) and among the SKIPPED ones (3). -/
theorem witness_RecordsAreJudged_under_stop_on_fail :
    ∀ m ∈ [GenMode.settle, .window, .holdoff, .runOut, .fadeOut], ∀ g ∈ [0, 3],
      let s := stopping m g
      let c := { judging with sweep := ⟨[seg], true, some g, 6000⟩ }
      let x := (s.nest .a).take c (recordOf c.sweep.minResponse (s.half .zero) (analyse (s.half .zero)))
      s.held = false ∧ s.engine.under = some .zero ∧ s.engine.queue = [.zero] ∧ (s.half .zero).claimant = .nest .a ∧
      (s.nest .a).state = .measuring ∧ (s.half .zero).tag = (s.nest .a).tag ∧ s.plan = some c ∧
      c.sweep.stopOnFail = true ∧ s.gen.claimant = some (.nest .a) ∧ (s.nest .a).failList = [] ∧ x.failList ≠ [] ∧
      c.sweep.reference = some g ∧ s.gen.mode = m ∧ s.gen.cursor = 2 ∧ s.planPoints.map (·.index) = [0, 1, 2, 3, 4] ∧
      (m = .window → s.fillingHalf = some .one) ∧ (m = .holdoff → s.capture.holdoff = some 3) := by decide +kernel

/-- The law of the engine's queue holds with a half under analysis and one behind it. -/
theorem witness_StepKeepsTheLists_of_the_engine (kind : UnitKind) : (finishing kind 1).EngineSound ∧
    ∃ t, step (finishing kind 1) = .next t := by
  refine ⟨⟨?_, fun h e => ?_, ?_, ?_, fun h => ?_⟩, step_next _⟩
  · exact nofun
  · cases e; exact ⟨rfl, rfl⟩
  · intro h e; cases h <;> simp_all [finishing]; rfl
  · cases kind <;> decide +kernel
  · cases kind <;> cases h <;> decide +kernel

/-- The law of the chain and that of the records hold of a nest that sweeps, a CHAIN CHECK waiting, and of one that it is granted to. -/
theorem witness_StepKeepsTheChainLaw :
    waitingCheck.ChainSound ∧ waitingCheck.RecordsSound ∧ (stationRuns .chainCheck true (checking .settle)).ChainSound ∧
    (∃ t, step waitingCheck = .next t) ∧ ∃ t, step (stationRuns .chainCheck true (checking .settle)) = .next t :=
  ⟨⟨fun n => by cases n <;> decide +kernel, fun n => by cases n <;> decide +kernel, nofun, fun n h => by cases n <;> revert h <;> decide +kernel,
      fun n => by cases n <;> decide +kernel, by decide +kernel, nofun,
      fun p r h => by cases p <;> cases h; exact ⟨rfl, by decide⟩, nofun⟩,
    ⟨fun n h => by cases n <;> revert h <;> decide +kernel, fun n h => by cases n <;> rfl, fun n h => by cases n <;> cases h⟩,
    ⟨fun n => by cases n <;> decide +kernel, fun n => by cases n <;> decide +kernel, nofun, fun n h => by cases n <;> revert h <;> decide +kernel,
      fun n => by cases n <;> decide +kernel, by decide +kernel, fun _ => by decide +kernel,
      fun p r h => by cases p <;> cases h; exact ⟨rfl, by decide⟩, nofun⟩, step_next _, step_next _⟩

/-- The state after reset meets the hypotheses of the step laws, and steps. -/
theorem witness_StepKeeps : ∃ t, step State.reset = .next t ∧ State.reset.ListsBounded ∧ State.reset.LabelsBalance ∧
    State.reset.VerificationSound ∧ State.reset.ChainSound ∧ State.reset.RecordsSound ∧ State.reset.EngineSound ∧ State.reset.UnitsBalance :=
  ⟨_, rfl, test_reset_lists, test_reset_labels, test_reset_verification, test_reset_chain, test_reset_records, test_reset_engine, test_reset_units⟩

end Sys2Proof.Tests
end

section
/-! PROOF. Limits and margins (R97, R98): the rules of saturation and of the limit line, and the statements about them. -/

namespace Sys2Proof.Machine
open Sys2Proof

/-! ### Saturation and margins (R98, R99, R106) -/

theorem saturate16_eq_max_min (v : Int) : saturate16 v = max (-32768) (min 32767 v) := by
  unfold saturate16 clampTo
  split
  · omega
  · split <;> omega

theorem saturate16_mem_range (v : Int) : -32768 ≤ saturate16 v ∧ saturate16 v ≤ 32767 := by
  rw [saturate16_eq_max_min]; omega

theorem saturate16_eq_self_iff (v : Int) : saturate16 v = v ↔ -32768 ≤ v ∧ v ≤ 32767 := by
  rw [saturate16_eq_max_min]; omega

theorem saturate16_of_gt {v : Int} (h : 32767 < v) : saturate16 v = 32767 := by
  rw [saturate16_eq_max_min]; omega

theorem saturate16_of_lt {v : Int} (h : v < -32768) : saturate16 v = -32768 := by
  rw [saturate16_eq_max_min]; omega

theorem saturate16_neg_iff (v : Int) : saturate16 v < 0 ↔ v < 0 := by
  rw [saturate16_eq_max_min]; omega

theorem saturate16_eq_zero_iff (v : Int) : saturate16 v = 0 ↔ v = 0 := by
  rw [saturate16_eq_max_min]; omega

/-- A condition looks at the sign of a margin alone (R99). -/
theorem Condition.fails_congr {x y : Int} (hneg : x < 0 ↔ y < 0) (hzero : x = 0 ↔ y = 0) (k : Condition) :
    k.fails x = k.fails y := by
  cases k with
  | failAbove | failAtOrAbove | failBelow | failAtOrBelow => exact decide_eq_decide.mpr (by omega)

theorem Condition.fails_saturate16 (k : Condition) (v : Int) : k.fails (saturate16 v) = k.fails v :=
  k.fails_congr (saturate16_neg_iff v) (saturate16_eq_zero_iff v)

theorem marginSaturates_iff (c : Curve) (f : Nat) (m : Int) :
    marginSaturates c f m = true ↔
      m - limitAt f c.breakpoints < -32768 ∨ 32767 < m - limitAt f c.breakpoints := by
  have hself := saturate16_eq_self_iff (m - limitAt f c.breakpoints)
  rw [marginSaturates, marginOf, bne_iff_ne, ne_eq, hself]
  omega

/-- The saturated mark of a worst-margin record is set by a saturation and never cleared (R106). -/
theorem worstAfter_saturated (k : Condition) (margin : Int) (p : Nat) (sat : Bool) (w : Option Worst) :
    (worstAfter k margin p sat w).saturated = ((w.map (·.saturated)).getD false || sat) := by
  cases w with
  | none => simp [worstAfter]
  | some w =>
    simp only [worstAfter]
    split <;> rfl

/-- Settles O47: the margin is `saturate16` of the difference, whose rules above say each part. -/
theorem marginIsTheSaturatedDifference : Obligations.MarginIsTheSaturatedDifference := by
  intro c f m d
  obtain ⟨hlo, hhi⟩ := saturate16_mem_range d
  exact ⟨fun h h' => (saturate16_eq_self_iff d).mpr ⟨h, h'⟩, saturate16_of_gt, saturate16_of_lt, hlo, hhi,
    saturate16_neg_iff d, saturate16_eq_zero_iff d, fun k => k.fails_saturate16 d, marginSaturates_iff c f m,
    fun k p w => worstAfter_saturated k _ p _ w⟩

/-! ### The limit line (R97) -/

@[simp] theorem limitAt_head (a : Breakpoint) (l : List Breakpoint) : limitAt a.freq (a :: l) = a.limit := by
  cases l <;> simp [limitAt]

theorem limitAt_between {a b : Breakpoint} {f : Nat} (post : List Breakpoint) (ha : a.freq < f) (hb : f < b.freq) :
    limitAt f (a :: b :: post) =
      a.limit + ((b.limit - a.limit) * ((f : Int) - a.freq)).tdiv ((b.freq : Int) - a.freq) := by
  simp [limitAt, ha.ne', hb]

theorem limitAt_cons_cons_of_le {x y : Breakpoint} {f : Nat} (l : List Breakpoint) (hxy : x.freq < y.freq)
    (hf : y.freq ≤ f) : limitAt f (x :: y :: l) = limitAt f (y :: l) := by
  simp [limitAt, (hxy.trans_le hf).ne', hf.not_gt]

/-- The breakpoints below the last one at or under `f` do not count. -/
theorem limitAt_append_cons {pre post : List Breakpoint} {a : Breakpoint} {f : Nat}
    (hasc : (pre ++ a :: post).Pairwise fun x y => x.freq < y.freq) (hf : a.freq ≤ f) :
    limitAt f (pre ++ a :: post) = limitAt f (a :: post) := by
  induction pre with
  | nil => rfl
  | cons x pre ih =>
    obtain ⟨hx, hrest⟩ := List.pairwise_cons.mp hasc
    rw [← ih hrest]
    cases pre with
    | nil => exact limitAt_cons_cons_of_le post (hx a (by simp)) hf
    | cons y pre =>
      have hya : y.freq < a.freq := (List.pairwise_cons.mp hrest).1 a (by simp)
      exact limitAt_cons_cons_of_le _ (hx y (by simp)) (hya.le.trans hf)

/-- On a rise `r` the truncated share `k / d` of it lies between 0 and `r` and never above the exact share. -/
theorem tdiv_share_of_rise {r k d : Int} (hr : 0 ≤ r) (hk : 0 ≤ k) (hkd : k ≤ d) (hd : 0 < d) :
    0 ≤ (r * k).tdiv d ∧ (r * k).tdiv d ≤ r ∧ (r * k).tdiv d * d ≤ r * k := by
  rw [Int.tdiv_eq_ediv_of_nonneg (mul_nonneg hr hk)]
  exact ⟨Int.ediv_nonneg (mul_nonneg hr hk) hd.le,
    Int.ediv_le_of_le_mul hd (mul_le_mul_of_nonneg_left hkd hr), Int.ediv_mul_le _ hd.ne'⟩

/-- On a fall `r` the truncated share `k / d` of it lies between `r` and 0 and never below the exact share. -/
theorem tdiv_share_of_fall {r k d : Int} (hr : r ≤ 0) (hk : 0 ≤ k) (hkd : k ≤ d) (hd : 0 < d) :
    r ≤ (r * k).tdiv d ∧ (r * k).tdiv d ≤ 0 ∧ r * k ≤ (r * k).tdiv d * d := by
  have h := tdiv_share_of_rise (neg_nonneg.mpr hr) hk hkd hd
  simp only [neg_mul, Int.neg_tdiv] at h
  omega

/-- Settles O48: the breakpoints before the pair do not count, and the quotient is a share of the step between its limits. -/
theorem limitLiesBetweenItsBreakpoints : Obligations.LimitLiesBetweenItsBreakpoints := by
  intro pre post a b f hasc
  have hab : a.freq < b.freq :=
    (List.pairwise_cons.mp (List.pairwise_append.mp hasc).2.1).1 b List.mem_cons_self
  have hat {g : Nat} (hg : a.freq ≤ g) : limitAt g (pre ++ a :: b :: post) = limitAt g (a :: b :: post) :=
    limitAt_append_cons hasc hg
  refine ⟨?_, ?_, fun ha hb => ?_⟩
  · rw [hat le_rfl, limitAt_head]
  · rw [hat hab.le, limitAt_cons_cons_of_le post hab le_rfl, limitAt_head]
  · have hk : (0 : Int) ≤ (f : Int) - a.freq := by omega
    have hkd : (f : Int) - a.freq ≤ (b.freq : Int) - a.freq := by omega
    have hd : (0 : Int) < (b.freq : Int) - a.freq := by omega
    simp only [hat ha.le, limitAt_between post ha hb, add_sub_cancel_left, true_and]
    rcases le_total a.limit b.limit with hle | hle
    · obtain ⟨hnonneg, hstep, hexact⟩ := tdiv_share_of_rise (sub_nonneg.mpr hle) hk hkd hd
      exact ⟨by omega, by omega, fun h => absurd h hle.not_gt, fun _ => hexact, by omega⟩
    · obtain ⟨hstep, hnonpos, hexact⟩ := tdiv_share_of_fall (sub_nonpos.mpr hle) hk hkd hd
      exact ⟨by omega, by omega, fun _ => hexact, fun h => absurd h hle.not_gt, by omega⟩

end Sys2Proof.Machine
end

section
/-! PROOF. SERIAL BASE (R117): a field read back from the parameters just written, the request that reaches the wrong port, and the
statement about the serial counter. -/

namespace Sys2Proof.Machine
open Sys2Proof

/-! ### A field of the parameters (R167, R180) -/

theorem u8At_le {k i : Nat} (n : Nat) (h : i < k) : u8At (le k n) i = n / 256 ^ i % 256 := by
  induction k generalizing n i with
  | zero => omega
  | succ k ih =>
    cases i with
    | zero => simp [le, u8At]
    | succ i =>
      have hi : i < k := by omega
      calc u8At (le (k + 1) n) (i + 1) = u8At (le k (n / 256)) i := rfl
        _ = n / 256 / 256 ^ i % 256 := ih _ hi
        _ = n / 256 ^ (i + 1) % 256 := by rw [Nat.div_div_eq_div_mul, Nat.pow_succ']

/-- A 4-byte field holds the value written to it, if it has the room. -/
theorem u32At_le {n : Nat} (h : n < 2 ^ 32) : u32At (le 4 n) 0 = n := by
  simp (disch := omega) only [u32At, u16At, u8At_le]
  omega

/-- A 4-byte field read back from the parameter area just written. -/
theorem u32At_writeBytes (v : Vector Byte 64) (bs : List Byte) (i : Nat) (hi : i + 4 ≤ bs.length) (h : i + 4 ≤ 64) :
    u32At (writeBytes v 0 bs).toList i = u32At bs i := by
  simp (disch := omega) only [u32At, u16At, u8At_writeBytes]

/-! ### The wrong port (R173) -/

theorem ne_abandon_of_not_onPort {r : Request} {p : PortId} (hp : onPort p r = false) : r ≠ .abandon := by
  rintro rfl
  cases p <;> cases hp

/-- A request that does not belong to a ready port is answered by the port itself, whenever it would be taken (R173). -/
theorem exec_wrongPort {r : Request} {p : PortId} (hp : onPort p r = false) (params : List Byte) (t : Taking) {s : State}
    (h : s.ready p) :
    exec (commandOf r p params t) s = .next (s.replied p r params .notOnThisPort 0 []) := by
  obtain ⟨hheld, hslot, hlost⟩ := h
  have hwritten : ((s.port p).written p params).slot ≠ .running := by
    cases p <;> exact hslot
  rw [exec_commandOf, unlessHeld_live hheld, State.hostRequest, transact_whole hlost, State.writeRequest, State.writeCode,
    if_neg (requestCode_abandon (ne_abandon_of_not_onPort hp)), State.startRequest, State.modPort_port, if_neg hwritten]
  simp only [State.judgeCode, requestOf_requestCode, hp, Bool.false_eq_true, if_false, State.refuse, State.answer,
    State.modPort_modPort]
  cases p <;> rfl

/-! ### SERIAL BASE (R117) -/

theorem begun_modUnits (p : PortId) (r : Request) (params : List Byte) (b : Bool) (f : UnitTable → UnitTable) (s : State) :
    (s.begun p r params b).modUnits f = (s.modUnits f).begun p r params b := by
  cases p <;> rfl

theorem takeSerialBase_of_mem_range {p : PortId} {q : Vector Byte 64} {base : Nat} (hq : u32At q.toList 0 = base)
    (hlo : 1 ≤ base) (hhi : base ≤ 16777215) (s : State) :
    takeSerialBase p q s =
      (s.modUnits fun u => { u with serialCounter := base }).ok p (le 3 s.units.serialCounter ++ le 3 base) := by
  have hrange : ¬(base < 1 ∨ 16777215 < base) := by omega
  simp only [takeSerialBase, hq, if_neg hrange]

theorem takeSerialBase_of_out_of_range {p : PortId} {q : Vector Byte 64} {base : Nat} (hq : u32At q.toList 0 = base)
    (h : base = 0 ∨ 16777215 < base) (s : State) : takeSerialBase p q s = s.refuse p .badParam 0 := by
  have hrange : base < 1 ∨ 16777215 < base := by omega
  simp only [takeSerialBase, hq, if_pos hrange]

/-- SERIAL BASE on a ready Station Port is taken with its base as it was written. -/
theorem exec_serialBase_atOnce {base : Nat} (hbase : base < 2 ^ 32) {s : State} (h : s.ready .station) :
    ∃ q : Vector Byte 64, u32At q.toList 0 = base ∧
      exec (.serialBase .station (le 4 base) .atOnce) s =
        .next (takeSerialBase .station q (s.begun .station .serialBase (le 4 base) true)) :=
  ⟨writeBytes (s.port .station).params 0 (le 4 base),
    (u32At_writeBytes _ _ 0 (le_length 4 base).ge (by omega)).trans (u32At_le hbase),
    exec_atOnce .serialBase (by decide) .station rfl (le 4 base) s h⟩

/-- Settles O21: the block finds the base it was written, and the two sides of its range check are the first two clauses. -/
theorem serialBaseSetsTheCounter : Obligations.SerialBaseSetsTheCounter := by
  refine ⟨fun base s hs hlo hhi => ?_, fun base s hs hbase hout => ?_, fun params t s hs => ?_⟩
  · obtain ⟨q, hq, hexec⟩ := exec_serialBase_atOnce (base := base) (by omega) hs
    rw [hexec, takeSerialBase_of_mem_range hq hlo hhi, begun_modUnits, State.ok, begun_answer]
    rfl
  · obtain ⟨q, hq, hexec⟩ := exec_serialBase_atOnce hbase hs
    rw [hexec, takeSerialBase_of_out_of_range hq hout, State.refuse, begun_answer]
  · exact exec_wrongPort (r := .serialBase) rfl params t hs

end Sys2Proof.Machine
end

section
/-! PROOF. The events of a port (R171, R175, R176): the code written to a RUNNING slot latches COLLISION, and READ EVENTS reports the
event word and clears the set. -/

namespace Sys2Proof.Machine
open Sys2Proof

/-! ### The collision (R171) -/

theorem exec_unknownRequest (p : PortId) (code : Byte) (params : List Byte) (s : State) :
    exec (.unknownRequest p code params) s = unlessHeld (State.hostRequest p params code .later) s := rfl

@[simp] theorem Port.written_slot (p : PortId) (params : List Byte) (q : Port) : (q.written p params).slot = q.slot := by
  cases p <;> rfl

/-- A code other than ABANDON's on a RUNNING slot fills the parameter area and latches COLLISION; no request is started (R171). -/
theorem writeRequest_running {p : PortId} {code : Byte} (hcode : code ≠ requestCode .abandon) (params : List Byte) (t : Taking)
    {s : State} (hrun : (s.port p).slot = .running) :
    s.writeRequest p params code t = s.modPort p fun q => (q.written p params).latch .collision := by
  have hwritten : ((s.modPort p (Port.written p params)).port p).slot = .running := by simpa using hrun
  rw [State.writeRequest, State.writeCode, if_neg hcode, State.startRequest, if_pos hwritten, State.latchOn,
    State.modPort_modPort]

/-- The window after a collision: a write of the parameters moves nothing else but where a read continues (R167, R169). -/
theorem Port.written_latch_collision (p : PortId) (params : List Byte) (q : Port) :
    (q.written p params).latch .collision =
      { q with
        params := writeBytes q.params 0 params
        readOffset := (q.written p params).readOffset
        events := q.events ||| 0x2000 } := by
  cases p <;> rfl

theorem unlessHeld_hostRequest_running {p : PortId} {code : Byte} (hcode : code ≠ requestCode .abandon) (params : List Byte)
    (t : Taking) {s : State} (hs : s.listens p) (hrun : (s.port p).slot = .running) :
    unlessHeld (State.hostRequest p params code t) s =
      .next (s.modPort p fun q => (q.written p params).latch .collision) := by
  obtain ⟨hheld, hlost⟩ := hs
  rw [unlessHeld_live hheld, State.hostRequest, transact_whole hlost, writeRequest_running hcode params t hrun]

/-- Settles O5: the code of a request and a code that names none come to the same write, which a RUNNING slot ignores. -/
theorem collisionIsLatchedOnItsPort : Obligations.CollisionIsLatchedOnItsPort := by
  rintro _ p params s hs hrun (⟨r, t, hr, rfl⟩ | ⟨code, hcode, rfl⟩)
  · simp only [exec_commandOf, unlessHeld_hostRequest_running (requestCode_abandon hr) params t hs hrun,
      Port.written_latch_collision]
  · simp only [exec_unknownRequest, unlessHeld_hostRequest_running hcode params .later hs hrun, Port.written_latch_collision]

/-! ### The event word (R175, R176, R180) -/

/-- Two fields side by side are the bytes of one number. -/
theorem le_add_mul {j a : Nat} (k b : Nat) (ha : a < 256 ^ j) : le (j + k) (a + 256 ^ j * b) = le j a ++ le k b := by
  induction j generalizing a with
  | zero =>
    obtain rfl : a = 0 := by simpa using ha
    simp [le]
  | succ j ih =>
    have hpow : 256 ^ (j + 1) * b = 256 * (256 ^ j * b) := by rw [Nat.pow_succ', Nat.mul_assoc]
    have hdiv : (a + 256 ^ (j + 1) * b) / 256 = a / 256 + 256 ^ j * b := by omega
    have hlow : BitVec.ofNat 8 (a + 256 ^ (j + 1) * b) = BitVec.ofNat 8 a := by
      apply BitVec.eq_of_toNat_eq
      simp only [BitVec.toNat_ofNat]
      omega
    have hrest : a / 256 < 256 ^ j := by rw [Nat.pow_succ'] at ha; omega
    rw [Nat.add_right_comm, le, hlow, hdiv, ih hrest]
    rfl

theorem reportedVerified_iff (p : PortId) (s : State) :
    s.reportedVerified p = true ↔ (s.port p).unverified = false ∧ 1 ≤ s.units.remaining := by
  simp [State.reportedVerified, State.verified]

/-- The bytes of the event word: the sixteen events, then STATION_VERIFIED in the lowest bit of the upper half (R180). -/
theorem le_eventWord (p : PortId) (s : State) :
    le 4 (s.eventWord p) = le 2 (s.port p).events.toNat ++
      (if (s.port p).unverified = false ∧ 1 ≤ s.units.remaining then le 2 1 else le 2 0) := by
  have hword : le 4 (s.eventWord p) = le 2 (s.port p).events.toNat ++ le 2 (s.reportedVerified p).toNat :=
    le_add_mul (j := 2) 2 _ (s.port p).events.isLt
  rw [hword]
  split
  next h => rw [(reportedVerified_iff p s).mpr h]; rfl
  next h => rw [Bool.eq_false_iff.mpr (mt (reportedVerified_iff p s).mp h)]; rfl

theorem not_verified_eq (s : State) : (!s.verified) = decide (s.units.remaining = 0) := by
  rw [State.verified, ← decide_not]
  exact decide_eq_decide.mpr (by omega)

/-! ### READ EVENTS (R176) -/

@[simp] theorem begun_eventWord (p : PortId) (r : Request) (params : List Byte) (b : Bool) (s : State) :
    (s.begun p r params b).eventWord p = s.eventWord p := by
  cases p <;> rfl

@[simp] theorem begun_mask (p : PortId) (r : Request) (params : List Byte) (b : Bool) (s : State) :
    ((s.begun p r params b).port p).mask = (s.port p).mask := by
  cases p <;> rfl

@[simp] theorem begun_verified (p : PortId) (r : Request) (params : List Byte) (b : Bool) (s : State) :
    (s.begun p r params b).verified = s.verified :=
  State.modPort_verified s p _

/-- READ EVENTS taken in the state in which it has begun, its mark by the count as it stands (R175, R176). -/
theorem takeReadEvents_begun (p : PortId) (q : Vector Byte 64) (params : List Byte) (b : Bool) (s : State) :
    takeReadEvents p q (s.begun p .readEvents params b) =
      State.modPort p (fun x => { x with events := 0, unverified := !s.verified })
        (s.replied p .readEvents params .ok 0 (le 4 (s.eventWord p) ++ le 4 (s.port p).mask.toNat)) := by
  rw [takeReadEvents, begun_eventWord, begun_mask, begun_verified, State.ok, begun_answer]

/-- Settles O36: the request's block finds the events, the mark and the mask as they stood before its write. -/
theorem readEventsReportsAndClears : Obligations.ReadEventsReportsAndClears := by
  intro p s hs
  have htake := exec_atOnce .readEvents (by decide) p rfl [] s hs
  simpa only [commandOf, takeOf, takeReadEvents_begun, le_eventWord, not_verified_eq] using htake

end Sys2Proof.Machine
end

section
/-! SUPPORT. What a step can do to the part, said once: a law of the state that each single event keeps is kept by every step. -/

namespace Sys2Proof.Machine
open Sys2Proof

/-- A change of a port that leaves its slot, its request and its unverified mark. -/
def Port.KeepsSlot (f : Port → Port) : Prop :=
  ∀ q, (f q).slot = q.slot ∧ (f q).running = q.running ∧ (f q).unverified = q.unverified

/-- A change of the Marker Controller that leaves its jobs and their counters. -/
def Marker.KeepsJobs (f : Marker → Marker) : Prop :=
  ∀ m, (f m).queue = m.queue ∧ (f m).waitList = m.waitList ∧ (f m).enqueued = m.enqueued ∧ (f m).done = m.done ∧
    (f m).failed = m.failed

/-- The analysis of half `i` is complete: the half is freed, the result handed over, the next window begun (R79). -/
def State.completeAnalysis (i : HalfId) (s : State) : State :=
  (({ s with engine := s.engine.finished (analyse (s.half i)) (s.half i).length }.freeOne i).handOver (s.half i)
    (analyse (s.half i))).beginAnalysis

/-- The requests that read, and SET MASK: those that change nothing but the windows and the model's counter of unstated bytes (R24, R95,
R125, R144, R145, R166, R176, R177, R179). -/
def readsOnly : Request → Bool
  | .readNest | .readPoints | .readAccounts | .readShift | .readMarker | .readUnitTable | .readEvents | .setMask
  | .identify => true
  | .planOpen | .planData | .planClose | .planActivate | .planRevoke | .calibrate | .chainCheck | .serialBase | .closeShift
  | .markerStart | .stationReset | .loadUnit | .releaseNest | .lineEvent | .startNest | .abortNest | .reprint
  | .abandon => false

/-- The law `P` is kept by each event of the part that is not held, and holds after a release. -/
structure KeptByEvents (P : State → Prop) : Prop where
  queue      : ∀ s l, P s → P { s with pending := l }
  hold       : ∀ s h, P s → P { s with hold := h }
  stopped    : ∀ s, P s → P s.stopWork
  released   : ∀ (s : State) a b, P (s.released a b)
  pins       : ∀ s (l : Fin 8) f, P s → P (s.modLine l f)
  edge       : ∀ s f level, P s → P (s.edge f level)
  window     : ∀ s p f, Port.KeepsSlot f → P s → P (s.modPort p f)
  begun      : ∀ s p r params, (s.port p).slot ≠ .running → onPort p r = true → P s → P (s.begun p r params false)
  answered   : ∀ s p code params st, (s.port p).slot ≠ .running → st.succeeds = false → P s →
    P (s.modPort p (Port.replied p code params st 0 []))
  answer     : ∀ s p st sub body, (∀ r, (s.port p).running = some r → r.taken = false) → P s → P (s.answer p st sub body)
  spend      : ∀ (s : State) n, P s → P (s.spendUnstated n)
  readEvents : ∀ s p, P s → P (s.modPort p fun x => { x with events := 0, unverified := !s.verified })
  taken      : ∀ s p r params, readsOnly r = false → (s.port p).running = some ⟨r, params, false⟩ → P s →
    P (takeOf r p params (s.modPort p Port.markTaken))
  abandoned  : ∀ s p, P s → P (s.abandonRequest p)
  checks     : ∀ s, s.loader.state = .checking → P s → P (s.endChecks s.checkResult)
  burst      : ∀ s, P s → P ((s.modLoader fun l =>
    { l with state := .idle, staging := [], writePtr := 0, overrun := false, burstRunning := false }).latchBoth .planTimeout)
  samples    : ∀ s g h, g.claimant = s.gen.claimant → P s → P { s with gen := g, capture := { s.capture with holdoff := h } }
  opens      : ∀ s, P s → P s.beginIfDue
  closes     : ∀ s i samples, s.fillingHalf = some i → P s →
    P ((s.modHalf i (Half.recorded s.straps.ambient samples)).decideWindow i)
  fades      : ∀ s, P s → P s.endFadeOut
  completion : ∀ s i, s.engine.under = some i → P s → P (s.completeAnalysis i)
  bus        : ∀ s f, Marker.KeepsJobs f → P s → P (s.modMarker f)
  probe      : ∀ s d r, P s → P (s.probeOutcome d r)
  start      : ∀ s, P s → P s.settleMarkerStart
  page       : ∀ s d r, P s → P (s.pageLive d r)
  timeout    : ∀ s, P s → P (s.failHead .timeout).nextHead

/-! ### The work of the bus -/

theorem startBus_eq_modMarker (s : State) : ∃ f, Marker.KeepsJobs f ∧ s.startBus = s.modMarker f := by
  unfold State.startBus
  split
  · exact ⟨id, fun m => ⟨rfl, rfl, rfl, rfl, rfl⟩, rfl⟩
  · split
    · refine ⟨_, ?_, rfl⟩
      exact fun m => ⟨rfl, rfl, rfl, rfl, rfl⟩
    · refine ⟨_, ?_, rfl⟩
      exact fun m => ⟨rfl, rfl, rfl, rfl, rfl⟩

theorem keepsJobs_negotiate (d : Nat) : Marker.KeepsJobs (Marker.negotiate d) := by
  intro m
  unfold Marker.negotiate Marker.restartHeadOn
  split <;> exact ⟨rfl, rfl, rfl, rfl, rfl⟩

theorem keepsJobs_negotiateAll : Marker.KeepsJobs Marker.negotiateAll := by
  intro m
  unfold Marker.negotiateAll
  generalize List.range _ = l
  induction l generalizing m with
  | nil => exact ⟨rfl, rfl, rfl, rfl, rfl⟩
  | cons d l ih =>
    obtain ⟨hq, hw, he, hd, hf⟩ := keepsJobs_negotiate d m
    obtain ⟨hq', hw', he', hd', hf'⟩ := ih (m.negotiate d)
    exact ⟨hq'.trans hq, hw'.trans hw, he'.trans he, hd'.trans hd, hf'.trans hf⟩

theorem pageDevice_eq_modMarker (d : Nat) (r : PageResult) (s : State) :
    ∃ f, Marker.KeepsJobs f ∧ s.pageDevice d r = s.modMarker f := by
  unfold State.pageDevice
  split
  · refine ⟨_, ?_, rfl⟩
    exact fun m => ⟨rfl, rfl, rfl, rfl, rfl⟩
  · exact ⟨id, fun m => ⟨rfl, rfl, rfl, rfl, rfl⟩, rfl⟩
  · exact ⟨id, fun m => ⟨rfl, rfl, rfl, rfl, rfl⟩, rfl⟩
  · exact ⟨_, keepsJobs_negotiate d, rfl⟩

/-! ### The generator -/

theorem Generator.play_claimant (k : Nat) (g : Generator) : (g.play k).claimant = g.claimant := by
  unfold Generator.play
  split <;> rfl

/-- An answer forgets that the request was taken. -/
theorem answer_markTaken (p : PortId) (st : Status) (sub : Nat) (body : List Byte) (s : State) :
    (s.modPort p Port.markTaken).answer p st sub body = s.answer p st sub body := by
  cases p <;> rfl

theorem setMask_markTaken (p : PortId) (m : BitVec 32) (st : Status) (sub : Nat) (body : List Byte) (s : State) :
    ((s.modPort p Port.markTaken).modPort p fun x => { x with mask := m }).answer p st sub body =
      (s.modPort p fun x => { x with mask := m }).answer p st sub body := by
  cases p <;> rfl

/-- What ABANDON does is one of five things: it clears the slot, withdraws or ends the request, or ends a long request of one of the
three blocks that can be abandoned (R17, R38, R151, R172). -/
theorem abandonRequest_kept {P : State → Prop} {p : PortId} {s : State}
    (hidle : (s.port p).slot ≠ .running ∨ (s.port p).running = none → P (s.modPort p fun q => { q with slot := .idle }))
    (hend : (∀ r, r = .planClose ∨ r = .chainCheck ∨ r = .markerStart → s.runs p r = false) → P (s.endAbandoned p [] .idle))
    (hclose : s.runs p .planClose = true → P (s.abandonClose p))
    (hcheck : s.runs p .chainCheck = true → P (s.abandonCheck p))
    (hmarker : s.runs p .markerStart = true → P (s.abandonMarker p)) : P (s.abandonRequest p) := by
  have hruns {r : RunningRequest} (hr : (s.port p).running = some r) (x : Request) :
      s.runs p x = (decide (r.request = x) && r.taken) := by simp [State.runs, hr]
  unfold State.abandonRequest
  split
  next r _ hr =>
    split
    next ht =>
      split
      next hx => exact hclose (by simp [hruns hr, hx, ht])
      next hx => exact hcheck (by simp [hruns hr, hx, ht])
      next hx => exact hmarker (by simp [hruns hr, hx, ht])
      all_goals exact hend (by rintro x (rfl | rfl | rfl) <;> simp [hruns hr, *])
    next ht => exact hend (fun x _ => by simp [hruns hr, ht])
  all_goals exact hidle (by simp [*])

/-- The loader and the events at the end of the checks with result `r`, before the reply (R16). -/
def State.checked (r : CheckResult) (s : State) : State :=
  match r.plan with
  | some plan => (s.modLoader fun l => { l with state := .staged, staged := some plan }).latchBoth .planStaged
  | none => (s.modLoader Loader.receiveAgain).latchBoth .planRejected

theorem endChecks_eq (r : CheckResult) (s : State) : s.endChecks r =
    ((s.checked r).answerLate .station .ok 0 (loaderBody (s.checked r).loader ++ (s.checked r).checkBody r)).spendUnstated
      checkUnstated := rfl

/-- A Line Port request that STATION RESET ends leaves its window alone changed (R178). -/
theorem endLineRequest_eq_modPort (s : State) : ∃ f, s.endLineRequest = s.modPort .line f := by
  unfold State.endLineRequest
  split
  · split
    · exact ⟨id, rfl⟩
    · exact ⟨fun q => (q.answered .abandoned 0 [] .done).latch .requestDone, rfl⟩
  · exact ⟨id, rfl⟩

theorem unlessHeld_kept {P : State → Prop} {f : State → State} {s t : State} (hf : P (f s)) (hs : P s)
    (e : unlessHeld f s = .next t) : P t := by
  obtain rfl := (Host.Outcome.next.inj e).symm
  split
  · exact hs
  · exact hf

section
variable {P : State → Prop} (h : KeptByEvents P)
include h

namespace KeptByEvents

theorem startBus {s : State} (hs : P s) : P s.startBus := by
  obtain ⟨f, hf, e⟩ := startBus_eq_modMarker s
  exact e ▸ h.bus s f hf hs

theorem pageDevice (d : Nat) (r : PageResult) {s : State} (hs : P s) : P (s.pageDevice d r) := by
  obtain ⟨f, hf, e⟩ := pageDevice_eq_modMarker d r s
  exact e ▸ h.bus s f hf hs

theorem play (k : Nat) {s : State} (hs : P s) : P (s.play k) :=
  h.samples s _ _ (Generator.play_claimant k _) hs

theorem beginFadeOut {s : State} (hs : P s) : P s.beginFadeOut :=
  h.samples s _ s.capture.holdoff rfl hs

theorem endLost (p : PortId) {s : State} (hs : P s) : P (s.modPort p Port.endLost) :=
  h.window s p _ (fun _ => ⟨rfl, rfl, rfl⟩) hs

theorem latchOn (p : PortId) (e : Event) {s : State} (hs : P s) : P (s.latchOn p e) :=
  h.window s p _ (fun _ => ⟨rfl, rfl, rfl⟩) hs

/-! ### Host writes -/

/-- What a request that reads does to a port of which only the mask may have been set anew (R176, R177). -/
theorem takeReading (p : PortId) {r : Request} (params : Vector Byte 64) (hr : readsOnly r = true) {s : State}
    (hrun : (s.port p).running = some ⟨r, params, false⟩) (hs : P s) :
    P (takeOf r p params (s.modPort p Port.markTaken)) := by
  have ans (st : Status) (sub : Nat) (body : List Byte) : P ((s.modPort p Port.markTaken).answer p st sub body) := by
    rw [answer_markTaken]
    exact h.answer s p st sub body (by simp [hrun]) hs
  cases r <;> try contradiction
  case readNest =>
    simp only [takeOf, takeReadNest]
    split
    · exact ans _ _ _
    · exact h.spend _ _ (ans _ _ _)
  case readPoints =>
    simp only [takeOf, takeReadPoints]
    split
    · exact ans _ _ _
    · split <;> exact ans _ _ _
  case readAccounts =>
    simp only [takeOf, takeReadAccounts]
    repeat' split
    all_goals exact ans _ _ _
  case readShift =>
    simp only [takeOf, takeReadShift]
    repeat' split
    all_goals exact ans _ _ _
  case readMarker =>
    simp only [takeOf, takeReadMarker]
    split
    · exact h.spend _ _ (ans _ _ _)
    · split
      · exact h.spend _ _ (ans _ _ _)
      · split
        · exact ans _ _ _
        · split
          · exact h.spend _ _ (ans _ _ _)
          · split
            · split
              · exact ans _ _ _
              · exact h.spend _ _ (ans _ _ _)
            · exact ans _ _ _
  case readUnitTable =>
    simp only [takeOf, takeReadUnitTable]
    split <;> exact ans _ _ _
  case readEvents => 
    have e (body : List Byte) : ((s.modPort p Port.markTaken).ok p body).verified = (s.modPort p Port.markTaken).verified := by
      simp [State.verified]
    simp only [takeOf, takeReadEvents]
    rw [← e]
    exact h.readEvents _ p (ans _ _ _)
  case setMask =>
    simp only [takeOf, takeSetMask]
    rw [State.ok, setMask_markTaken]
    exact h.answer _ p _ _ _ (by simp [hrun]) (h.window s p _ (fun _ => ⟨rfl, rfl, rfl⟩) hs)
  case identify => exact ans _ _ _

theorem takeRunning (p : PortId) {s : State} (hs : P s) : P (s.takeRunning p) := by
  unfold State.takeRunning
  split
  next r hr =>
    split
    · exact hs
    next ht =>
      obtain ⟨r, params, taken⟩ := r
      obtain rfl : taken = false := by simpa using ht
      cases hreads : readsOnly r
      · exact h.taken s p r params hreads hr hs
      · exact h.takeReading p params hreads hr hs
  · exact hs

end KeptByEvents
end

theorem Port.keepsSlot_readFrom (p : PortId) (i n : Nat) : Port.KeepsSlot (Port.readFrom p i n) := by
  intro q
  cases p <;> exact ⟨rfl, rfl, rfl⟩

theorem Port.keepsSlot_written (p : PortId) (params : List Byte) : Port.KeepsSlot (Port.written p params) :=
  fun q => Port.keepsSlot_readFrom p _ _ (q.putParams 0 params)

/-- Of a request that has started, what its port leaves is one of three things: a refusal of its own, the request waiting for its
block, or the request taken (R170, R173). -/
theorem judgeCode_start (p : PortId) (code : Byte) (t : Taking) (s : State) :
    (∃ st : Status, st.succeeds = false ∧ ((s.modPort p (Port.start code)).judgeCode p code t) =
      s.modPort p (Port.answered st 0 [] st.slot ∘ Port.start code)) ∨
    ∃ r, onPort p r = true ∧ requestCode r = code ∧
      ((s.modPort p (Port.start code)).judgeCode p code t = s.modPort p (Port.carry r ∘ Port.start code) ∨
        (s.modPort p (Port.start code)).judgeCode p code t = (s.modPort p (Port.carry r ∘ Port.start code)).takeRunning p) := by
  unfold State.judgeCode
  split
  next => exact .inl ⟨.unknownRequest, rfl, by simp [State.refuse, State.answer]; rfl⟩
  next r hr =>
    have hcode : requestCode r = code := by
      have := List.find?_some hr
      simpa using this
    split
    next hp =>
      refine .inr ⟨r, hp, hcode, ?_⟩
      cases t
      · exact .inr (by simp; rfl)
      · exact .inl (by simp; rfl)
    next => exact .inl ⟨.notOnThisPort, rfl, by simp [State.refuse, State.answer]; rfl⟩

/-- The window of a started request is that of the request begun with no parameters, up to where a read continues. -/
theorem carry_start (p : PortId) (r : Request) (s : State) : ∃ f, Port.KeepsSlot f ∧
    s.modPort p (Port.carry r ∘ Port.start (requestCode r)) = (s.begun p r [] false).modPort p f := by
  refine ⟨fun q => { q with readOffset := (s.port p).readOffset }, fun q => ⟨rfl, rfl, rfl⟩, ?_⟩
  cases p <;> rfl

theorem answered_start (p : PortId) (code : Byte) (st : Status) (s : State) : ∃ f, Port.KeepsSlot f ∧
    s.modPort p (Port.answered st 0 [] st.slot ∘ Port.start code) =
      (s.modPort p (Port.replied p code [] st 0 [])).modPort p f := by
  refine ⟨fun q => { q with readOffset := (s.port p).readOffset }, fun q => ⟨rfl, rfl, rfl⟩, ?_⟩
  cases p <;> rfl

section
variable {P : State → Prop} (h : KeptByEvents P)
include h

namespace KeptByEvents

theorem startRequest (p : PortId) {code : Byte} (t : Taking) (hc : code ≠ requestCode .abandon) {s : State} (hs : P s) :
    P (s.startRequest p code t) := by
  unfold State.startRequest
  split
  · exact h.latchOn p _ hs
  next hslot =>
    rcases judgeCode_start p code t s with ⟨st, hst, e⟩ | ⟨r, hp, rfl, e⟩
    · obtain ⟨f, hf, e'⟩ := answered_start p code st s
      rw [e, e']
      exact h.window _ p f hf (h.answered s p code [] st hslot hst hs)
    · obtain ⟨f, hf, e'⟩ := carry_start p r s
      have hcarried : P (s.modPort p (Port.carry r ∘ Port.start (requestCode r))) :=
        e' ▸ h.window _ p f hf (h.begun s p r [] hslot hp hs)
      rcases e with e | e
      · exact e ▸ hcarried
      · exact e ▸ h.takeRunning p hcarried

theorem writeCode (p : PortId) (code : Byte) (t : Taking) {s : State} (hs : P s) : P (s.writeCode p code t) := by
  unfold State.writeCode
  split
  · exact h.abandoned s p hs
  next hc => exact h.startRequest p t hc hs

theorem hostRequest (p : PortId) (params : List Byte) (code : Byte) (t : Taking) {s : State} (hs : P s) :
    P (s.hostRequest p params code t) :=
  h.writeCode p code t (h.window _ p _ (Port.keepsSlot_written p params) (h.endLost p hs))

theorem hostWrite (p : PortId) (access : Byte) (start : Nat) (data : List Byte) (fate : WriteEnd) {s : State} (hs : P s) :
    P (s.hostWrite p access start data fate) := by
  unfold State.hostWrite State.transact State.writeWindow
  split
  next =>
    have hwritten := h.window _ p (fun q => (q.putParams (start - 0x40) (paramBytes start data)).readFrom p start data.length)
      (fun q => Port.keepsSlot_readFrom p _ _ _) (h.endLost p hs)
    dsimp only
    split
    · exact h.writeCode p _ _ hwritten
    · exact hwritten
  · exact h.endLost p hs

/-! ### Events of the sweep -/

theorem windowBegin {s t : State} (hs : P s) (e : execWindowBegin s = .next t) : P t := by
  refine unlessHeld_kept ?_ hs e
  dsimp only
  split
  · split
    · exact h.opens _ (h.play _ hs)
    · exact h.play _ (h.play _ hs)
  · exact hs

theorem windowEnd (samples : List (Sample × Sample)) {s t : State} (hs : P s) (e : execWindowEnd samples s = .next t) :
    P t := by
  refine unlessHeld_kept ?_ hs e
  dsimp only
  split
  next i _ hi =>
    split
    · exact h.closes (s.play _) i samples hi (h.play _ hs)
    · exact hs
  · exact hs

theorem holdoffEnd {s t : State} (hs : P s) (e : execHoldoffEnd s = .next t) : P t := by
  refine unlessHeld_kept ?_ hs e
  split
  · exact h.samples _ _ none rfl (h.play _ hs)
  · exact hs

theorem runOutFadeOut {s t : State} (hs : P s) (e : execRunOutFadeOut s = .next t) : P t := by
  refine unlessHeld_kept ?_ hs e
  split
  · exact h.beginFadeOut (h.play _ hs)
  · exact hs

theorem lastFadeOutSample {s t : State} (hs : P s) (e : execLastFadeOutSample s = .next t) : P t := by
  refine unlessHeld_kept ?_ hs e
  split
  · exact h.fades _ (h.play _ hs)
  · exact hs

theorem analysisCompletion {s t : State} (hs : P s) (e : execAnalysisCompletion s = .next t) : P t := by
  refine unlessHeld_kept ?_ hs e
  dsimp only
  split
  · exact hs
  next i hi => exact h.completion s i hi hs

theorem tick {s : State} (hs : P s) : P s.tick := by
  unfold State.tick
  split
  · exact hs
  · split
    · exact hs
    · exact h.play 1 (h.opens s hs)
    · exact h.play 1 (h.opens s hs)
    · split
      · split
        · exact h.play 1 hs
        · exact hs
      · exact hs
    · split
      · exact h.play 1 (h.beginFadeOut hs)
      · exact h.play 1 hs
    · dsimp only
      split
      · exact h.fades _ (h.play 1 hs)
      · exact h.play 1 hs

/-! ### Events of the loader, the lines and the Marker Bus -/

theorem checksComplete {s t : State} (hs : P s) (e : execChecksComplete s = .next t) : P t := by
  refine unlessHeld_kept ?_ hs e
  split
  next hc => exact h.checks s hc hs
  all_goals exact hs

theorem burstTimerExpiry {s t : State} (hs : P s) (e : execBurstTimerExpiry s = .next t) : P t := by
  refine unlessHeld_kept ?_ hs e
  split
  · exact h.burst s hs
  · exact hs

theorem linePinChange (l : Fin 8) (v : Bool) {s t : State} (hs : P s) (e : execLinePinChange l v s = .next t) : P t := by
  unfold execLinePinChange at e
  dsimp only at e
  split at e
  · exact Host.Outcome.next.inj e ▸ h.pins s l _ hs
  · split at e
    · exact Host.Outcome.next.inj e ▸ hs
    · split at e
      · exact Host.Outcome.next.inj e ▸ h.pins _ l _ (h.pins s l _ hs)
      all_goals exact Host.Outcome.next.inj e ▸ h.pins s l _ hs

theorem debounceExpiry (l : Fin 8) {s t : State} (hs : P s) (e : execDebounceExpiry l s = .next t) : P t := by
  refine unlessHeld_kept ?_ hs e
  dsimp only
  split
  · exact hs
  · split
    · split
      · exact h.pins s l _ hs
      · exact h.edge _ _ _ (h.pins s l _ hs)
    · exact h.pins s l _ hs

theorem probeEnd (r : ProbeResult) {s t : State} (hs : P s) (e : execProbeEnd r s = .next t) : P t := by
  have hfree : P s.freeBus := h.bus s _ (fun m => ⟨rfl, rfl, rfl, rfl, rfl⟩) hs
  refine unlessHeld_kept ?_ hs e
  dsimp only
  split
  next d fate _ =>
    cases fate
    · exact h.start _ (h.startBus (h.probe _ d r hfree))
    · exact h.start _ (h.startBus hfree)
    · exact h.start _ (h.startBus hfree)
  all_goals exact hs

theorem retryWaitEnd (d : Fin 4) {s t : State} (hs : P s) (e : execRetryWaitEnd d s = .next t) : P t := by
  refine unlessHeld_kept ?_ hs e
  split
  · split
    · exact h.startBus (h.bus s _ (fun m => ⟨rfl, rfl, rfl, rfl, rfl⟩) hs)
    · exact hs
  · exact hs

theorem pageTransactionEnd (r : PageResult) {s t : State} (hs : P s) (e : execPageTransactionEnd r s = .next t) : P t := by
  have hfree : P s.freeBus := h.bus s _ (fun m => ⟨rfl, rfl, rfl, rfl, rfl⟩) hs
  refine unlessHeld_kept ?_ hs e
  dsimp only
  split
  next d _ _ fate _ =>
    cases fate
    · exact h.startBus (h.page _ d r hfree)
    · exact h.startBus (h.pageDevice d r hfree)
    · exact h.startBus hfree
  all_goals exact hs

theorem busyWaitEnd {s t : State} (hs : P s) (e : execBusyWaitEnd s = .next t) : P t := by
  refine unlessHeld_kept ?_ hs e
  split
  · exact h.startBus (h.bus s _ (fun m => ⟨rfl, rfl, rfl, rfl, rfl⟩) hs)
  · exact hs

theorem labelTimerExpiry {s t : State} (hs : P s) (e : execLabelTimerExpiry s = .next t) : P t := by
  refine unlessHeld_kept ?_ hs e
  split
  · exact h.startBus (h.timeout _ (h.bus s _ (fun m => ⟨rfl, rfl, rfl, rfl, rfl⟩) hs))
  · exact hs

/-! ### Resets, and every command -/

theorem resetHold (c : HoldCause) {s t : State} (hs : P s) (e : execResetHold c s = .next t) : P t := by
  obtain rfl := (Host.Outcome.next.inj e).symm
  split
  · exact h.hold s _ hs
  · exact h.stopped _ (h.hold s _ hs)

theorem resetRelease (c : HoldCause) (a : BitVec 2) (b : ReleasePins) {s t : State} (hs : P s)
    (e : execResetRelease c a b s = .next t) : P t := by
  unfold execResetRelease at e
  split at e
  · obtain rfl := (Host.Outcome.next.inj e).symm
    split
    · exact h.hold s _ hs
    · exact h.released _ a b
  · exact Host.Outcome.next.inj e ▸ hs

theorem exec {i : Instr} {s t : State} (hs : P s) (e : exec i s = .next t) : P t := by
  cases i
  case parameterAreaWrite p access start data fate => exact unlessHeld_kept (h.hostWrite p access _ data fate hs) hs e
  case requestTaken p => exact unlessHeld_kept (h.takeRunning p hs) hs e
  case checksComplete => exact h.checksComplete hs e
  case burstTimerExpiry => exact h.burstTimerExpiry hs e
  case linePinChange l v => exact h.linePinChange l v hs e
  case debounceExpiry l => exact h.debounceExpiry l hs e
  case windowBegin => exact h.windowBegin hs e
  case windowEnd samples => exact h.windowEnd samples hs e
  case holdoffEnd => exact h.holdoffEnd hs e
  case runOutFadeOut => exact h.runOutFadeOut hs e
  case lastFadeOutSample => exact h.lastFadeOutSample hs e
  case analysisCompletion => exact h.analysisCompletion hs e
  case probeEnd r => exact h.probeEnd r hs e
  case retryWaitEnd d => exact h.retryWaitEnd d hs e
  case pageTransactionEnd r => exact h.pageTransactionEnd r hs e
  case busyWaitEnd => exact h.busyWaitEnd hs e
  case labelTimerExpiry => exact h.labelTimerExpiry hs e
  case resetHold c => exact h.resetHold c hs e
  case resetRelease c a b => exact h.resetRelease c a b hs e
  all_goals exact unlessHeld_kept (h.hostRequest _ _ _ _ hs) hs e

/-- A law that each event keeps is kept by every step. -/
theorem step {s t : State} (e : step s = .next t) (hs : P s) : P t := by
  cases hp : s.pending with
  | nil => exact Host.Outcome.next.inj ((step_idle hp).symm.trans e) ▸ h.tick hs
  | cons c rest => exact h.exec (h.queue s rest hs) ((step_front hp).symm.trans e)

end KeptByEvents
end

end Sys2Proof.Machine
end

section
/-! SUPPORT. A law of the Unit Table, the accounts, the label queue, the active plan and the unverified marks that each shared operation
keeps is kept by every event. -/

namespace Sys2Proof.Machine
open Sys2Proof

/-- From `s` to `t` the ports, the active plan, the Unit Table, the accounts and the marker stand. -/
structure State.SameBooks (s t : State) : Prop where
  station  : t.station = s.station
  line     : t.line = s.line
  plan     : t.loader.active = s.loader.active
  units    : t.units = s.units
  accounts : t.accounts = s.accounts
  marker   : t.marker = s.marker

/-- From `m` to `m'` the number of queued jobs and the counters of jobs stand. -/
structure Marker.SameCounts (m m' : Marker) : Prop where
  queue    : m'.queue.length = m.queue.length
  enqueued : m'.enqueued = m.enqueued
  done     : m'.done = m.done
  failed   : m'.failed = m.failed

/-- The law `P` is kept by each shared operation, and holds after a release and a STATION RESET. -/
structure KeptByOps (P : State → Prop) : Prop where
  same       : ∀ s t, s.SameBooks t → P s → P t
  port       : ∀ s p f, (∀ q, (f q).unverified = q.unverified) → P s → P (s.modPort p f)
  power      : ∀ x, P (State.powerOn x)
  reset      : ∀ s p q, P (takeStationReset p q s)
  count      : ∀ s f, P s → P (s.count f)
  withdraw   : ∀ s, P s → P s.withdraw
  readEvents : ∀ s p, P s → P (s.modPort p fun x => { x with events := 0, unverified := !s.verified })
  giveBack   : ∀ s n, P s → P (s.giveBack n)
  spend      : ∀ s, P s → P s.spendVerification
  grant      : ∀ s, P s → P s.grantHead
  activate   : ∀ s, P s → P s.activate
  outcome    : ∀ s n o v bin, P s → P (s.takeOutcome n o v bin)
  reference  : ∀ s n v, P s → P (s.referenceVerdict n v)
  closeShift : ∀ s r, P s → P (s.closeShift r)
  counter    : ∀ s v, P s → P (s.modUnits fun u => { u with serialCounter := v })
  takeEntry  : ∀ s n v e, P s → P (s.modUnits fun u => (u.takeEntry v).setHeld n e)
  bus        : ∀ s f, s.marker.SameCounts (f s.marker) → P s → P (s.modMarker f)
  append     : ∀ s j, s.marker.queue.length < 8 → P s → P (s.modMarker (Marker.append j))
  failHead   : ∀ s cause, P s → P (s.failHead cause)
  nextHead   : ∀ s, P s → P s.nextHead
  completes  : ∀ s d, P s → P (s.completeHead d)

/-! ### What a verdict leaves before its label job is offered -/

/-- The state in which the verdict of a production unit stands in its nest, the accounts and the Unit Table, and no label job has been
offered yet (R107 to R110). -/
def State.ruled (n : NestId) (c : PlanContent) (s : State) : State :=
  let r := attemptPolicy ((s.nest n).resolve c.limits) ((s.nest n).attempt.getD 0) c.policy.maxAttempts
  let s := s.modNest n fun x => if r.2.2 then (x.noteCause c.limits).detect 14 else x.noteCause c.limits
  let bin := c.bins.binOf r.1 (s.nest n).detected
  (s.modNest n fun x => { x with verdict := some r.1, bin := some bin }).takeOutcome n r.2.1 r.1 bin

/-- The outcome class of a production verdict (R109). -/
def State.outcomeClass (n : NestId) (c : PlanContent) (s : State) : OutcomeClass :=
  (attemptPolicy ((s.nest n).resolve c.limits) ((s.nest n).attempt.getD 0) c.policy.maxAttempts).2.1

theorem productionVerdict_eq (n : NestId) (c : PlanContent) (s : State) : s.productionVerdict n c =
    match c.marker, (s.outcomeClass n c).jobRole with
    | some _, some role => (s.ruled n c).offerJob n ((s.ruled n c).labelJob n c role)
    | _, _ => (s.ruled n c).modNest n fun x => { x with state := .done } := rfl

theorem Marker.KeepsJobs.sameCounts {f : Marker → Marker} (hf : Marker.KeepsJobs f) (m : Marker) : m.SameCounts (f m) := by
  obtain ⟨hq, -, he, hd, hfail⟩ := hf m
  exact ⟨by rw [hq], he, hd, hfail⟩

section
variable {P : State → Prop} (h : KeptByOps P)
include h

namespace KeptByOps
variable {s : State}

/-! ### The shared operations -/

theorem modNest (n : NestId) (f : Nest → Nest) (hs : P s) : P (s.modNest n f) :=
  h.same s _ (by constructor <;> simp) hs

theorem modLoader (f : Loader → Loader) (hf : ∀ l, (f l).active = l.active) (hs : P s) : P (s.modLoader f) :=
  h.same s _ (by constructor <;> simp [hf]) hs

theorem latchOn (p : PortId) (e : Event) (hs : P s) : P (s.latchOn p e) := h.port s p _ (fun _ => rfl) hs

theorem latchBoth (e : Event) (hs : P s) : P (s.latchBoth e) := h.latchOn _ e (h.latchOn _ e hs)

theorem answer (p : PortId) (st : Status) (sub : Nat) (body : List Byte) (hs : P s) : P (s.answer p st sub body) :=
  h.port s p _ (fun _ => rfl) hs

theorem answerLate (p : PortId) (st : Status) (sub : Nat) (body : List Byte) (hs : P s) : P (s.answerLate p st sub body) :=
  h.latchOn p _ (h.answer p st sub body hs)

theorem endAbandoned (p : PortId) (body : List Byte) (slot : SlotState) (hs : P s) : P (s.endAbandoned p body slot) :=
  h.port s p _ (fun _ => rfl) hs

theorem startBus (hs : P s) : P s.startBus := by
  obtain ⟨f, hf, e⟩ := startBus_eq_modMarker s
  exact e ▸ h.bus s f (hf.sameCounts _) hs

theorem releaseUntested (n : NestId) (hs : P s) : P (s.releaseUntested n) := h.modNest n _ (h.giveBack s n hs)

theorem settleActivation (hs : P s) : P s.settleActivation := by
  unfold State.settleActivation
  split
  · exact h.activate s hs
  · exact hs

theorem joinQueue (c : Claimant) (hs : P s) : P (s.joinQueue c) :=
  h.grant _ (h.same s _ (by constructor <;> simp) hs)

theorem acceptStart (n : NestId) (hs : P s) : P (s.acceptStart n) := by
  refine h.joinQueue _ (h.modNest n _ ?_)
  split
  · exact h.spend s hs
  · exact hs

theorem abortOne (n : NestId) (hs : P s) : P (s.abortOne n) := by
  refine h.count _ _ (h.modNest n _ ?_)
  split
  · exact h.same s _ (by constructor <;> simp) hs
  · exact h.same s _ (by constructor <;> simp) hs
  · exact h.same s _ (by constructor <;> simp) hs
  all_goals exact hs

theorem abortAll (ns : List NestId) (hs : P s) : P (s.abortAll ns) := by
  unfold State.abortAll
  refine h.grant _ ?_
  generalize ns.filter _ = l
  induction l generalizing s with
  | nil => exact hs
  | cons n l ih => exact ih (h.abortOne n hs)

theorem enqueue (j : Job) (hq : s.marker.queue.length < 8) (hs : P s) : P (s.enqueue j) := by
  unfold State.enqueue
  refine h.startBus ?_
  split
  · exact h.nextHead _ (h.append s j hq hs)
  · exact h.append s j hq hs

theorem offerJob (n : NestId) (j : Job) (hs : P s) : P (s.offerJob n j) := by
  unfold State.offerJob
  split
  next hq => exact h.enqueue j (by simpa using hq) (h.modNest n _ hs)
  · exact h.bus _ _ ⟨rfl, rfl, rfl, rfl⟩ (h.modNest n _ hs)

theorem makeVerdict (n : NestId) (hs : P s) : P (s.makeVerdict n) := by
  unfold State.makeVerdict
  split
  · exact hs
  next c _ =>
    refine h.latchBoth _ ?_
    split
    · unfold State.referenceUnitVerdict
      exact h.modNest n _ (h.reference _ n _ (h.count _ _ (h.modNest n _ hs)))
    · have hruled : P (s.ruled n c) := h.outcome _ n _ _ _ (h.modNest n _ (h.modNest n _ hs))
      rw [productionVerdict_eq]
      split
      · exact h.offerJob n _ hruled
      · exact h.modNest n _ hruled

theorem endCheckIfDue (hs : P s) : P s.endCheckIfDue := by
  unfold State.endCheckIfDue
  split
  · have hfree : P s.freeChain := h.same s _ (by constructor <;> simp) hs
    refine h.settleActivation (h.grant _ ?_)
    have hreply {t : State} (a b : Int) (ht : P t) :
        P (if t.runs .station .chainCheck then t.answerLate .station .ok 0 (checkReply a b) else t) := by
      split
      · exact h.answerLate _ _ _ _ ht
      · exact ht
    split
    · exact hreply _ _ hfree
    · exact hreply _ _ (h.latchBoth _ (h.withdraw _ hfree))
  · exact hs

theorem handOver (w : Half) (a : Analysed) (hs : P s) : P (s.handOver w a) := by
  unfold State.handOver
  split
  · split
    · have hoffer (n tag r) : P (s.offerRecord n tag r) := h.same s _ (by constructor <;> simp) hs
      dsimp only
      split
      · exact h.settleActivation (h.makeVerdict _ (hoffer _ _ _))
      · exact hoffer _ _ _
    · exact h.endCheckIfDue (h.same s _ (by constructor <;> rfl) hs)
  · exact hs

theorem endFadeOut (hs : P s) : P s.endFadeOut := by
  have hsilent : P s.fallSilent := h.same s _ (by constructor <;> simp) hs
  unfold State.endFadeOut
  split
  next n _ =>
    have hanalysing : P (s.fallSilent.modNest n fun x => { x with state := .analysing }) := h.modNest n _ hsilent
    have hlast : P ((s.fallSilent.modNest n fun x => { x with state := .analysing }).freeChain) :=
      h.same _ _ (by constructor <;> simp) hanalysing
    dsimp only
    split
    · exact h.settleActivation (h.grant _ (h.makeVerdict n hlast))
    · exact h.grant _ hlast
  · exact h.endCheckIfDue (h.same _ _ (by constructor <;> simp) hsilent)
  · exact hsilent

theorem decideWindow (i : HalfId) (hs : P s) : P (s.decideWindow i) := by
  have hclean : P (s.endClean i) := h.same s _ (by constructor <;> simp [State.endClean]) hs
  have hstep {t : State} (ht : P t) : P t.stepOn := h.same t _ (by constructor <;> simp) ht
  unfold State.decideWindow
  dsimp only
  split
  · exact hclean
  · exact hs
  · split_ifs
    · exact hstep (h.count _ _ (h.same s _ (by constructor <;> simp) hs))
    · refine h.same ((s.freeOne i).count Counts.addGuardHit) _ (by constructor <;> rfl) (h.count _ _ ?_)
      exact h.same s _ (by constructor <;> simp) hs
    · exact hstep (h.count _ _ (h.same s _ (by constructor <;> simp) hs))
    · exact hclean

/-! ### Line events -/

theorem lineAbort (ns : List NestId) (hs : P s) : P (s.lineAbort ns) := by
  unfold State.lineAbort
  split
  · exact h.settleActivation (h.abortAll ns hs)
  · exact hs

theorem lineStart (n : NestId) (hs : P s) : P (s.lineStart n) := by
  unfold State.lineStart
  split
  · exact h.latchBoth _ (h.modNest n _ hs)
  · exact h.modNest n _ (h.acceptStart n hs)

theorem presenceLoss (n : NestId) (hs : P s) : P (s.presenceLoss n) := by
  have habort : P (((s.abortAll [n]).releaseUntested n).settleActivation) :=
    h.settleActivation (h.releaseUntested n (h.abortAll [n] hs))
  unfold State.presenceLoss
  split
  · exact hs
  · exact h.releaseUntested n hs
  · exact habort
  · exact habort
  · exact habort
  · exact h.modNest n _ (h.bus _ _ ⟨rfl, rfl, rfl, rfl⟩ hs)
  · exact h.modNest n _ hs

theorem edge (f : InputFunction) (level : Bool) (hs : P s) : P (s.edge f level) := by
  unfold State.edge
  split
  · exact h.presenceLoss _ hs
  · exact h.lineAbort _ hs
  · exact h.lineAbort _ hs
  · exact h.lineAbort _ hs
  · exact h.lineStart _ hs
  all_goals exact hs

/-! ### Requests -/

theorem takePlanOpen (p : PortId) (q : Vector Byte 64) (hs : P s) : P (takePlanOpen p q s) := by
  unfold Machine.takePlanOpen
  dsimp only
  split_ifs
  · exact h.answer p _ _ _ hs
  · exact h.answer p _ _ _ hs
  · have hopen {t : State} (ht : P t) : P (t.planReply p .ok 0 []) := h.answer p _ _ _ ht
    split
    · exact hopen (h.modLoader _ (fun _ => rfl) hs)
    · exact hopen (h.modLoader _ (fun _ => rfl) hs)
    · exact hopen (h.modLoader _ (fun _ => rfl) hs)
    · exact h.answer p _ _ _ hs
    · exact h.answer p _ _ _ hs

theorem takePlanData (p : PortId) (q : Vector Byte 64) (hs : P s) : P (takePlanData p q s) := by
  unfold Machine.takePlanData
  dsimp only
  split
  · exact h.answer p _ _ _ hs
  · split
    · exact h.answer p _ _ _ (h.modLoader _ (fun _ => rfl) hs)
    all_goals exact h.answer p _ _ _ hs

theorem takePlanActivate (p : PortId) (q : Vector Byte 64) (hs : P s) : P (takePlanActivate p q s) := by
  unfold Machine.takePlanActivate
  split
  · split
    · exact h.answer p _ _ _ (h.modLoader _ (fun _ => rfl) hs)
    · exact h.answer p _ _ _ (h.activate s hs)
  all_goals exact h.answer p _ _ _ hs

theorem takePlanRevoke (p : PortId) (q : Vector Byte 64) (hs : P s) : P (takePlanRevoke p q s) := by
  unfold Machine.takePlanRevoke
  split
  · exact h.answer p _ _ _ (h.modLoader _ (fun _ => rfl) hs)
  · exact h.answer p _ _ _ (h.modLoader _ (fun _ => rfl) hs)
  all_goals exact h.answer p _ _ _ hs

theorem takeCalibrate (p : PortId) (q : Vector Byte 64) (hs : P s) : P (takeCalibrate p q s) := by
  refine h.answer p _ _ _ (h.withdraw _ ?_)
  split <;> exact h.same s _ (by constructor <;> simp) hs

theorem takeSerialBase (p : PortId) (q : Vector Byte 64) (hs : P s) : P (takeSerialBase p q s) := by
  unfold Machine.takeSerialBase
  dsimp only
  split
  · exact h.answer p _ _ _ hs
  · exact h.answer p _ _ _ (h.counter s _ hs)

theorem takeMarkerStart (p : PortId) (q : Vector Byte 64) (hs : P s) : P (takeMarkerStart p q s) := by
  unfold Machine.takeMarkerStart
  split_ifs
  · exact h.answer p _ _ _ hs
  · exact h.answer p _ _ _ hs
  · exact h.startBus (h.bus s _ (keepsJobs_negotiateAll.sameCounts _) hs)

theorem loadRetest (p : PortId) (n : NestId) (v : Nat) (hs : P s) : P (s.loadRetest p n v) := by
  unfold State.loadRetest
  split
  · exact h.answer p _ _ _ hs
  · split
    · exact h.answer p _ _ _ hs
    · exact h.answer p _ _ _ (h.modNest n _ (h.takeEntry s n v _ hs))

theorem takeLoadUnit (p : PortId) (q : Vector Byte 64) (hs : P s) : P (takeLoadUnit p q s) := by
  unfold Machine.takeLoadUnit
  dsimp only
  split
  · exact h.answer p _ _ _ hs
  next n _ =>
    split_ifs
    · exact h.answer p _ _ _ hs
    · exact h.answer p _ _ _ hs
    · exact h.answer p _ _ _ hs
    · unfold State.loadNew
      dsimp only
      split
      · exact h.answer p _ _ _ (h.counter s _ hs)
      · exact h.answer p _ _ _ (h.modNest n _ (h.count _ _ (h.counter s _ hs)))
    · exact h.loadRetest p n _ hs
    · exact h.answer p _ _ _ (h.modNest n _ hs)

theorem takeReleaseNest (p : PortId) (q : Vector Byte 64) (hs : P s) : P (takeReleaseNest p q s) := by
  unfold Machine.takeReleaseNest
  split
  · exact h.answer p _ _ _ hs
  next n _ =>
    split
    · exact h.answer p _ _ _ (h.releaseUntested n hs)
    · exact h.answer p _ _ _ (h.modNest n _ hs)
    all_goals exact h.answer p _ _ _ hs

theorem takeAbortNest (p : PortId) (q : Vector Byte 64) (hs : P s) : P (takeAbortNest p q s) := by
  unfold Machine.takeAbortNest
  split
  · exact h.answer p _ _ _ hs
  · split
    · exact h.answer p _ _ _ (h.settleActivation (h.abortAll _ hs))
    · exact h.answer p _ _ _ hs

theorem takeStartNest (p : PortId) (q : Vector Byte 64) (hs : P s) : P (takeStartNest p q s) := by
  unfold Machine.takeStartNest
  split
  · exact h.answer p _ _ _ hs
  next n _ =>
    split
    · exact h.answer p _ _ _ hs
    · exact h.answer p _ _ _ (h.acceptStart n hs)

theorem takeLineEvent (p : PortId) (q : Vector Byte 64) (hs : P s) : P (takeLineEvent p q s) := by
  have hset (l : Lines) : P { s with lines := l } := h.same s _ (by constructor <;> rfl) hs
  unfold Machine.takeLineEvent
  dsimp only
  split
  · exact h.answer p _ _ _ hs
  · split_ifs
    · exact h.answer p _ _ _ hs
    · exact h.answer p _ _ _ hs
    · exact h.answer p _ _ _ (h.lineStart _ hs)
  · split_ifs
    · exact h.answer p _ _ _ hs
    · exact h.answer p _ _ _ hs
    · exact h.answer p _ _ _ (hset _)
    · exact h.answer p _ _ _ (h.edge _ _ (hset _))

theorem takeReprint (p : PortId) (q : Vector Byte 64) (hs : P s) : P (takeReprint p q s) := by
  unfold Machine.takeReprint
  dsimp only
  split
  · exact h.answer p _ _ _ hs
  · split
    · exact h.answer p _ _ _ hs
    · split
      · exact h.answer p _ _ _ hs
      next hq => exact h.answer p _ _ _ (h.enqueue _ (by omega) hs)

theorem takeOf (p : PortId) (r : Request) (q : Vector Byte 64) (hr : readsOnly r = false) (hs : P s) : P (takeOf r p q s) := by
  cases r <;> try contradiction
  case planOpen => exact h.takePlanOpen p q hs
  case planData => exact h.takePlanData p q hs
  case planClose =>
    simp only [Machine.takeOf, takePlanClose]
    split
    · exact h.modLoader _ (fun _ => rfl) hs
    all_goals exact h.answer p _ _ _ hs
  case planActivate => exact h.takePlanActivate p q hs
  case planRevoke => exact h.takePlanRevoke p q hs
  case calibrate => exact h.takeCalibrate p q hs
  case chainCheck => exact h.joinQueue .check hs
  case serialBase => exact h.takeSerialBase p q hs
  case closeShift => exact h.answer p _ _ _ (h.closeShift s _ hs)
  case markerStart => exact h.takeMarkerStart p q hs
  case stationReset => exact h.reset s p q
  case loadUnit => exact h.takeLoadUnit p q hs
  case releaseNest => exact h.takeReleaseNest p q hs
  case lineEvent => exact h.takeLineEvent p q hs
  case startNest => exact h.takeStartNest p q hs
  case abortNest => exact h.takeAbortNest p q hs
  case reprint => exact h.takeReprint p q hs
  case abandon => exact hs

theorem rematchHead (hs : P s) : P s.rematchHead := by
  unfold State.rematchHead
  split
  · exact hs
  · have hunbound : P (s.modMarker (Marker.modHead fun x => { x with bound := none, page := 0, busyWait := false })) :=
      h.bus s _ ⟨rfl, rfl, rfl, rfl⟩ hs
    dsimp only
    split
    · exact h.bus _ _ ⟨rfl, rfl, rfl, rfl⟩ hunbound
    · exact h.nextHead _ (h.failHead _ _ hunbound)

theorem abandonRequest (p : PortId) (hs : P s) : P (s.abandonRequest p) := by
  apply abandonRequest_kept
  · exact fun _ => h.port s p _ (fun _ => rfl) hs
  · exact fun _ => h.endAbandoned p _ _ hs
  · exact fun _ => h.endAbandoned p _ _ (h.modLoader _ (fun _ => rfl) hs)
  · intro _
    unfold State.abandonCheck
    split
    · refine h.settleActivation (h.grant _ (h.endAbandoned p _ _ ?_))
      exact h.same s _ (by constructor <;> simp) hs
    · exact h.endAbandoned p _ _ (h.same s _ (by constructor <;> simp) hs)
  · intro _
    refine h.endAbandoned p _ _ (h.startBus ?_)
    have hdown : P (s.modMarker fun m =>
        { m with devices := m.devices.map Device.standDown, bus := m.bus.map Transaction.discardProbe }) :=
      h.bus s _ ⟨rfl, rfl, rfl, rfl⟩ hs
    split
    · exact h.rematchHead hdown
    · exact hdown

/-! ### The Marker Bus -/

theorem faultDevice (d : Nat) (cause : DeviceFault) (hs : P s) : P (s.faultDevice d cause) := by
  have hfault := h.latchBoth .markerFault (h.bus s (Marker.modDevice d fun x => { x with state := .fault, cause := some cause })
    ⟨rfl, rfl, rfl, rfl⟩ hs)
  unfold State.faultDevice
  dsimp only
  split
  · exact h.rematchHead hfault
  · exact hfault

theorem readyDevice (d f : Nat) (hs : P s) : P (s.readyDevice d f) := by
  have hready := h.bus s (Marker.modDevice d fun x => { x with state := .ready, resolved := some f, toggle := false })
    ⟨rfl, rfl, rfl, rfl⟩ hs
  unfold State.readyDevice
  dsimp only
  split
  · exact h.bus _ _ ⟨rfl, rfl, rfl, rfl⟩ hready
  · exact hready

theorem probeOutcome (d : Nat) (r : ProbeResult) (hs : P s) : P (s.probeOutcome d r) := by
  cases r with
  | nak =>
    have hcounted := h.bus s (Marker.modDevice d fun x => { x with naks := x.naks + 1 }) ⟨rfl, rfl, rfl, rfl⟩ hs
    simp only [State.probeOutcome, State.probeNak]
    split
    · exact h.bus _ _ ⟨rfl, rfl, rfl, rfl⟩ hcounted
    · exact h.faultDevice d _ hcounted
  | page v f m k =>
    have hread := h.bus s (Marker.modDevice d fun x => { x with abilities := some ⟨v, f, m, k⟩ })
      ⟨rfl, rfl, rfl, rfl⟩ hs
    simp only [State.probeOutcome, State.probePage]
    split
    · exact h.faultDevice d _ hread
    · split
      · exact h.faultDevice d _ hread
      · exact h.readyDevice d _ hread

theorem settleMarkerStart (hs : P s) : P s.settleMarkerStart := by
  unfold State.settleMarkerStart
  split
  · exact h.answerLate _ _ _ _ hs
  · exact hs

theorem pageLive (d : Nat) (r : PageResult) (hs : P s) : P (s.pageLive d r) := by
  unfold State.pageLive
  split
  · have hflip := h.bus s (Marker.modDevice d fun x => { x with toggle := !x.toggle }) ⟨rfl, rfl, rfl, rfl⟩ hs
    unfold State.pageAccepted
    dsimp only
    split
    · exact h.bus _ _ ⟨rfl, rfl, rfl, rfl⟩ hflip
    · exact h.completes _ d hflip
  · exact h.bus _ _ ⟨rfl, rfl, rfl, rfl⟩ hs
  · exact h.nextHead _ (h.failHead s _ hs)
  · unfold State.linkLoss
    split
    · exact hs
    next j rest hq =>
      split
      · have hcounts := (keepsJobs_negotiate d).sameCounts
          { s.marker with queue := { j with restarts := j.restarts + 1 } :: rest }
        exact h.bus s _ ⟨hcounts.queue.trans (by simp [hq]), hcounts.enqueued, hcounts.done, hcounts.failed⟩ hs
      · exact h.bus _ _ ((keepsJobs_negotiate d).sameCounts _) (h.nextHead _ (h.failHead s _ hs))

/-- A law that each shared operation keeps is kept by every event. -/
theorem keptByEvents : KeptByEvents P where
  queue s _ hs := h.same s _ (by constructor <;> rfl) hs
  hold s _ hs := h.same s _ (by constructor <;> rfl) hs
  stopped s hs := h.same (s.modMarker Marker.stopped) _ (by constructor <;> rfl) (h.bus s _ ⟨rfl, rfl, rfl, rfl⟩ hs)
  released s a b := by
    have hlost := h.port _ .line (fun q => { q with lost := b.lineInside }) (fun _ => rfl)
      (h.port _ .station (fun q => { q with lost := b.stationInside }) (fun _ => rfl) (h.power ⟨a, b.ambient⟩))
    exact h.same _ _ (by constructor <;> rfl) hlost
  pins s _ _ hs := h.same s _ (by constructor <;> rfl) hs
  edge _ f level hs := h.edge f level hs
  window s p f hf hs := h.port s p f (fun q => (hf q).2.2) hs
  begun s p _ _ _ _ hs := h.port s p _ (fun q => (Port.keepsSlot_written p _ q).2.2) hs
  answered s p _ _ _ _ _ hs := h.port s p _ (fun q => (Port.keepsSlot_written p _ q).2.2) hs
  answer _ p st sub body _ hs := h.answer p st sub body hs
  spend s _ hs := h.same s _ (by constructor <;> rfl) hs
  readEvents s p hs := h.readEvents s p hs
  taken s p r params hr _ hs := h.takeOf p r params hr (h.port s p _ (fun _ => rfl) hs)
  abandoned _ p hs := h.abandonRequest p hs
  checks s _ hs := by
    have hchecked : P (s.checked s.checkResult) := by
      unfold State.checked
      split
      · exact h.latchBoth _ (h.modLoader _ (fun _ => rfl) hs)
      · exact h.latchBoth _ (h.modLoader _ (fun _ => rfl) hs)
    rw [endChecks_eq]
    exact h.same _ _ (by constructor <;> rfl) (h.answerLate _ _ _ _ hchecked)
  burst _ hs := h.latchBoth _ (h.modLoader _ (fun _ => rfl) hs)
  samples s _ _ _ hs := h.same s _ (by constructor <;> rfl) hs
  opens s hs := h.same s _ (by constructor <;> simp) hs
  closes s i _ _ hs := h.decideWindow i (h.same s _ (by constructor <;> simp) hs)
  fades _ hs := h.endFadeOut hs
  completion s i _ hs := by
    have hfreed : P (State.freeOne i { s with engine := s.engine.finished (analyse (s.half i)) (s.half i).length }) :=
      h.same s _ (by constructor <;> simp) hs
    exact h.same _ _ (by constructor <;> simp [State.completeAnalysis]) (h.handOver (s.half i) (analyse (s.half i)) hfreed)
  bus s f hf hs := h.bus s f (hf.sameCounts _) hs
  probe _ d r hs := h.probeOutcome d r hs
  start _ hs := h.settleMarkerStart hs
  page _ d r hs := h.pageLive d r hs
  timeout s hs := h.nextHead _ (h.failHead s _ hs)

end KeptByOps
end

end Sys2Proof.Machine
end

section
/-! SUPPORT. What the shared operations leave of the ports: all but the latched events. -/

namespace Sys2Proof.Machine
open Sys2Proof

/-- From `s` to `t` each port keeps all but its latched events. -/
def State.OnlyEvents (s t : State) : Prop := ∀ p, ∃ e, t.port p = { s.port p with events := e }

namespace State.OnlyEvents
variable {s t u : State}

theorem refl (s : State) : s.OnlyEvents s := fun p => ⟨(s.port p).events, rfl⟩

theorem of_eq (h : ∀ p, t.port p = s.port p) : s.OnlyEvents t := fun p => ⟨(s.port p).events, h p⟩

theorem trans (h : s.OnlyEvents t) (h' : t.OnlyEvents u) : s.OnlyEvents u := by
  intro p
  obtain ⟨e, he⟩ := h p
  obtain ⟨e', he'⟩ := h' p
  exact ⟨e', by rw [he', he]⟩

theorem slot (h : s.OnlyEvents t) (p : PortId) : (t.port p).slot = (s.port p).slot := by
  obtain ⟨e, he⟩ := h p
  rw [he]

theorem running (h : s.OnlyEvents t) (p : PortId) : (t.port p).running = (s.port p).running := by
  obtain ⟨e, he⟩ := h p
  rw [he]

theorem lost (h : s.OnlyEvents t) (p : PortId) : (t.port p).lost = (s.port p).lost := by
  obtain ⟨e, he⟩ := h p
  rw [he]

theorem unverified (h : s.OnlyEvents t) (p : PortId) : (t.port p).unverified = (s.port p).unverified := by
  obtain ⟨e, he⟩ := h p
  rw [he]

theorem latchBoth (e : Event) (s : State) : s.OnlyEvents (s.latchBoth e) := by
  intro p
  rw [latchBoth_port]
  exact ⟨_, rfl⟩

theorem addRing (e : RingEntry) (s : State) : s.OnlyEvents (s.addRing e) := by
  unfold State.addRing
  dsimp only
  split
  · exact latchBoth .yieldLow _
  · exact of_eq fun p => by cases p <;> rfl

theorem expire (v : Nat) (s : State) : s.OnlyEvents (s.expire v) :=
  (of_eq fun p => by simp).trans (addRing _ (s.count (Counts.addExpired 1)))

theorem evictIfFull (s : State) : s.OnlyEvents s.evictIfFull := by
  unfold State.evictIfFull
  split
  · exact refl s
  · split
    · exact refl s
    · exact (of_eq fun p => by simp).trans (expire _ (s.modUnits _))

theorem insertRetest (e : RetestEntry) (s : State) : s.OnlyEvents (s.insertRetest e) :=
  (evictIfFull s).trans (of_eq fun p => by simp [State.insertRetest])

theorem giveBack (n : NestId) (s : State) : s.OnlyEvents (s.giveBack n) := by
  unfold State.giveBack
  dsimp only
  split
  · exact refl s
  · split
    · exact of_eq fun p => by simp
    · split
      · exact refl s
      · split
        · exact (of_eq fun p => by simp).trans (insertRetest _ (s.modUnits _))
        · exact (of_eq fun p => by simp).trans (expire _ (s.modUnits _))

theorem admitWaiting (s : State) : s.OnlyEvents s.admitWaiting :=
  of_eq fun p => by cases p <;> simp [State.port]

theorem modMarker (f : Marker → Marker) (s : State) : s.OnlyEvents (s.modMarker f) := of_eq fun _ => rfl

theorem dropHead (s : State) : s.OnlyEvents s.dropHead := (modMarker _ s).trans (admitWaiting _)

theorem failHead (cause : JobFault) (s : State) : s.OnlyEvents (s.failHead cause) := by
  unfold State.failHead
  split
  · exact refl s
  · exact (modMarker _ s).trans ((latchBoth _ _).trans (dropHead _))

theorem makeHead (k : Nat) (s : State) : s.OnlyEvents (s.makeHead k) := by
  induction k generalizing s with
  | zero => exact refl s
  | succ k ih =>
    unfold State.makeHead
    split
    · exact refl s
    · dsimp only
      split
      · exact (modMarker _ s).trans (modMarker _ _)
      · exact (modMarker _ s).trans ((failHead _ _).trans (ih _))

theorem nextHead (s : State) : s.OnlyEvents s.nextHead := makeHead _ s

theorem completeHead (d : Nat) (s : State) : s.OnlyEvents (s.completeHead d) := by
  unfold State.completeHead
  split
  · exact refl s
  · exact (modMarker _ s).trans ((dropHead _).trans (nextHead _))

theorem startBus (s : State) : s.OnlyEvents s.startBus := by
  obtain ⟨f, -, e⟩ := startBus_eq_modMarker s
  exact e ▸ modMarker f s

theorem remapMarker (s : State) : s.OnlyEvents s.remapMarker :=
  (modMarker _ s).trans ((nextHead _).trans (startBus _))

end State.OnlyEvents

theorem grantHead_units (s : State) : ∃ a b, s.grantHead.units = { s.units with qualifiedA := a, qualifiedB := b } := by
  unfold State.grantHead
  split
  next c rest _ _ =>
    cases c with
    | nest n => cases n <;> exact ⟨_, _, by rw [grant_nest]; rfl⟩
    | check => exact ⟨_, _, rfl⟩
  · exact ⟨_, _, rfl⟩

end Sys2Proof.Machine
end

section
/-! PROOF. The lists keep within their bounds (R120, R138, R143, R165), and verification stays sound (R126, R175). -/

namespace Sys2Proof.Machine
open Sys2Proof

/-- The lists of the Unit Table and of the Yield Accounts keep within their bounds (R120, R138, R143). -/
structure State.LedgerBounded (s : State) : Prop where
  retest : s.units.retest.length ≤ 32
  ring   : s.accounts.ring.length ≤ 64
  shifts : s.accounts.shifts.length ≤ 8

theorem addRing_accounts (e : RingEntry) (s : State) : (s.addRing e).accounts =
    { s.accounts with ring := keepLast 64 (s.accounts.ring ++ [e]), ringSeq := s.accounts.ringSeq + 1 } := by
  unfold State.addRing
  dsimp only
  split
  · simp
  · rfl

theorem spendVerification_retest (s : State) : s.spendVerification.units.retest = s.units.retest := by
  unfold State.spendVerification
  dsimp only
  split
  · rfl
  · split <;> simp

theorem referenceVerdict_retest (n : NestId) (v : Verdict) (s : State) :
    (s.referenceVerdict n v).units.retest = s.units.retest := by
  cases v <;> simp only [State.referenceVerdict]
  · split <;> simp
  · simp
  · simp

theorem countFails_retest (v : Verdict) (s : State) : (s.countFails v).units.retest = s.units.retest := by
  cases v <;> simp only [State.countFails]
  · simp
  · split_ifs <;> simp [withdraw_eq]

namespace State.LedgerBounded
variable {s : State}

theorem congr {t : State} (hs : s.LedgerBounded) (hr : t.units.retest = s.units.retest)
    (hring : t.accounts.ring = s.accounts.ring) (hshifts : t.accounts.shifts = s.accounts.shifts) : t.LedgerBounded :=
  ⟨hr ▸ hs.retest, hring ▸ hs.ring, hshifts ▸ hs.shifts⟩

theorem addRing (hs : s.LedgerBounded) (e : RingEntry) : (s.addRing e).LedgerBounded := by
  refine ⟨by simpa using hs.retest, ?_, ?_⟩
  · rw [addRing_accounts]
    exact keepLast_length 64 _
  · rw [addRing_accounts]
    exact hs.shifts

theorem expire (hs : s.LedgerBounded) (v : Nat) : (s.expire v).LedgerBounded :=
  addRing (congr hs (by simp) (by simp) (by simp)) _

theorem evictIfFull (hs : s.LedgerBounded) : s.evictIfFull.LedgerBounded := by
  unfold State.evictIfFull
  split
  · exact hs
  · split
    · exact hs
    next e rest he =>
      have hlen := hs.retest
      rw [he, List.length_cons] at hlen
      exact expire (s := s.modUnits fun u => UnitTable.bump { u with retest := rest })
        ⟨show rest.length ≤ 32 by omega, hs.ring, hs.shifts⟩ _

theorem insertRetest (hs : s.LedgerBounded) (e : RetestEntry) : (s.insertRetest e).LedgerBounded :=
  ⟨insertRetest_length e s hs.retest, by simpa [State.insertRetest] using hs.evictIfFull.ring,
    by simpa [State.insertRetest] using hs.evictIfFull.shifts⟩

theorem giveBack (hs : s.LedgerBounded) (n : NestId) : (s.giveBack n).LedgerBounded := by
  unfold State.giveBack
  dsimp only
  split
  · exact hs
  · split
    · exact congr hs (by simp) (by simp) (by simp)
    · split
      · exact hs
      · have hset : (s.modUnits (UnitTable.setHeld n none)).LedgerBounded :=
          congr hs (by cases n <;> rfl) rfl rfl
        split
        · exact hset.insertRetest _
        · exact hset.expire _

theorem activate (hs : s.LedgerBounded) : s.activate.LedgerBounded := by
  unfold State.activate
  split
  · exact hs
  · refine ⟨?_, ?_, ?_⟩
    · simp [State.emptyRetest, UnitTable.bump]
    · simp [State.clearRing]
    · simpa [State.clearRing, State.closeShift] using keepLast_length 8 _

theorem takeOutcome (hs : s.LedgerBounded) (n : NestId) (o : OutcomeClass) (v : Verdict) (bin : Nat) :
    (s.takeOutcome n o v bin).LedgerBounded := by
  have hcount : (s.count (Counts.addVerdict o v bin)).LedgerBounded := congr hs rfl rfl rfl
  have hfails {t : State} (ht : t.LedgerBounded) : (t.countFails v).LedgerBounded :=
    congr ht (countFails_retest v t) (by simp) (by simp)
  have hset {t : State} (ht : t.LedgerBounded) : (t.modUnits (UnitTable.setHeld n none)).LedgerBounded :=
    congr ht (by cases n <;> rfl) rfl rfl
  unfold State.takeOutcome
  dsimp only
  refine hfails ?_
  split
  · split
    · exact insertRetest (hset (hcount.addRing _)) _
    · exact insertRetest (hset hcount) _
  · split
    · exact hset (hcount.addRing _)
    · exact hset hcount

theorem takeStationReset (s : State) (p : PortId) (q : Vector Byte 64) : (takeStationReset p q s).LedgerBounded := by
  have hblocks : s.resetBlocks.LedgerBounded := ⟨Nat.zero_le _, Nat.zero_le _, Nat.zero_le _⟩
  unfold Machine.takeStationReset
  obtain ⟨f, hf⟩ := endLineRequest_eq_modPort s.resetBlocks
  rw [hf]
  exact congr hblocks (by simp) (by simp) (by simp)

theorem keptByOps : KeptByOps State.LedgerBounded where
  same _ _ e hs := congr hs (by rw [e.units]) (by rw [e.accounts]) (by rw [e.accounts])
  port _ _ _ _ hs := congr hs (by simp) (by simp) (by simp)
  power _ := ⟨Nat.zero_le _, Nat.zero_le _, Nat.zero_le _⟩
  reset := takeStationReset
  count _ _ hs := congr hs rfl rfl rfl
  withdraw _ hs := congr hs rfl rfl rfl
  readEvents _ _ hs := congr hs (by simp) (by simp) (by simp)
  giveBack _ n hs := hs.giveBack n
  spend s hs := congr hs (spendVerification_retest s) (by simp) (by simp)
  grant s hs := by
    obtain ⟨a, b, h⟩ := grantHead_units s
    exact congr hs (by rw [h]) (by simp) (by simp)
  activate _ hs := hs.activate
  outcome _ n o v bin hs := hs.takeOutcome n o v bin
  reference s n v hs := congr hs (referenceVerdict_retest n v s) (by simp) (by simp)
  closeShift _ _ hs := ⟨hs.retest, hs.ring, keepLast_length 8 _⟩
  counter _ _ hs := congr hs rfl rfl rfl
  takeEntry s n v e hs := by
    refine ⟨?_, hs.ring, hs.shifts⟩
    have : (s.units.retest.filter fun e => e.serial ≠ v).length ≤ 32 := (List.length_filter_le _ _).trans hs.retest
    cases n <;> exact this
  bus _ _ _ hs := congr hs rfl rfl rfl
  append _ _ _ hs := congr hs rfl rfl rfl
  failHead _ _ hs := congr hs (by simp) (by simp) (by simp)
  nextHead _ hs := congr hs (by simp) (by simp) (by simp)
  completes _ _ hs := congr hs (by simp) (by simp) (by simp)

end State.LedgerBounded

/-! ### Verification -/

theorem windowLength_congr {s t : State} (h : t.loader.active = s.loader.active) : t.windowLength = s.windowLength := by
  simp only [State.windowLength, State.plan, h]

theorem evictIfFull_remaining (s : State) : s.evictIfFull.units.remaining = s.units.remaining := by
  unfold State.evictIfFull
  split
  · rfl
  · split
    · rfl
    · simp [UnitTable.bump]

theorem insertRetest_remaining (e : RetestEntry) (s : State) : (s.insertRetest e).units.remaining = s.units.remaining := by
  simp [State.insertRetest, UnitTable.bump, evictIfFull_remaining]

theorem giveBack_remaining (n : NestId) (s : State) : (s.giveBack n).units.remaining = s.units.remaining := by
  unfold State.giveBack
  dsimp only
  split
  · rfl
  · split
    · rfl
    · split
      · rfl
      · split
        · rw [insertRetest_remaining]
          cases n <;> rfl
        · cases n <;> simp [UnitTable.setHeld]

theorem settleMarkerStart_unverified (s : State) (p : PortId) :
    (s.settleMarkerStart.port p).unverified = (s.port p).unverified := by
  unfold State.settleMarkerStart
  split
  · cases p <;> rfl
  · rfl

/-- After an activation both unverified marks are set and the remaining count is 0 (R20, R129, R175). -/
theorem activate_withdrawn {s : State} {c : StagedPlan} (h : s.loader.staged = some c) :
    s.activate.units.remaining = 0 ∧ ∀ p, (s.activate.port p).unverified = true := by
  unfold State.activate
  rw [h]
  dsimp only
  refine ⟨by simp [State.emptyRetest, UnitTable.bump, withdraw_eq], fun p => ?_⟩
  rw [settleMarkerStart_unverified, (State.OnlyEvents.latchBoth _ _).unverified, (State.OnlyEvents.remapMarker _).unverified]
  cases p <;> rfl

namespace State.VerificationSound
variable {s t : State}

theorem congr (hs : s.VerificationSound) (hr : t.units.remaining = s.units.remaining)
    (hw : t.loader.active = s.loader.active) (hp : ∀ p, (t.port p).unverified = (s.port p).unverified) :
    t.VerificationSound := by
  refine ⟨by rw [hr, windowLength_congr hw]; exact hs.bound, fun hv => ?_⟩
  have hmarks := hs.marks (by simpa [State.verified, hr] using hv)
  exact ⟨(hp .station).trans hmarks.1, (hp .line).trans hmarks.2⟩

theorem of_marked (hr : t.units.remaining ≤ t.windowLength) (hp : ∀ p, (t.port p).unverified = true) : t.VerificationSound :=
  ⟨hr, fun _ => ⟨hp .station, hp .line⟩⟩

theorem modUnits (hs : s.VerificationSound) (f : UnitTable → UnitTable) (hf : (f s.units).remaining = s.units.remaining) :
    (s.modUnits f).VerificationSound := hs.congr hf rfl fun p => by simp

theorem withdraw (s : State) : s.withdraw.VerificationSound :=
  of_marked (Nat.zero_le _) fun p => by cases p <;> rfl

theorem latchBoth (hs : s.VerificationSound) (e : Event) : (s.latchBoth e).VerificationSound :=
  hs.congr (by simp) (by simp) (OnlyEvents.latchBoth e s).unverified

theorem spendVerification (hs : s.VerificationSound) : s.spendVerification.VerificationSound := by
  unfold State.spendVerification
  dsimp only
  split
  · exact hs
  · have hbound : s.units.remaining - 1 ≤ s.windowLength := (Nat.sub_le _ _).trans hs.bound
    split
    next hv =>
      refine ⟨hbound, fun hv' => ?_⟩
      rw [hv] at hv'
      contradiction
    · exact of_marked hbound fun p => by cases p <;> rfl

theorem countFails (hs : s.VerificationSound) (v : Verdict) : (s.countFails v).VerificationSound := by
  have hcount (k : Nat) : (s.modUnits fun u => { u with failCount := k }).VerificationSound :=
    hs.congr rfl rfl fun p => by simp
  cases v <;> simp only [State.countFails]
  · exact hcount 0
  · split_ifs
    · exact hcount 0
    · exact hs.congr rfl rfl fun p => by simp
    · exact ((withdraw s).latchBoth .suspectFixture).modUnits _ rfl
  · exact hs

theorem takeOutcome (hs : s.VerificationSound) (n : NestId) (o : OutcomeClass) (v : Verdict) (bin : Nat) :
    (s.takeOutcome n o v bin).VerificationSound := by
  have hcount : (s.count (Counts.addVerdict o v bin)).VerificationSound := hs.congr rfl rfl fun p => by simp
  have hring (e : RingEntry) : ((s.count (Counts.addVerdict o v bin)).addRing e).VerificationSound :=
    hcount.congr (by simp) (by simp) (OnlyEvents.addRing e _).unverified
  have hset {t : State} (ht : t.VerificationSound) : (t.modUnits (UnitTable.setHeld n none)).VerificationSound :=
    ht.congr (by cases n <;> rfl) rfl fun p => by simp
  have hinsert {t : State} (ht : t.VerificationSound) (e : RetestEntry) : (t.insertRetest e).VerificationSound :=
    ht.congr (insertRetest_remaining e t) (by simp) (OnlyEvents.insertRetest e t).unverified
  unfold State.takeOutcome
  refine countFails ?_ v
  split
  · split
    · exact hinsert (hset (hring _)) _
    · exact hinsert (hset hcount) _
  · split
    · exact hset (hring _)
    · exact hset hcount

theorem referenceVerdict (hs : s.VerificationSound) (n : NestId) (v : Verdict) : (s.referenceVerdict n v).VerificationSound := by
  have hfailed : ((s.modUnits fun u => { u with lastReference := some .failed }).latchBoth .referenceFailed).VerificationSound :=
    latchBoth (hs.modUnits _ rfl) _
  cases v <;> simp only [State.referenceVerdict]
  · split
    · refine ⟨le_refl s.windowLength, fun hv => hs.marks ?_⟩
      have hzero : s.windowLength = 0 := Nat.lt_one_iff.mp (not_le.mp (of_decide_eq_false hv))
      have := hs.bound
      simp [State.verified]
      omega
    · exact hs.congr rfl rfl fun p => by simp
  · exact hfailed
  · exact hfailed

theorem activate (hs : s.VerificationSound) : s.activate.VerificationSound := by
  cases hstaged : s.loader.staged with
  | none =>
    have hsame : s.activate = s := by simp [State.activate, hstaged]
    rwa [hsame]
  | some c =>
    obtain ⟨hr, hp⟩ := activate_withdrawn hstaged
    exact of_marked (hr ▸ Nat.zero_le _) hp

theorem takeStationReset (s : State) (p : PortId) (q : Vector Byte 64) : (takeStationReset p q s).VerificationSound := by
  unfold Machine.takeStationReset
  obtain ⟨f, hf⟩ := endLineRequest_eq_modPort s.resetBlocks
  rw [hf]
  refine of_marked ?_ ?_
  · simp [State.resetBlocks, UnitTable.reset]
  · intro r
    cases p <;> cases r <;> rfl

theorem keptByOps : KeptByOps State.VerificationSound where
  same _ _ e hs := hs.congr (by rw [e.units]) e.plan fun p => by cases p <;> simp [State.port, e.station, e.line]
  port s p f hf hs := hs.congr (by simp) (by simp) fun r => by cases p <;> cases r <;> simp [State.port, State.modPort, hf]
  power _ := of_marked (Nat.zero_le _) fun p => by cases p <;> rfl
  reset := takeStationReset
  count _ _ hs := hs.congr rfl rfl fun p => by simp
  withdraw s _ := withdraw s
  readEvents s p hs := by
    have hmarks : s.verified = false → ∀ r, ((s.modPort p fun x =>
        { x with events := 0, unverified := !s.verified }).port r).unverified = true := by
      intro hv r
      have hs := hs.marks hv
      cases p <;> cases r <;> simp [State.port, State.modPort, hv, hs]
    refine ⟨?_, fun hv => ?_⟩
    · cases p <;> exact hs.bound
    · have hv : s.verified = false := by simpa only [State.verified, State.modPort_units] using hv
      exact ⟨hmarks hv .station, hmarks hv .line⟩
  giveBack s n hs := hs.congr (giveBack_remaining n s) (by simp) (OnlyEvents.giveBack n s).unverified
  spend _ hs := hs.spendVerification
  grant s hs := by
    obtain ⟨a, b, h⟩ := grantHead_units s
    exact hs.congr (by rw [h]) (by simp) fun p => by cases p <;> simp [State.port]
  activate _ hs := hs.activate
  outcome _ n o v bin hs := hs.takeOutcome n o v bin
  reference _ n v hs := hs.referenceVerdict n v
  closeShift _ _ hs := hs.congr rfl rfl fun p => by cases p <;> rfl
  counter _ _ hs := hs.congr rfl rfl fun p => by simp
  takeEntry _ n _ _ hs := hs.congr (by cases n <;> rfl) rfl fun p => by simp
  bus _ _ _ hs := hs.congr rfl rfl fun p => by simp
  append _ _ _ hs := hs.congr rfl rfl fun p => by simp
  failHead s cause hs := hs.congr (by simp) (by simp) (OnlyEvents.failHead cause s).unverified
  nextHead s hs := hs.congr (by simp) (by simp) (OnlyEvents.nextHead s).unverified
  completes s d hs := hs.congr (by simp) (by simp) (OnlyEvents.completeHead d s).unverified

end State.VerificationSound

/-- Settles O58: each shared operation keeps the remaining count within the window length and the marks of an unverified station. -/
theorem stepKeepsVerificationSound : Obligations.StepKeepsVerificationSound :=
  fun _ _ e hs => State.VerificationSound.keptByOps.keptByEvents.step e hs

/-! ### The label queue -/

/-- The label queue keeps within its bound, and the counters of its jobs balance (R165). -/
structure Marker.QueueSound (m : Marker) : Prop where
  bound   : m.queue.length ≤ 8
  balance : m.enqueued = m.done + m.failed + BitVec.ofNat 32 m.queue.length

namespace Marker.QueueSound
variable {m m' : Marker}

theorem congr (hm : m.QueueSound) (h : m.SameCounts m') : m'.QueueSound :=
  ⟨h.queue ▸ hm.bound, by rw [h.enqueued, h.done, h.failed, h.queue, hm.balance]⟩

theorem append (hm : m.QueueSound) (hq : m.queue.length < 8) (j : Job) : (m.append j).QueueSound := by
  refine ⟨by simp [Marker.append]; omega, ?_⟩
  simp only [Marker.append, List.length_append, List.length_singleton, hm.balance, BitVec.ofNat_add]
  exact BitVec.add_assoc _ _ _

/-- A job leaves a queue as the counter of its end rises. -/
theorem tail (hm : m.QueueSound) {j : Job} {rest : List Job} (hq : m.queue = j :: rest) (h : m'.queue = rest)
    (he : m'.enqueued = m.enqueued) (hc : m'.done + m'.failed = m.done + m.failed + 1) :
    m'.QueueSound ∧ m'.queue.length < 8 := by
  obtain ⟨hb, hbal⟩ := hm
  rw [hq, List.length_cons] at hb hbal
  refine ⟨⟨by rw [h]; omega, ?_⟩, by rw [h]; omega⟩
  rw [he, hbal, hc, h, BitVec.ofNat_add]
  ac_rfl

end Marker.QueueSound

namespace State
variable {s : State}

theorem queueSound_admitWaiting (hs : s.marker.QueueSound) (hq : s.marker.queue.length < 8) : s.admitWaiting.marker.QueueSound := by
  unfold State.admitWaiting
  split
  · exact hs
  next w rest _ =>
    rw [modNest_marker]
    exact Marker.QueueSound.append (m := { s.marker with waitList := rest }) ⟨hs.bound, hs.balance⟩ hq w.job

theorem queueSound_failHead (hs : s.marker.QueueSound) (cause : JobFault) : (s.failHead cause).marker.QueueSound := by
  unfold State.failHead
  split
  · exact hs
  next j rest hq =>
    obtain ⟨hsound, hplace⟩ := hs.tail (m' := { s.marker with queue := rest, failed := s.marker.failed + 1 }) hq rfl rfl
      (BitVec.add_assoc _ _ _).symm
    refine queueSound_admitWaiting (s := State.modMarker _ _) ?_ ?_
    · exact hsound.congr ⟨by simp [hq], by simp, by simp, by simp⟩
    · simpa [hq] using hplace

theorem queueSound_makeHead (k : Nat) (hs : s.marker.QueueSound) : (s.makeHead k).marker.QueueSound := by
  induction k generalizing s with
  | zero => exact hs
  | succ k ih =>
    unfold State.makeHead
    split
    · exact hs
    · dsimp only
      split
      · exact hs.congr ⟨rfl, rfl, rfl, rfl⟩
      · exact ih (queueSound_failHead (s := State.modMarker _ _) (hs.congr ⟨rfl, rfl, rfl, rfl⟩) _)

theorem queueSound_nextHead (hs : s.marker.QueueSound) : s.nextHead.marker.QueueSound := queueSound_makeHead _ hs

theorem queueSound_completeHead (hs : s.marker.QueueSound) (d : Nat) : (s.completeHead d).marker.QueueSound := by
  unfold State.completeHead
  split
  · exact hs
  next j rest hq =>
    obtain ⟨hsound, hplace⟩ := hs.tail (m' := { s.marker with queue := rest, done := s.marker.done + 1 }) hq rfl rfl
      (by dsimp only; ac_rfl)
    refine queueSound_nextHead (queueSound_admitWaiting (s := State.modMarker _ _) ?_ ?_)
    · exact hsound.congr ⟨by simp [hq, Marker.modDevice], rfl, rfl, rfl⟩
    · simpa [hq, Marker.modDevice] using hplace

theorem queueSound_remapMarker (hs : s.marker.QueueSound) : s.remapMarker.marker.QueueSound := by
  have hrebuilt : s.rebuildDevices.marker.QueueSound := hs.congr ⟨rfl, rfl, rfl, rfl⟩
  obtain ⟨f, hf, e⟩ := startBus_eq_modMarker s.rebuildDevices.nextHead
  unfold State.remapMarker
  rw [e]
  exact (queueSound_nextHead hrebuilt).congr (hf.sameCounts _)

theorem queueSound_activate (hs : s.marker.QueueSound) : s.activate.marker.QueueSound := by
  unfold State.activate
  split
  · exact hs
  · simp only [settleMarkerStart_marker, latchBoth_marker]
    refine queueSound_remapMarker ?_
    simpa using hs

theorem queueSound_keptByOps : KeptByOps fun s => s.marker.QueueSound where
  same _ _ e hs := e.marker ▸ hs
  port _ _ _ _ hs := by simpa using hs
  power _ := ⟨Nat.zero_le _, rfl⟩
  reset s p q := by
    unfold takeStationReset
    obtain ⟨f, hf⟩ := endLineRequest_eq_modPort s.resetBlocks
    rw [hf]
    exact ⟨by simp [State.resetBlocks, Marker.reset], by simp [State.resetBlocks, Marker.reset]⟩
  count _ _ hs := hs
  withdraw _ hs := hs
  readEvents _ _ hs := by simpa using hs
  giveBack _ _ hs := by simpa using hs
  spend _ hs := by simpa using hs
  grant _ hs := by simpa using hs
  activate _ hs := queueSound_activate hs
  outcome _ _ _ _ _ hs := by simpa using hs
  reference _ _ _ hs := by simpa using hs
  closeShift _ _ hs := hs
  counter _ _ hs := hs
  takeEntry _ _ _ _ hs := hs
  bus _ _ h hs := hs.congr h
  append _ j hq hs := hs.append hq j
  failHead _ cause hs := queueSound_failHead hs cause
  nextHead _ hs := queueSound_nextHead hs
  completes _ d hs := queueSound_completeHead hs d

end State

theorem listsBounded_iff (s : State) :
    s.ListsBounded ∧ s.LabelsBalance ↔ s.LedgerBounded ∧ s.marker.QueueSound :=
  ⟨fun ⟨h, b⟩ => ⟨⟨h.retest, h.ring, h.shifts⟩, ⟨h.labels, b⟩⟩,
    fun ⟨h, m⟩ => ⟨⟨h.retest, h.ring, h.shifts, m.bound⟩, m.balance⟩⟩

/-- A step keeps the bounds of the lists and the balance of the label counters (R120, R138, R143, R165). -/
theorem step_keeps_lists {s t : State} (e : step s = .next t) (hb : s.ListsBounded) (hl : s.LabelsBalance) :
    t.ListsBounded ∧ t.LabelsBalance := by
  obtain ⟨hledger, hqueue⟩ := (listsBounded_iff s).mp ⟨hb, hl⟩
  exact (listsBounded_iff t).mpr ⟨State.LedgerBounded.keptByOps.keptByEvents.step e hledger,
    State.queueSound_keptByOps.keptByEvents.step e hqueue⟩

end Sys2Proof.Machine
end

section
/-! PROOF. The engine, its queue and the capture halves agree after every step (R61, R77, R78, R82). -/

namespace Sys2Proof.Machine
open Sys2Proof

/-- From `s` to `t` the Analysis Engine and both capture halves stand. -/
structure State.SameWindows (s t : State) : Prop where
  engine : t.engine = s.engine
  half0  : t.capture.half0 = s.capture.half0
  half1  : t.capture.half1 = s.capture.half1

/-- The law `P` speaks of the engine and the halves alone, and the freeing of a half that is FILLING or QUEUED keeps it. -/
structure KeptByFreeing (P : State → Prop) : Prop where
  same    : ∀ s t, s.SameWindows t → P s → P t
  freeOne : ∀ s h, (s.half h).state = .filling ∨ (s.half h).state = .queued → P s → P (s.freeOne h)

theorem grant_sameWindows (c : Claimant) (s : State) : s.SameWindows (s.grant c) := by
  cases c with
  | nest n => rw [grant_nest]; cases n <;> constructor <;> rfl
  | check =>
    simp only [State.grant, adoptPending_eq]
    constructor <;> rfl

theorem grantHead_sameWindows (s : State) : s.SameWindows s.grantHead := by
  unfold State.grantHead
  split
  · obtain ⟨he, h0, h1⟩ := grant_sameWindows _ (s.modChain _)
    exact ⟨he, h0, h1⟩
  · constructor <;> rfl

theorem stepOn_sameWindows (s : State) : s.SameWindows s.stepOn := by
  unfold State.stepOn
  dsimp only
  split <;> constructor <;> rfl

theorem fillingHalf_state {s : State} {h : HalfId} (e : s.fillingHalf = some h) : (s.half h).state = .filling := by
  unfold State.fillingHalf at e
  split_ifs at e with h0 h1 <;> cases e
  · exact h0
  · exact h1

theorem freeHalf_state {s : State} {h : HalfId} (e : s.freeHalf = some h) : (s.half h).state = .free := by
  unfold State.freeHalf at e
  split_ifs at e with h0 h1 <;> cases e
  · exact h0
  · exact h1

/-- What a freed half leaves: its state alone, FREE (R62). -/
theorem freeOne_half (h k : HalfId) (s : State) :
    (s.freeOne h).half k = if k = h then { s.half h with state := .free } else s.half k := by
  cases h <;> cases k <;> rfl

section
variable {P : State → Prop} (h : KeptByFreeing P)
include h

namespace KeptByFreeing
variable {s : State}

theorem grantHead (hs : P s) : P s.grantHead := h.same s _ (grantHead_sameWindows s) hs

theorem freeWindows (c : Claimant) (hs : P s) : P (s.freeWindows c) := by
  have hfree (t : State) (i : HalfId) (g : BitVec 16) (ht : P t) :
      P (if (t.half i).freedBy c g then t.freeOne i else t) := by
    split
    next hf =>
      refine h.freeOne t i ?_ ht
      simp only [Half.freedBy, Bool.and_eq_true, Bool.or_eq_true, decide_eq_true_eq] at hf
      exact hf.2
    · exact ht
  unfold State.freeWindows
  exact hfree _ .one _ (hfree s .zero _ hs)

theorem abortOne (n : NestId) (hs : P s) : P (s.abortOne n) := by
  have hend {t : State} (ht : P t) : P ((t.modNest n Nest.aborted).count Counts.addAborted) :=
    h.same t _ (by constructor <;> simp) ht
  have hsilent : P s.silence := h.same s _ (by constructor <;> rfl) hs
  refine hend ?_
  split
  · exact h.same s _ (by constructor <;> simp) hs
  · exact h.same (s.silence.freeWindows (.nest n)) _ (by constructor <;> rfl) (h.freeWindows _ hsilent)
  · exact h.freeWindows _ hs
  all_goals exact hs

theorem abortAll (ns : List NestId) (hs : P s) : P (s.abortAll ns) := by
  unfold State.abortAll
  refine h.grantHead ?_
  generalize ns.filter _ = l
  induction l generalizing s with
  | nil => exact hs
  | cons n l ih => exact ih (h.abortOne n hs)

theorem settleActivation (hs : P s) : P s.settleActivation := h.same s _ (by constructor <;> simp) hs

theorem joinQueue (c : Claimant) (hs : P s) : P (s.joinQueue c) :=
  h.grantHead (h.same s _ (by constructor <;> rfl) hs)

theorem acceptStart (n : NestId) (hs : P s) : P (s.acceptStart n) := by
  refine h.joinQueue _ (h.same s _ ?_ hs)
  split <;> constructor <;> simp

theorem makeVerdict (n : NestId) (hs : P s) : P (s.makeVerdict n) := h.same s _ (by constructor <;> simp) hs

theorem stopSweep (n : NestId) (c : PlanContent) (hs : P s) : P (s.stopSweep n c) := by
  have hrest {t : State} (ht : P t) (l : List PointRecord) :
      P (State.modNest n (fun x => l.foldl (fun x r => x.take c r) x)
        ((t.modCapture fun x => { x with holdoff := none }).modGen fun g => { g with mode := .runOut, stopMark := true })) :=
    h.same t _ (by constructor <;> simp) ht
  unfold State.stopSweep
  split
  · refine hrest ?_ _
    split
    next k _ hk => exact h.freeOne s k (.inl (fillingHalf_state hk)) hs
    · exact hs
  · exact hs

theorem offerRecord (n : NestId) (tag : BitVec 16) (r : PointRecord) (hs : P s) : P (s.offerRecord n tag r) := by
  unfold State.offerRecord
  split
  · exact hs
  next c _ =>
    have htaken : P (s.modNest n (Nest.take c r)) := h.same s _ (by constructor <;> simp) hs
    dsimp only
    split_ifs
    · exact h.stopSweep n c htaken
    · exact htaken
    · exact hs

theorem endCheckIfDue (hs : P s) : P s.endCheckIfDue := by
  unfold State.endCheckIfDue
  split
  · refine h.settleActivation (h.grantHead (h.same s _ ?_ hs))
    constructor <;> split <;> split <;> simp
  · exact hs

theorem handOver (w : Half) (a : Analysed) (hs : P s) : P (s.handOver w a) := by
  unfold State.handOver
  split
  · split
    · dsimp only
      split
      · exact h.settleActivation (h.makeVerdict _ (h.offerRecord _ _ _ hs))
      · exact h.offerRecord _ _ _ hs
    · exact h.endCheckIfDue (h.same s _ (by constructor <;> rfl) hs)
  · exact hs

theorem endFadeOut (hs : P s) : P s.endFadeOut := by
  unfold State.endFadeOut
  split
  next n _ =>
    have hlast : P ((s.fallSilent.modNest n fun x => { x with state := .analysing }).freeChain) :=
      h.same s _ (by constructor <;> simp) hs
    dsimp only
    split
    · exact h.settleActivation (h.grantHead (h.makeVerdict n hlast))
    · exact h.grantHead hlast
  · exact h.endCheckIfDue (h.same s _ (by constructor <;> simp) hs)
  · exact h.same s _ (by constructor <;> simp) hs

theorem lineAbort (ns : List NestId) (hs : P s) : P (s.lineAbort ns) := by
  unfold State.lineAbort
  split
  · exact h.settleActivation (h.abortAll ns hs)
  · exact hs

theorem lineStart (n : NestId) (hs : P s) : P (s.lineStart n) := by
  unfold State.lineStart
  split
  · exact h.same s _ (by constructor <;> simp) hs
  · exact h.same (s.acceptStart n) _ (by constructor <;> simp) (h.acceptStart n hs)

theorem presenceLoss (n : NestId) (hs : P s) : P (s.presenceLoss n) := by
  have hrelease {t : State} (ht : P t) : P (t.releaseUntested n) := h.same t _ (by constructor <;> simp) ht
  have habort : P (((s.abortAll [n]).releaseUntested n).settleActivation) :=
    h.settleActivation (hrelease (h.abortAll [n] hs))
  unfold State.presenceLoss
  split
  · exact hs
  · exact hrelease hs
  · exact habort
  · exact habort
  · exact habort
  · exact h.same s _ (by constructor <;> simp [State.dropWaiting]) hs
  · exact h.same s _ (by constructor <;> simp) hs

theorem edge (f : InputFunction) (level : Bool) (hs : P s) : P (s.edge f level) := by
  unfold State.edge
  split
  · exact h.presenceLoss _ hs
  · exact h.lineAbort _ hs
  · exact h.lineAbort _ hs
  · exact h.lineAbort _ hs
  · exact h.lineStart _ hs
  all_goals exact hs

theorem answer (p : PortId) (st : Status) (sub : Nat) (body : List Byte) (hs : P s) : P (s.answer p st sub body) :=
  h.same s _ (by constructor <;> simp) hs

theorem takeAbortNest (p : PortId) (q : Vector Byte 64) (hs : P s) : P (takeAbortNest p q s) := by
  unfold Machine.takeAbortNest
  split
  · exact h.answer p _ _ _ hs
  · split
    · exact h.answer p _ _ _ (h.settleActivation (h.abortAll _ hs))
    · exact h.answer p _ _ _ hs

theorem takeStartNest (p : PortId) (q : Vector Byte 64) (hs : P s) : P (takeStartNest p q s) := by
  unfold Machine.takeStartNest
  split
  · exact h.answer p _ _ _ hs
  next n _ =>
    split
    · exact h.answer p _ _ _ hs
    · exact h.answer p _ _ _ (h.acceptStart n hs)

theorem takeLineEvent (p : PortId) (q : Vector Byte 64) (hs : P s) : P (takeLineEvent p q s) := by
  have hset (l : Lines) : P { s with lines := l } := h.same s _ (by constructor <;> rfl) hs
  unfold Machine.takeLineEvent
  dsimp only
  split
  · exact h.answer p _ _ _ hs
  · split_ifs
    · exact h.answer p _ _ _ hs
    · exact h.answer p _ _ _ hs
    · exact h.answer p _ _ _ (h.lineStart _ hs)
  · split_ifs
    · exact h.answer p _ _ _ hs
    · exact h.answer p _ _ _ hs
    · exact h.answer p _ _ _ (hset _)
    · exact h.answer p _ _ _ (h.edge _ _ (hset _))

theorem abandonCheck (p : PortId) (hs : P s) : P (s.abandonCheck p) := by
  have hsilent : P s.silence := h.same s _ (by constructor <;> rfl) hs
  unfold State.abandonCheck
  split
  · refine h.settleActivation (h.grantHead ?_)
    exact h.same (s.silence.freeWindows .check) _ (by constructor <;> simp [State.endAbandoned]) (h.freeWindows _ hsilent)
  · exact h.same s _ (by constructor <;> simp [State.endAbandoned]) hs

end KeptByFreeing
end

/-! ### Requests that leave the engine and the halves -/

theorem takeCalibrate_sameWindows (p : PortId) (q : Vector Byte 64) (s : State) : s.SameWindows (takeCalibrate p q s) := by
  unfold takeCalibrate
  dsimp only
  by_cases hc : s.nestHoldsChain = true
  · constructor <;> simp [hc]
  · constructor <;> simp [hc]

/-- Of the requests only these reach the engine or a half: CHAIN CHECK, START NEST, LINE EVENT, ABORT NEST and STATION RESET. -/
theorem takeOf_sameWindows {r : Request} (hr : readsOnly r = false)
    (hne : r ≠ .chainCheck ∧ r ≠ .startNest ∧ r ≠ .lineEvent ∧ r ≠ .abortNest ∧ r ≠ .stationReset) (p : PortId)
    (q : Vector Byte 64) (s : State) : s.SameWindows (takeOf r p q s) := by
  cases r <;> simp only [readsOnly, ne_eq, not_true_eq_false, false_and, and_false, reduceCtorEq] at hr hne
  case planOpen =>
    simp only [takeOf, takePlanOpen]
    split_ifs
    · constructor <;> simp
    · constructor <;> simp
    · split <;> constructor <;> simp
  case planData =>
    simp only [takeOf, takePlanData]
    split
    · constructor <;> simp
    · split <;> constructor <;> simp
  case planClose =>
    simp only [takeOf, takePlanClose]
    split <;> constructor <;> simp
  case planActivate =>
    simp only [takeOf, takePlanActivate]
    split
    · split <;> constructor <;> simp
    all_goals constructor <;> simp
  case planRevoke =>
    simp only [takeOf, takePlanRevoke]
    split <;> constructor <;> simp
  case calibrate => exact takeCalibrate_sameWindows p q s
  case serialBase =>
    simp only [takeOf, takeSerialBase]
    split <;> constructor <;> simp
  case closeShift => constructor <;> simp [takeOf, takeCloseShift]
  case markerStart =>
    simp only [takeOf, takeMarkerStart]
    split_ifs <;> constructor <;> simp
  case loadUnit =>
    simp only [takeOf, takeLoadUnit, State.loadNew, State.loadRetest, State.loadReference]
    repeat' split
    all_goals constructor <;> simp
  case releaseNest =>
    simp only [takeOf, takeReleaseNest]
    split
    · constructor <;> simp
    · split <;> constructor <;> simp
  case reprint =>
    simp only [takeOf, takeReprint]
    split
    · constructor <;> simp
    · split
      · constructor <;> simp
      · split <;> constructor <;> simp
  case abandon => constructor <;> rfl


/-! ### The law of the engine's queue -/

/-- The engine's queue and the halves agree, but that an IDLE engine may still have QUEUED halves to begin (R70, R77, R78). -/
structure State.QueueAgrees (s : State) : Prop where
  queued : ∀ h ∈ s.engine.queue, s.engine.under ≠ some h → (s.half h).state = .queued
  busy   : ∀ h, s.engine.under = some h → s.engine.queue.head? = some h ∧ (s.half h).state = .inAnalysis
  once   : s.engine.queue.Nodup
  holds  : ∀ h, h ∈ s.engine.queue ↔ (s.half h).state = .queued ∨ (s.half h).state = .inAnalysis

theorem engineSound_iff (s : State) :
    s.EngineSound ↔ s.QueueAgrees ∧ (s.engine.under = none → s.engine.queue = []) := by
  constructor
  · intro hs
    refine ⟨⟨fun h hh hu => ?_, hs.busy, hs.once, hs.holds⟩, hs.idle⟩
    cases hunder : s.engine.under with
    | none => simp [hs.idle hunder] at hh
    | some k =>
      obtain ⟨hhead, -⟩ := hs.busy k hunder
      refine hs.behind h ?_
      rw [List.head?_eq_some_iff] at hhead
      obtain ⟨tail, htail⟩ := hhead
      rw [htail] at hh ⊢
      have hk : h ≠ k := fun e => hu (e ▸ hunder)
      simpa [hk] using hh
  · intro ⟨hs, hidle⟩
    refine ⟨hidle, hs.busy, fun h hh => hs.queued h (List.mem_of_mem_tail hh) fun hu => ?_, hs.once, hs.holds⟩
    obtain ⟨hhead, -⟩ := hs.busy h hu
    rw [List.head?_eq_some_iff] at hhead
    obtain ⟨tail, htail⟩ := hhead
    have hnodup := hs.once
    rw [htail] at hh hnodup
    exact (List.nodup_cons.mp hnodup).1 hh

theorem State.SameWindows.half {s t : State} (e : s.SameWindows t) (h : HalfId) : t.half h = s.half h := by
  cases h <;> simp [State.half, e.half0, e.half1]

namespace State.QueueAgrees
variable {s t : State}

theorem congr (hs : s.QueueAgrees) (e : s.SameWindows t) : t.QueueAgrees := by
  obtain ⟨hq, hb, ho, hh⟩ := hs
  constructor <;> simp only [e.engine, e.half] <;> assumption

theorem freeOne (hs : s.QueueAgrees) (h : HalfId) (hu : s.engine.under ≠ some h) : (s.freeOne h).QueueAgrees := by
  have hqueue : (s.freeOne h).engine.queue = s.engine.queue.filter (· ≠ h) := by simp [State.freeOne]
  have hunder : (s.freeOne h).engine.under = s.engine.under := by simp [State.freeOne]
  have hother {k : HalfId} (hk : k ≠ h) : (s.freeOne h).half k = s.half k := by rw [freeOne_half, if_neg hk]
  refine ⟨fun k hk hku => ?_, fun k hk => ?_, hqueue ▸ hs.once.filter _, fun k => ?_⟩
  · rw [hqueue, List.mem_filter] at hk
    rw [hother (by simpa using hk.2)]
    exact hs.queued k hk.1 (hunder ▸ hku)
  · rw [hunder] at hk
    have hkh : k ≠ h := fun e => hu (e ▸ hk)
    obtain ⟨hhead, hstate⟩ := hs.busy k hk
    rw [List.head?_eq_some_iff] at hhead
    obtain ⟨tail, htail⟩ := hhead
    refine ⟨?_, (hother hkh).symm ▸ hstate⟩
    rw [hqueue, htail]
    simp [hkh]
  · rw [hqueue, freeOne_half]
    by_cases hkh : k = h
    · simp [hkh]
    · simpa [hkh] using hs.holds k

theorem not_under (hs : s.QueueAgrees) {h : HalfId} (hf : (s.half h).state = .filling ∨ (s.half h).state = .queued) :
    s.engine.under ≠ some h := by
  intro hu
  have := (hs.busy h hu).2
  rcases hf with hf | hf <;> rw [hf] at this <;> contradiction

theorem keptByFreeing : KeptByFreeing State.QueueAgrees where
  same _ _ e hs := hs.congr e
  freeOne _ h hf hs := hs.freeOne h (hs.not_under hf)

theorem beginAnalysis (hs : s.QueueAgrees) : s.beginAnalysis.EngineSound := by
  unfold State.beginAnalysis
  split
  next h rest hunder hqueue =>
    have hstate : (s.half h).state = .queued := hs.queued h (by simp [hqueue]) (by simp [hunder])
    rw [if_pos hstate]
    have hhalf (k : HalfId) : ((s.modHalf h fun x => { x with state := .inAnalysis }).half k).state =
        if k = h then .inAnalysis else (s.half k).state := by
      cases h <;> cases k <;> rfl
    refine (engineSound_iff _).mpr ⟨⟨fun k hk hku => ?_, fun k hk => ?_, hs.once, fun k => ?_⟩, fun hu => by simp at hu⟩
    · have hkh : k ≠ h := fun e => hku (e ▸ rfl)
      refine (hhalf k).trans ?_
      rw [if_neg hkh]
      exact hs.queued k hk (by simp [hunder])
    · obtain rfl : h = k := Option.some.inj hk
      exact ⟨by simp [hqueue], (hhalf h).trans (if_pos rfl)⟩
    · have hholds := hs.holds k
      by_cases hkh : k = h
      · subst hkh
        exact iff_of_true (by simp [hqueue]) (.inr ((hhalf k).trans (if_pos rfl)))
      · have hstate' := (hhalf k).trans (if_neg hkh)
        exact hholds.trans (by rw [← hstate']; rfl)
  next hne =>
    refine (engineSound_iff s).mpr ⟨hs, fun hu => ?_⟩
    cases hqueue : s.engine.queue with
    | nil => rfl
    | cons h rest => exact (hne h rest hu hqueue).elim

theorem queueHalf (hs : s.QueueAgrees) {h : HalfId} (hf : (s.half h).state = .filling) : (s.queueHalf h).QueueAgrees := by
  have hnot : h ∉ s.engine.queue := fun hh => by
    rcases (hs.holds h).mp hh with e | e <;> rw [hf] at e <;> contradiction
  have hhalf (k : HalfId) : ((s.queueHalf h).half k).state = if k = h then .queued else (s.half k).state := by
    cases h <;> cases k <;> rfl
  have hqueue : (s.queueHalf h).engine.queue = s.engine.queue ++ [h] := by simp [State.queueHalf]
  have hunder : (s.queueHalf h).engine.under = s.engine.under := by simp [State.queueHalf]
  refine ⟨fun k hk hku => ?_, fun k hk => ?_, ?_, fun k => ?_⟩
  · rw [hhalf]
    split
    · rfl
    next hkh =>
      rw [hqueue, List.mem_append, List.mem_singleton] at hk
      exact hs.queued k (hk.resolve_right hkh) (hunder ▸ hku)
  · rw [hunder] at hk
    obtain ⟨hhead, hstate⟩ := hs.busy k hk
    have hkh : k ≠ h := fun e => by rw [e, hf] at hstate; contradiction
    refine ⟨?_, by rw [hhalf, if_neg hkh]; exact hstate⟩
    rw [hqueue, List.head?_append, hhead]
    rfl
  · rw [hqueue, List.nodup_append]
    exact ⟨hs.once, List.nodup_singleton h, fun a ha b hb e => hnot (by simp at hb; rw [← hb, ← e]; exact ha)⟩
  · rw [hqueue, hhalf]
    by_cases hkh : k = h
    · simp [hkh]
    · simpa [hkh] using hs.holds k

end State.QueueAgrees

namespace State.EngineSound
variable {s t : State}

theorem agrees (hs : s.EngineSound) : s.QueueAgrees := ((engineSound_iff s).mp hs).1

theorem congr_states (hs : s.EngineSound) (he : t.engine = s.engine) (hstate : ∀ h, (t.half h).state = (s.half h).state) :
    t.EngineSound := by
  obtain ⟨hi, hb, hbe, ho, hh⟩ := hs
  constructor <;> simp only [he, hstate] <;> assumption

theorem congr (hs : s.EngineSound) (e : s.SameWindows t) : t.EngineSound :=
  hs.congr_states e.engine fun h => by rw [e.half]

theorem freeOne (hs : s.EngineSound) {h : HalfId} (hf : (s.half h).state = .filling ∨ (s.half h).state = .queued) :
    (s.freeOne h).EngineSound := by
  refine (engineSound_iff _).mpr ⟨hs.agrees.freeOne h (hs.agrees.not_under hf), fun hu => ?_⟩
  have hqueue := hs.idle (by simpa [State.freeOne] using hu)
  simp [State.freeOne, hqueue]

theorem keptByFreeing : KeptByFreeing State.EngineSound where
  same _ _ e hs := hs.congr e
  freeOne _ _ hf hs := hs.freeOne hf

theorem of_free (hu : s.engine.under = none) (hq : s.engine.queue = []) (hf : ∀ h, (s.half h).state = .free) :
    s.EngineSound := by
  constructor <;> simp [hu, hq, hf]

theorem decideWindow (hs : s.EngineSound) {i : HalfId} (hf : (s.half i).state = .filling) : (s.decideWindow i).EngineSound := by
  have hfreed : (s.freeOne i).EngineSound := hs.freeOne (.inl hf)
  have hclean : (s.endClean i).EngineSound :=
    ((hs.agrees.queueHalf hf).congr (stepOn_sameWindows _)).beginAnalysis
  have hended (n : NestId) (g : BitVec 16) (r : PointRecord) (f : Counts → Counts) :
      (((s.freeOne i).offerRecord n g r).count f).stepOn.EngineSound := by
    refine congr ?_ (stepOn_sameWindows _)
    exact (keptByFreeing.offerRecord n g r hfreed).congr (by constructor <;> rfl)
  unfold State.decideWindow
  dsimp only
  split
  · exact hclean
  · exact hs
  · split_ifs
    · exact hended _ _ _ _
    · exact hfreed.congr (by constructor <;> rfl)
    · exact hended _ _ _ _
    · exact hclean

theorem completeAnalysis (hs : s.EngineSound) {i : HalfId} (hu : s.engine.under = some i) : (s.completeAnalysis i).EngineSound := by
  obtain ⟨hhead, -⟩ := hs.busy i hu
  have hfreed : (State.freeOne i { s with engine := s.engine.finished (analyse (s.half i)) (s.half i).length }).QueueAgrees := by
    have hqueue : (State.freeOne i { s with engine := s.engine.finished (analyse (s.half i)) (s.half i).length }).engine.queue =
      s.engine.queue.filter (· ≠ i) := by simp [State.freeOne, Engine.finished]
    have hhalf (k : HalfId) : (State.freeOne i
        { s with engine := s.engine.finished (analyse (s.half i)) (s.half i).length }).half k =
        if k = i then { s.half i with state := .free } else s.half k := by
      rw [freeOne_half]
      rfl
    refine ⟨fun k hk _ => ?_, fun k hk => ?_, hqueue ▸ hs.once.filter _, fun k => ?_⟩
    · rw [hqueue, List.mem_filter] at hk
      have hki : k ≠ i := by simpa using hk.2
      rw [hhalf, if_neg hki]
      exact hs.agrees.queued k hk.1 fun e => hki (Option.some.inj (e.symm.trans hu))
    · exact absurd hk (by simp [State.freeOne, Engine.finished])
    · rw [hqueue, hhalf]
      by_cases hki : k = i
      · simp [hki]
      · simpa [hki] using hs.holds k
  exact (State.QueueAgrees.keptByFreeing.handOver _ _ hfreed).beginAnalysis

theorem beginIfDue (hs : s.EngineSound) : s.beginIfDue.EngineSound := by
  unfold State.beginIfDue
  split
  next h c _ hfree _ =>
    have hstate := freeHalf_state hfree
    have hnot : h ∉ s.engine.queue := fun hh => by
      rcases (hs.holds h).mp hh with e | e <;> rw [hstate] at e <;> contradiction
    have hhalf (k : HalfId) : ((s.beginWindow c h).half k).state = if k = h then .filling else (s.half k).state := by
      cases h <;> cases k <;> rfl
    have hengine : (s.beginWindow c h).engine = s.engine := by simp
    have hother {k : HalfId} (hk : k ∈ s.engine.queue) : ((s.beginWindow c h).half k).state = (s.half k).state := by
      rw [hhalf, if_neg]
      rintro rfl
      exact hnot hk
    refine (engineSound_iff _).mpr ⟨⟨fun k hk hku => ?_, fun k hk => ?_, hengine ▸ hs.once, fun k => ?_⟩, ?_⟩
    · rw [hengine] at hk hku
      exact (hother hk).trans (hs.agrees.queued k hk hku)
    · rw [hengine] at hk ⊢
      obtain ⟨hhead, hk'⟩ := hs.busy k hk
      exact ⟨hhead, (hother (List.mem_of_mem_head? hhead)).trans hk'⟩
    · rw [hengine, hhalf]
      by_cases hkh : k = h
      · simp [hkh, hnot]
      · simpa [hkh] using hs.holds k
    · rw [hengine]
      exact hs.idle
  · exact hs

theorem keptByEvents : KeptByEvents State.EngineSound where
  queue _ _ hs := hs.congr (by constructor <;> rfl)
  hold _ _ hs := hs.congr (by constructor <;> rfl)
  stopped _ _ := of_free rfl rfl fun h => by cases h <;> rfl
  released _ _ _ := of_free rfl rfl fun h => by cases h <;> rfl
  pins _ _ _ hs := hs.congr (by constructor <;> rfl)
  edge _ f level hs := keptByFreeing.edge f level hs
  window _ _ _ _ hs := hs.congr (by constructor <;> simp)
  begun _ _ _ _ _ _ hs := hs.congr (by constructor <;> simp [State.begun])
  answered _ _ _ _ _ _ _ hs := hs.congr (by constructor <;> simp)
  answer _ _ _ _ _ _ hs := hs.congr (by constructor <;> simp)
  spend _ _ hs := hs.congr (by constructor <;> rfl)
  readEvents _ _ hs := hs.congr (by constructor <;> simp)
  taken s p r params hr _ hs := by
    have ht : (s.modPort p Port.markTaken).EngineSound := hs.congr (by constructor <;> simp)
    by_cases hne : r ≠ .chainCheck ∧ r ≠ .startNest ∧ r ≠ .lineEvent ∧ r ≠ .abortNest ∧ r ≠ .stationReset
    · exact ht.congr (takeOf_sameWindows hr hne p params _)
    · cases r <;> try simp at hne
      · exact keptByFreeing.joinQueue .check ht
      · simp only [takeOf, takeStationReset]
        obtain ⟨f, hf⟩ := endLineRequest_eq_modPort (s.modPort p Port.markTaken).resetBlocks
        rw [hf]
        exact congr (s := (s.modPort p Port.markTaken).resetBlocks) (of_free rfl rfl fun h => by cases h <;> rfl)
          (by constructor <;> simp)
      · exact keptByFreeing.takeLineEvent p params ht
      · exact keptByFreeing.takeStartNest p params ht
      · exact keptByFreeing.takeAbortNest p params ht
  abandoned s p hs := by
    apply abandonRequest_kept
    · exact fun _ => hs.congr (by constructor <;> simp)
    · exact fun _ => hs.congr (by constructor <;> simp [State.endAbandoned])
    · exact fun _ => hs.congr (by constructor <;> simp [State.abandonClose, State.endAbandoned])
    · exact fun _ => keptByFreeing.abandonCheck p hs
    · intro _
      refine hs.congr ?_
      unfold State.abandonMarker State.endAbandoned
      dsimp only
      split <;> constructor <;> simp
  checks s _ hs := by
    rw [endChecks_eq]
    refine hs.congr ?_
    unfold State.checked
    split <;> constructor <;> simp
  burst _ hs := hs.congr (by constructor <;> simp)
  samples _ _ _ _ hs := hs.congr (by constructor <;> rfl)
  opens _ hs := hs.beginIfDue
  closes s i samples hi hs := by
    have hstate (k : HalfId) : ((s.modHalf i (Half.recorded s.straps.ambient samples)).half k).state = (s.half k).state := by
      cases i <;> cases k <;> rfl
    exact decideWindow (hs.congr_states (by simp) hstate) ((hstate i).trans (fillingHalf_state hi))
  fades _ hs := keptByFreeing.endFadeOut hs
  completion _ _ hu hs := hs.completeAnalysis hu
  bus _ _ _ hs := hs.congr (by constructor <;> rfl)
  probe _ d r hs := by
    refine hs.congr ?_
    cases r <;> constructor <;> simp [State.probeOutcome]
  start _ hs := hs.congr (by constructor <;> simp)
  page s d r hs := by
    refine hs.congr ?_
    unfold State.pageLive State.pageAccepted State.linkLoss
    dsimp only
    split
    · split <;> constructor <;> simp
    · constructor <;> rfl
    · constructor <;> simp
    · split
      · constructor <;> rfl
      · split <;> constructor <;> simp
  timeout _ hs := hs.congr (by constructor <;> simp)

end State.EngineSound

/-- Settles O57: the lists by `KeptByOps`, the engine's queue by the events that free, queue, begin and complete a half. -/
theorem stepKeepsTheLists : Obligations.StepKeepsTheLists :=
  ⟨fun _ _ e hb hl => step_keeps_lists e hb hl, fun _ _ e hs => State.EngineSound.keptByEvents.step e hs⟩

end Sys2Proof.Machine
end

section
/-! SUPPORT. A law that is kept by the latching of events, by changes of the Marker Controller outside its wait list and by the
admission of a waiting nest is kept by all that the marker link does. -/

namespace Sys2Proof.Machine
open Sys2Proof

structure KeptByMarkerOps (P : State → Prop) : Prop where
  marker : ∀ s f, (f s.marker).waitList = s.marker.waitList → P s → P (s.modMarker f)
  events : ∀ s e, P s → P (s.latchBoth e)
  admits : ∀ s, P s → P s.admitWaiting

section
variable {P : State → Prop} (h : KeptByMarkerOps P) {s : State}
include h

namespace KeptByMarkerOps

theorem failHead (hs : P s) (cause : JobFault) : P (s.failHead cause) := by
  unfold State.failHead
  split
  · exact hs
  · exact h.admits _ (h.marker _ _ rfl (h.events _ _ (h.marker s _ rfl hs)))

theorem makeHead (hs : P s) (k : Nat) : P (s.makeHead k) := by
  induction k generalizing s with
  | zero => exact hs
  | succ k ih =>
    unfold State.makeHead
    split
    · exact hs
    · dsimp only
      split
      · exact h.marker _ _ rfl (h.marker s _ rfl hs)
      · exact ih (h.failHead (h.marker s _ rfl hs) _)

theorem nextHead (hs : P s) : P s.nextHead := h.makeHead hs _

theorem completeHead (hs : P s) (d : Nat) : P (s.completeHead d) := by
  unfold State.completeHead
  split
  · exact hs
  · exact h.nextHead (h.admits _ (h.marker _ _ rfl (h.marker s _ rfl hs)))

theorem rematchHead (hs : P s) : P s.rematchHead := by
  unfold State.rematchHead
  split
  · exact hs
  · dsimp only
    split
    · exact h.marker _ _ rfl (h.marker s _ rfl hs)
    · exact h.nextHead (h.failHead (h.marker s _ rfl hs) _)

theorem startBus (hs : P s) : P s.startBus := by
  obtain ⟨f, hf, e⟩ := startBus_eq_modMarker s
  exact e ▸ h.marker s f (hf _).2.1 hs

theorem remapMarker (hs : P s) : P s.remapMarker := h.startBus (h.nextHead (h.marker s _ rfl hs))

theorem enqueue (hs : P s) (j : Job) : P (s.enqueue j) := by
  unfold State.enqueue
  refine h.startBus ?_
  split
  · exact h.nextHead (h.marker s _ rfl hs)
  · exact h.marker s _ rfl hs

theorem faultDevice (hs : P s) (d : Nat) (cause : DeviceFault) : P (s.faultDevice d cause) := by
  have hfault := h.events _ .markerFault (h.marker s (Marker.modDevice d fun x => { x with state := .fault, cause := some cause }) rfl hs)
  unfold State.faultDevice
  dsimp only
  split
  · exact h.rematchHead hfault
  · exact hfault

theorem readyDevice (hs : P s) (d f : Nat) : P (s.readyDevice d f) := by
  have hready := h.marker s (Marker.modDevice d fun x => { x with state := .ready, resolved := some f, toggle := false }) rfl hs
  unfold State.readyDevice
  dsimp only
  split
  · exact h.marker _ _ rfl hready
  · exact hready

theorem probeOutcome (hs : P s) (d : Nat) (r : ProbeResult) : P (s.probeOutcome d r) := by
  cases r with
  | nak =>
    have hcounted := h.marker s (Marker.modDevice d fun x => { x with naks := x.naks + 1 }) rfl hs
    simp only [State.probeOutcome, State.probeNak]
    split
    · exact h.marker _ _ rfl hcounted
    · exact h.faultDevice hcounted d _
  | page v f m k =>
    have hread := h.marker s (Marker.modDevice d fun x => { x with abilities := some ⟨v, f, m, k⟩ }) rfl hs
    simp only [State.probeOutcome, State.probePage]
    split
    · exact h.faultDevice hread d _
    · split
      · exact h.faultDevice hread d _
      · exact h.readyDevice hread d _

theorem pageLive (hs : P s) (d : Nat) (r : PageResult) : P (s.pageLive d r) := by
  have hfail (c : JobFault) : P (s.failHead c).nextHead := h.nextHead (h.failHead hs c)
  unfold State.pageLive
  split
  · have hflip := h.marker s (Marker.modDevice d fun x => { x with toggle := !x.toggle }) rfl hs
    unfold State.pageAccepted
    dsimp only
    split
    · exact h.marker _ _ rfl hflip
    · exact h.completeHead hflip d
  · exact h.marker s _ rfl hs
  · exact hfail _
  · unfold State.linkLoss
    split
    · exact hs
    · split
      · exact h.marker s _ (keepsJobs_negotiate d _).2.1 hs
      · exact h.marker _ _ (keepsJobs_negotiate d _).2.1 (hfail _)

end KeptByMarkerOps
end

end Sys2Proof.Machine
end

section
/-! SUPPORT. What each operation leaves of the requests in the ports' slots, and of the marks of lost transactions. -/

namespace Sys2Proof.Machine
open Sys2Proof

/-- From `s` to `t` each port keeps its slot, the request in it and the mark of a lost transaction. -/
def State.SameRequests (s t : State) : Prop :=
  ∀ p, (t.port p).slot = (s.port p).slot ∧ (t.port p).running = (s.port p).running ∧ (t.port p).lost = (s.port p).lost

theorem State.OnlyEvents.sameRequests {s t : State} (h : s.OnlyEvents t) : s.SameRequests t :=
  fun p => ⟨h.slot p, h.running p, h.lost p⟩

namespace State.SameRequests
variable {s t u : State}

theorem refl (s : State) : s.SameRequests s := fun _ => ⟨rfl, rfl, rfl⟩

theorem of_eq (hs : t.station = s.station) (hl : t.line = s.line) : s.SameRequests t :=
  fun p => by cases p <;> simp [State.port, hs, hl]

theorem trans (h : s.SameRequests t) (h' : t.SameRequests u) : s.SameRequests u :=
  fun p => ⟨(h' p).1.trans (h p).1, (h' p).2.1.trans (h p).2.1, (h' p).2.2.trans (h p).2.2⟩

theorem runs (h : s.SameRequests t) (p : PortId) (r : Request) : t.runs p r = s.runs p r := by
  simp only [State.runs, (h p).2.1]

theorem modPort (p : PortId) (f : Port → Port) (hf : ∀ q, (f q).slot = q.slot ∧ (f q).running = q.running ∧ (f q).lost = q.lost)
    (s : State) : s.SameRequests (s.modPort p f) :=
  fun r => by cases p <;> cases r <;> simp [State.port, State.modPort, hf]

theorem latchBoth (e : Event) (s : State) : s.SameRequests (s.latchBoth e) := (OnlyEvents.latchBoth e s).sameRequests

theorem withdraw (s : State) : s.SameRequests s.withdraw := fun p => by cases p <;> exact ⟨rfl, rfl, rfl⟩

theorem spendVerification (s : State) : s.SameRequests s.spendVerification := by
  unfold State.spendVerification
  dsimp only
  split
  · exact refl s
  · split <;> exact fun p => by cases p <;> exact ⟨rfl, rfl, rfl⟩

theorem countFails (v : Verdict) (s : State) : s.SameRequests (s.countFails v) := by
  cases v <;> simp only [State.countFails]
  · exact of_eq rfl rfl
  · split_ifs
    · exact of_eq rfl rfl
    · exact of_eq rfl rfl
    · exact (withdraw s).trans ((latchBoth _ _).trans (of_eq rfl rfl))
  · exact refl s

theorem addRing (e : RingEntry) (s : State) : s.SameRequests (s.addRing e) := (OnlyEvents.addRing e s).sameRequests

theorem takeOutcome (n : NestId) (o : OutcomeClass) (v : Verdict) (bin : Nat) (s : State) :
    s.SameRequests (s.takeOutcome n o v bin) := by
  have hcount : s.SameRequests (s.count (Counts.addVerdict o v bin)) := of_eq rfl rfl
  have hset (t : State) : t.SameRequests (t.modUnits (UnitTable.setHeld n none)) := of_eq rfl rfl
  have hinsert (t : State) (e : RetestEntry) : t.SameRequests (t.insertRetest e) := (OnlyEvents.insertRetest e t).sameRequests
  unfold State.takeOutcome
  dsimp only
  refine trans ?_ (countFails v _)
  split
  · split
    · exact hcount.trans ((addRing _ _).trans ((hset _).trans (hinsert _ _)))
    · exact hcount.trans ((hset _).trans (hinsert _ _))
  · split
    · exact hcount.trans ((addRing _ _).trans (hset _))
    · exact hcount.trans (hset _)

theorem referenceVerdict (n : NestId) (v : Verdict) (s : State) : s.SameRequests (s.referenceVerdict n v) := by
  cases v <;> simp only [State.referenceVerdict]
  · split <;> exact of_eq rfl rfl
  · exact (of_eq rfl rfl : s.SameRequests (s.modUnits _)).trans (latchBoth _ _)
  · exact (of_eq rfl rfl : s.SameRequests (s.modUnits _)).trans (latchBoth _ _)

theorem enqueue (j : Job) (s : State) : s.SameRequests (s.enqueue j) := by
  unfold State.enqueue
  dsimp only
  refine trans ?_ (OnlyEvents.startBus _).sameRequests
  split
  · exact (of_eq rfl rfl : s.SameRequests (s.modMarker _)).trans (OnlyEvents.nextHead _).sameRequests
  · exact of_eq rfl rfl

theorem modNest (n : NestId) (f : Nest → Nest) (s : State) : s.SameRequests (s.modNest n f) := of_eq (by simp) (by simp)

theorem offerJob (n : NestId) (j : Job) (s : State) : s.SameRequests (s.offerJob n j) := by
  unfold State.offerJob
  split
  · exact (modNest n _ s).trans (enqueue j _)
  · exact (modNest n _ s).trans (of_eq rfl rfl)

theorem makeVerdict (n : NestId) (s : State) : s.SameRequests (s.makeVerdict n) := by
  unfold State.makeVerdict
  split
  · exact refl s
  next c _ =>
    refine trans ?_ (latchBoth _ _)
    split
    · unfold State.referenceUnitVerdict
      exact (modNest n _ s).trans ((of_eq rfl rfl : SameRequests _ (State.count _ _)).trans
        ((referenceVerdict n _ _).trans (modNest n _ _)))
    · have hruled : s.SameRequests (s.ruled n c) :=
        (modNest n _ s).trans ((modNest n _ _).trans (takeOutcome n _ _ _ _))
      rw [productionVerdict_eq]
      split
      · exact hruled.trans (offerJob n _ _)
      · exact hruled.trans (modNest n _ _)

theorem acceptStart (n : NestId) (s : State) : s.SameRequests (s.acceptStart n) := by
  have hjoin (t : State) : t.SameRequests ((t.modNest n fun x => { x with state := .waiting }).joinQueue (.nest n)) :=
    of_eq (by simp) (by simp)
  unfold State.acceptStart
  dsimp only
  split
  · exact (spendVerification s).trans (hjoin _)
  · exact hjoin s

theorem rematchHead (s : State) : s.SameRequests s.rematchHead := by
  unfold State.rematchHead
  split
  · exact refl s
  · dsimp only
    split
    · exact of_eq rfl rfl
    · exact (of_eq rfl rfl : s.SameRequests (s.modMarker _)).trans
        ((OnlyEvents.failHead _ _).sameRequests.trans (OnlyEvents.nextHead _).sameRequests)

theorem faultDevice (d : Nat) (cause : DeviceFault) (s : State) : s.SameRequests (s.faultDevice d cause) := by
  have hfault := (of_eq rfl rfl : s.SameRequests (s.modMarker (Marker.modDevice d fun x =>
    { x with state := .fault, cause := some cause }))).trans (latchBoth .markerFault _)
  unfold State.faultDevice
  dsimp only
  split
  · exact hfault.trans (rematchHead _)
  · exact hfault

theorem probeOutcome (d : Nat) (r : ProbeResult) (s : State) : s.SameRequests (s.probeOutcome d r) := by
  have hmark (t : State) (f : Marker → Marker) : t.SameRequests (t.modMarker f) := of_eq rfl rfl
  cases r with
  | nak =>
    simp only [State.probeOutcome, State.probeNak]
    split
    · exact (hmark s _).trans (hmark _ _)
    · exact (hmark s _).trans (faultDevice d _ _)
  | page v f m k =>
    simp only [State.probeOutcome, State.probePage]
    split
    · exact (hmark s _).trans (faultDevice d _ _)
    · split
      · exact (hmark s _).trans (faultDevice d _ _)
      · exact of_eq (by simp) (by simp)

theorem pageLive (d : Nat) (r : PageResult) (s : State) : s.SameRequests (s.pageLive d r) := by
  have hfail (c : JobFault) : s.SameRequests (s.failHead c).nextHead :=
    (OnlyEvents.failHead c s).sameRequests.trans (OnlyEvents.nextHead _).sameRequests
  unfold State.pageLive
  split
  · unfold State.pageAccepted
    dsimp only
    split
    · exact of_eq rfl rfl
    · exact (of_eq rfl rfl : s.SameRequests (s.modMarker _)).trans (OnlyEvents.completeHead d _).sameRequests
  · exact of_eq rfl rfl
  · exact hfail _
  · unfold State.linkLoss
    split
    · exact refl s
    · split
      · exact of_eq rfl rfl
      · exact (hfail _).trans (of_eq rfl rfl)

end State.SameRequests
end Sys2Proof.Machine
end

section
/-! SUPPORT. Nests, chain, generator and wait list agree through every operation. -/

namespace Sys2Proof.Machine
open Sys2Proof

/-- What a nest record keeps to (R37, R58, R107). -/
structure Nest.RecordSound (x : Nest) : Prop where
  skipped : x.hasStatus .skipped = true → x.detected ≠ []
  unruled : x.state = .measuring ∨ x.state = .analysing → x.verdict = none
  pass    : x.verdict = some .pass → x.detected = [] ∧
    ∀ y, some y ∈ x.slots → y.status ≠ .overload ∧ y.status ≠ .noisy ∧ y.status ≠ .skipped

theorem recordsSound_iff (s : State) : s.RecordsSound ↔ ∀ n, (s.nest n).RecordSound :=
  ⟨fun h n => ⟨h.skipped n, h.unruled n, h.pass n⟩,
    fun h => ⟨fun n => (h n).skipped, fun n => (h n).unruled, fun n => (h n).pass⟩⟩

/-- Who holds the chain, who waits, who is measured and who waits for a place in the label queue agree; a CHAIN CHECK is in the chain
exactly while it `runs`; and where `ρ` is asked for, the nest records are sound. A free chain may still have a queue. -/
structure State.NestsAgree (runs : Bool) (ρ : Prop) (s : State) : Prop where
  measuring : ∀ n, (s.nest n).state = .measuring ↔ s.chain.holder = some (.nest n)
  queued    : ∀ n, s.chain.queue.count (.nest n) = if (s.nest n).state = .waiting then 1 else 0
  generator : ∀ n, s.gen.claimant = some (.nest n) → s.chain.holder = some (.nest n)
  waits     : ∀ n, s.marker.waitList.countP (fun w => w.nest = n) = if (s.nest n).state = .labelWait then 1 else 0
  check     : s.chain.queue.count .check = if runs = true ∧ s.chain.holder ≠ some .check then 1 else 0
  checking  : s.chain.holder = some .check → runs = true
  records   : ρ → ∀ n, (s.nest n).RecordSound

/-- From `s` to `t` the nests, the chain, the generator's claimant and the wait list stand. -/
structure State.SameNests (s t : State) : Prop where
  nestA    : t.nestA = s.nestA
  nestB    : t.nestB = s.nestB
  chain    : t.chain = s.chain
  claimant : t.gen.claimant = s.gen.claimant
  waitList : t.marker.waitList = s.marker.waitList

theorem State.SameNests.nest {s t : State} (h : s.SameNests t) (n : NestId) : t.nest n = s.nest n := by
  cases n <;> simp [State.nest, h.nestA, h.nestB]

namespace State.NestsAgree
variable {b : Bool} {ρ : Prop} {s t : State}

theorem congr (hs : s.NestsAgree b ρ) (h : s.SameNests t) : t.NestsAgree b ρ := by
  obtain ⟨h1, h2, h3, h4, h5, h6, h7⟩ := hs
  constructor <;> simp only [h.nest, h.chain, h.claimant, h.waitList] <;> assumption

/-- A nest record that changes while its nest is no more or less MEASURING, WAITING or in LABEL_WAIT. -/
theorem modNest (hs : s.NestsAgree b ρ) (n : NestId) (f : Nest → Nest)
    (hm : (f (s.nest n)).state = .measuring ↔ (s.nest n).state = .measuring)
    (hw : (f (s.nest n)).state = .waiting ↔ (s.nest n).state = .waiting)
    (hl : (f (s.nest n)).state = .labelWait ↔ (s.nest n).state = .labelWait)
    (hr : ρ → (s.nest n).RecordSound → (f (s.nest n)).RecordSound) : (s.modNest n f).NestsAgree b ρ := by
  refine ⟨fun k => ?_, fun k => ?_, fun k => ?_, fun k => ?_, ?_, ?_, fun h k => ?_⟩
  · by_cases e : k = n
    · subst e; simpa [hm] using hs.measuring k
    · simpa [State.modNest_nest_other _ _ _ e] using hs.measuring k
  · by_cases e : k = n
    · subst e; simpa [hw] using hs.queued k
    · simpa [State.modNest_nest_other _ _ _ e] using hs.queued k
  · simpa using hs.generator k
  · by_cases e : k = n
    · subst e; simpa [hl] using hs.waits k
    · simpa [State.modNest_nest_other _ _ _ e] using hs.waits k
  · simpa using hs.check
  · simpa using hs.checking
  · by_cases e : k = n
    · subst e; simpa using hr h (hs.records h k)
    · simpa [State.modNest_nest_other _ _ _ e] using hs.records h k

/-- A nest that is not MEASURING, WAITING or in LABEL_WAIT enters another such state. -/
theorem enter (hs : s.NestsAgree b ρ) (n : NestId) (f : Nest → Nest)
    (hold : (s.nest n).state ≠ .measuring ∧ (s.nest n).state ≠ .waiting ∧ (s.nest n).state ≠ .labelWait)
    (hnew : (f (s.nest n)).state ≠ .measuring ∧ (f (s.nest n)).state ≠ .waiting ∧ (f (s.nest n)).state ≠ .labelWait)
    (hr : ρ → (s.nest n).RecordSound → (f (s.nest n)).RecordSound) : (s.modNest n f).NestsAgree b ρ :=
  hs.modNest n f (iff_of_false hnew.1 hold.1) (iff_of_false hnew.2.1 hold.2.1) (iff_of_false hnew.2.2 hold.2.2) hr

/-- A nest joins the tail of the queue and is WAITING (R28). -/
theorem joins (hs : s.NestsAgree b ρ) (n : NestId) (f : Nest → Nest)
    (hold : (s.nest n).state ≠ .measuring ∧ (s.nest n).state ≠ .waiting ∧ (s.nest n).state ≠ .labelWait)
    (hnew : (f (s.nest n)).state = .waiting) (hr : ρ → (s.nest n).RecordSound → (f (s.nest n)).RecordSound) :
    ((s.modNest n f).modChain fun x => { x with queue := x.queue ++ [.nest n] }).NestsAgree b ρ := by
  refine ⟨fun k => ?_, fun k => ?_, fun k => ?_, fun k => ?_, ?_, ?_, fun h k => ?_⟩
  · by_cases e : k = n
    · subst e
      have := hs.measuring k
      simp only [hold.1, false_iff] at this
      simpa [hnew] using this
    · simpa [State.modNest_nest_other _ _ _ e] using hs.measuring k
  · by_cases e : k = n
    · subst e
      have := hs.queued k
      simp only [hold.2.1, if_false] at this
      simp [hnew, this]
    · have hne : ¬(n = k) := fun e' => e e'.symm
      simpa [State.modNest_nest_other _ _ _ e, List.count_append, List.count_singleton, hne] using hs.queued k
  · simpa using hs.generator k
  · by_cases e : k = n
    · subst e
      have := hs.waits k
      simp only [hold.2.2, if_false] at this
      simpa [hnew] using this
    · simpa [State.modNest_nest_other _ _ _ e] using hs.waits k
  · simpa [List.count_append, List.count_singleton] using hs.check
  · simpa using hs.checking
  · by_cases e : k = n
    · subst e; simpa using hr h (hs.records h k)
    · simpa [State.modNest_nest_other _ _ _ e] using hs.records h k

/-- A nest leaves the queue (R33). -/
theorem leaves (hs : s.NestsAgree b ρ) (n : NestId) (f : Nest → Nest) (hold : (s.nest n).state = .waiting)
    (hnew : (f (s.nest n)).state = .loaded) (hr : ρ → (s.nest n).RecordSound → (f (s.nest n)).RecordSound) :
    ((s.leaveQueue (.nest n)).modNest n f).NestsAgree b ρ := by
  have hl : (s.leaveQueue (.nest n)).modNest n f = (s.modNest n f).leaveQueue (.nest n) := by cases n <;> rfl
  rw [hl]
  refine ⟨fun k => ?_, fun k => ?_, fun k => ?_, fun k => ?_, ?_, ?_, fun h k => ?_⟩
  · by_cases e : k = n
    · subst e
      have := hs.measuring k
      simp only [hold, reduceCtorEq, false_iff] at this
      simpa [hnew, State.leaveQueue] using this
    · simpa [State.modNest_nest_other _ _ _ e, State.leaveQueue] using hs.measuring k
  · by_cases e : k = n
    · subst e
      simp [hnew, State.leaveQueue, List.count_eq_zero]
    · have hne : (Claimant.nest k ≠ Claimant.nest n) := fun e' => e (by injection e')
      have := hs.queued k
      simpa [State.modNest_nest_other _ _ _ e, State.leaveQueue, List.count_filter, hne] using this
  · simpa [State.leaveQueue] using hs.generator k
  · by_cases e : k = n
    · subst e
      have := hs.waits k
      simp only [hold, reduceCtorEq, if_false] at this
      simpa [hnew, State.leaveQueue] using this
    · simpa [State.modNest_nest_other _ _ _ e, State.leaveQueue] using hs.waits k
  · simpa [State.leaveQueue, List.count_filter] using hs.check
  · simpa [State.leaveQueue] using hs.checking
  · by_cases e : k = n
    · subst e; simpa [State.leaveQueue] using hr h (hs.records h k)
    · simpa [State.modNest_nest_other _ _ _ e, State.leaveQueue] using hs.records h k

/-- The test of the nest that holds the chain ends: the generator serves nobody and the chain is free (R33, R57). -/
theorem ends (hs : s.NestsAgree b ρ) (n : NestId) (f : Nest → Nest) (hold : (s.nest n).state = .measuring)
    (hnew : (f (s.nest n)).state = .loaded ∨ (f (s.nest n)).state = .analysing)
    (hr : ρ → (s.nest n).RecordSound → (f (s.nest n)).RecordSound)
    (hnest : ∀ k, t.nest k = (s.modNest n f).nest k) (hchain : t.chain = { s.chain with holder := none })
    (hgen : t.gen.claimant = none) (hwait : t.marker.waitList = s.marker.waitList) : t.NestsAgree b ρ := by
  have hholder : s.chain.holder = some (.nest n) := (hs.measuring n).mp hold
  refine ⟨fun k => ?_, fun k => ?_, fun k => ?_, fun k => ?_, ?_, ?_, fun h k => ?_⟩
  · rw [hnest, hchain]
    by_cases e : k = n
    · subst e; rcases hnew with hnew | hnew <;> simp [hnew]
    · rw [State.modNest_nest_other _ _ _ e, hs.measuring, hholder]
      simp [Ne.symm e]
  · rw [hnest, hchain]
    by_cases e : k = n
    · subst e
      have := hs.queued k
      rw [hold] at this
      rcases hnew with hnew | hnew <;> simpa [hnew] using this
    · simpa [State.modNest_nest_other _ _ _ e] using hs.queued k
  · simp [hgen]
  · rw [hnest, hwait]
    by_cases e : k = n
    · subst e
      have := hs.waits k
      rw [hold] at this
      rcases hnew with hnew | hnew <;> simpa [hnew] using this
    · simpa [State.modNest_nest_other _ _ _ e] using hs.waits k
  · simpa [hchain, hholder] using hs.check
  · simp [hchain]
  · rw [hnest]
    by_cases e : k = n
    · subst e; simpa using hr h (hs.records h k)
    · simpa [State.modNest_nest_other _ _ _ e] using hs.records h k

/-- A nest with a verdict waits for a place in the label queue (R155). -/
theorem waitsLabel (hs : s.NestsAgree b ρ) (n : NestId) (f : Nest → Nest) (j : Job)
    (hold : (s.nest n).state ≠ .measuring ∧ (s.nest n).state ≠ .waiting ∧ (s.nest n).state ≠ .labelWait)
    (hnew : (f (s.nest n)).state = .labelWait) (hr : ρ → (s.nest n).RecordSound → (f (s.nest n)).RecordSound) :
    ((s.modNest n f).modMarker fun m => { m with waitList := m.waitList ++ [⟨n, j⟩] }).NestsAgree b ρ := by
  refine ⟨fun k => ?_, fun k => ?_, fun k => ?_, fun k => ?_, ?_, ?_, fun h k => ?_⟩
  · by_cases e : k = n
    · subst e
      have := hs.measuring k
      simp only [hold.1, false_iff] at this
      simpa [hnew] using this
    · simpa [State.modNest_nest_other _ _ _ e] using hs.measuring k
  · by_cases e : k = n
    · subst e
      have := hs.queued k
      simp only [hold.2.1, if_false] at this
      simp [hnew, this]
    · simpa [State.modNest_nest_other _ _ _ e] using hs.queued k
  · simpa using hs.generator k
  · by_cases e : k = n
    · subst e
      have := hs.waits k
      simp only [hold.2.2, if_false] at this
      simp [hnew, this]
    · have hne : ¬(n = k) := fun e' => e e'.symm
      simpa [State.modNest_nest_other _ _ _ e, hne] using hs.waits k
  · simpa using hs.check
  · simpa using hs.checking
  · by_cases e : k = n
    · subst e; simpa using hr h (hs.records h k)
    · simpa [State.modNest_nest_other _ _ _ e] using hs.records h k

/-- A nest in LABEL_WAIT leaves the wait list, with every entry of its own (R30, R155). -/
theorem leavesWait (hs : s.NestsAgree b ρ) (n : NestId) (f : Nest → Nest) (l : List WaitingJob)
    (hold : (s.nest n).state = .labelWait)
    (hnew : (f (s.nest n)).state ≠ .measuring ∧ (f (s.nest n)).state ≠ .waiting ∧ (f (s.nest n)).state ≠ .labelWait)
    (hr : ρ → (s.nest n).RecordSound → (f (s.nest n)).RecordSound)
    (hl : ∀ k, l.countP (fun w => w.nest = k) = if k = n then 0 else s.marker.waitList.countP (fun w => w.nest = k))
    (hnest : ∀ k, t.nest k = (s.modNest n f).nest k) (hchain : t.chain = s.chain)
    (hgen : t.gen.claimant = s.gen.claimant) (hwait : t.marker.waitList = l) : t.NestsAgree b ρ := by
  refine ⟨fun k => ?_, fun k => ?_, fun k => ?_, fun k => ?_, ?_, ?_, fun h k => ?_⟩
  · rw [hnest, hchain]
    by_cases e : k = n
    · subst e
      have := hs.measuring k
      simp only [hold, reduceCtorEq, false_iff] at this
      simpa [hnew] using this
    · simpa [State.modNest_nest_other _ _ _ e] using hs.measuring k
  · rw [hnest, hchain]
    by_cases e : k = n
    · subst e
      have := hs.queued k
      simp only [hold, reduceCtorEq, if_false] at this
      simp [hnew, this]
    · simpa [State.modNest_nest_other _ _ _ e] using hs.queued k
  · simpa [hchain, hgen] using hs.generator k
  · rw [hnest, hwait, hl]
    by_cases e : k = n
    · subst e; simp [hnew]
    · simpa [State.modNest_nest_other _ _ _ e, e] using hs.waits k
  · simpa [hchain] using hs.check
  · simpa [hchain] using hs.checking
  · rw [hnest]
    by_cases e : k = n
    · subst e; simpa using hr h (hs.records h k)
    · simpa [State.modNest_nest_other _ _ _ e] using hs.records h k

/-- The nest of a waiting job is in LABEL_WAIT, and its job is the only one it has (R155). -/
theorem waiting_head (hs : s.NestsAgree b ρ) {w : WaitingJob} {rest : List WaitingJob} (h : s.marker.waitList = w :: rest) :
    (s.nest w.nest).state = .labelWait ∧ rest.countP (fun x => x.nest = w.nest) = 0 := by
  have hw := hs.waits w.nest
  rw [h, List.countP_cons_of_pos (by simp)] at hw
  split at hw
  next e => exact ⟨e, by omega⟩
  · omega

theorem admitWaiting (hs : s.NestsAgree b ρ) : s.admitWaiting.NestsAgree b ρ := by
  unfold State.admitWaiting
  split
  · exact hs
  next w rest hw =>
    obtain ⟨hstate, hcount⟩ := hs.waiting_head hw
    refine hs.leavesWait w.nest (fun n => { n with state := .done, ticket := some (s.marker.ticket + 1) }) rest hstate
      (by simp) (fun _ hx => ⟨hx.skipped, by simp, hx.pass⟩) (fun k => ?_) (fun k => ?_) (by simp) (by simp)
      (by simp [Marker.append])
    · by_cases e : k = w.nest
      · rw [if_pos e, e]; exact hcount
      · rw [if_neg e, hw, List.countP_cons_of_neg (by simpa using fun e' => e e'.symm)]
    · rw [State.modNest_nest_eq, State.modNest_nest_eq]
      rfl

/-- What a change of the Marker Controller that leaves the wait list keeps. -/
theorem modMarker (hs : s.NestsAgree b ρ) (f : Marker → Marker) (hf : (f s.marker).waitList = s.marker.waitList) :
    (s.modMarker f).NestsAgree b ρ := hs.congr ⟨rfl, rfl, rfl, rfl, hf⟩

theorem latchBoth (hs : s.NestsAgree b ρ) (e : Event) : (s.latchBoth e).NestsAgree b ρ :=
  hs.congr (by constructor <;> simp)

/-- All that the marker link does keeps nests, chain and wait list in agreement. -/
theorem keptByMarkerOps (b : Bool) (ρ : Prop) : KeptByMarkerOps (State.NestsAgree b ρ) where
  marker _ f hf hs := hs.modMarker f hf
  events _ e hs := hs.latchBoth e
  admits _ hs := hs.admitWaiting

theorem rematchHead (hs : s.NestsAgree b ρ) : s.rematchHead.NestsAgree b ρ := (keptByMarkerOps b ρ).rematchHead hs

theorem startBus (hs : s.NestsAgree b ρ) : s.startBus.NestsAgree b ρ := (keptByMarkerOps b ρ).startBus hs

theorem enqueue (hs : s.NestsAgree b ρ) (j : Job) : (s.enqueue j).NestsAgree b ρ := (keptByMarkerOps b ρ).enqueue hs j

theorem dropWaiting (hs : s.NestsAgree b ρ) (n : NestId) (hold : (s.nest n).state = .labelWait) :
    (s.dropWaiting n).NestsAgree b ρ := by
  refine hs.leavesWait n Nest.emptied (s.marker.waitList.filter fun w => w.nest ≠ n) hold (by simp [Nest.emptied])
    (fun _ hx => ⟨hx.skipped, by simp [Nest.emptied], hx.pass⟩) (fun k => ?_) (fun k => ?_) ?_ ?_ ?_
  · rw [List.countP_filter]
    split
    next e => simp [e]
    next e =>
      refine List.countP_congr fun w _ => ?_
      simp only [decide_eq_true_eq, Bool.and_eq_true, ne_eq, and_iff_left_iff_imp]
      exact fun e' => e' ▸ e
  all_goals simp [State.dropWaiting, State.modNest_nest_eq]

end State.NestsAgree
end Sys2Proof.Machine
end

section
/-! SUPPORT. What the taking of a record and the verdict leave of a nest record. -/

namespace Sys2Proof.Machine
open Sys2Proof

/-- From `x` to `y` a nest record takes on results: the unit, the state and the verdict stand, reasons are never forgotten, the first
fail entry comes with a reason, and no point is newly SKIPPED (R101 to R105). -/
structure Nest.Grows (x y : Nest) : Prop where
  state    : y.state = x.state
  kind     : y.kind = x.kind
  serial   : y.serial = x.serial
  attempt  : y.attempt = x.attempt
  verdict  : y.verdict = x.verdict
  tag      : y.tag = x.tag
  detected : x.detected ≠ [] → y.detected ≠ []
  fails    : x.failList = [] → y.failList ≠ [] → y.detected ≠ []
  skipped  : y.hasStatus .skipped = true → x.hasStatus .skipped = true

namespace Nest.Grows
variable {x y z : Nest}

theorem refl (x : Nest) : x.Grows x := ⟨rfl, rfl, rfl, rfl, rfl, rfl, id, fun h h' => absurd h h', id⟩

theorem trans (h : x.Grows y) (h' : y.Grows z) : x.Grows z where
  state := h'.state.trans h.state
  kind := h'.kind.trans h.kind
  serial := h'.serial.trans h.serial
  attempt := h'.attempt.trans h.attempt
  verdict := h'.verdict.trans h.verdict
  tag := h'.tag.trans h.tag
  detected hx := h'.detected (h.detected hx)
  fails hx hz := by
    by_cases hy : y.failList = []
    · exact h'.fails hy hz
    · exact h'.detected (h.fails hx hy)
  skipped hz := h.skipped (h'.skipped hz)

theorem detect (code : Nat) (x : Nest) : x.Grows (x.detect code) := by
  unfold Nest.detect
  dsimp only
  split
  · exact refl x
  · split <;> exact ⟨rfl, rfl, rfl, rfl, rfl, rfl, fun _ => by simp, fun _ _ => by simp, id⟩

theorem addJudged (k point : Nat) (x : Nest) : x.Grows (x.addJudged k point) :=
  ⟨rfl, rfl, rfl, rfl, rfl, rfl, id, fun h h' => absurd h h', id⟩

theorem noResponse (k point : Nat) (x : Nest) : x.Grows (x.noResponse k point) := (addJudged k point x).trans (detect 13 _)

theorem judgeValue (k : Nat) (c : Curve) (point f : Nat) (m : Int) (x : Nest) : x.Grows (x.judgeValue k c point f m) := by
  have hworst (y : Nest) (w : List (Option Worst)) : y.Grows { y with worst := w } :=
    ⟨rfl, rfl, rfl, rfl, rfl, rfl, id, fun h h' => absurd h h', id⟩
  unfold Nest.judgeValue
  dsimp only
  refine trans ?_ (hworst _ _)
  split
  · exact (addJudged k point x).trans (detect _ _)
  · exact addJudged k point x

theorem visit (isRef : Bool) (r : PointRecord) (k : Nat) (c : Curve) (x : Nest) : x.Grows (x.visit isRef r k c) := by
  unfold Nest.visit
  repeat' split
  all_goals first | exact refl x | exact judgeValue _ _ _ _ _ x | exact noResponse _ _ x

theorem foldl {α : Type} (f : Nest → α → Nest) (hf : ∀ (x : Nest) a, x.Grows (f x a)) (l : List α) (x : Nest) : x.Grows (l.foldl f x) := by
  induction l generalizing x with
  | nil => exact refl x
  | cons a l ih => exact (hf x a).trans (ih (f x a))

theorem visitAll (curves : List Curve) (isRef : Bool) (r : PointRecord) (x : Nest) : x.Grows (x.visitAll curves isRef r) := by
  refine foldl _ (fun y a => ?_) _ x
  exact visit isRef r a.2 a.1 y

theorem visitRel (curves : List Curve) (r : PointRecord) (x : Nest) : x.Grows (x.visitRel curves r) := by
  refine foldl _ (fun y a => ?_) _ x
  split
  · exact visit false r a.2 a.1 y
  · exact refl y

theorem visitReference (curves : List Curve) (reference : Nat) (x : Nest) : x.Grows (x.visitReference curves reference) := by
  refine foldl _ (fun y a => ?_) _ x
  split
  · split
    · exact refl y
    · split
      · exact visitAll curves true _ y
      · exact visitRel curves _ y
  · exact refl y

/-- A change of slots, reference state and causes that brings no SKIPPED point. -/
theorem of_slots (x : Nest) (l : List (Option PointRecord)) (g : RefState) (a b : Bool)
    (h : (l.any fun o => (o.map (·.status)) = some .skipped) = true → x.hasStatus .skipped = true) :
    x.Grows { x with slots := l, refState := g, causeNoisy := a, causeOverload := b } :=
  ⟨rfl, rfl, rfl, rfl, rfl, rfl, id, fun h h' => absurd h h', h⟩

theorem skipped_set {x : Nest} {r : PointRecord} (hr : r.status ≠ .skipped)
    (h : ((x.slots.set r.index (some r)).any fun o => (o.map (·.status)) = some .skipped) = true) :
    x.hasStatus .skipped = true := by
  rw [List.any_eq_true] at h
  obtain ⟨o, ho, hstatus⟩ := h
  rcases List.mem_or_eq_of_mem_set ho with ho | rfl
  · exact List.any_eq_true.mpr ⟨o, ho, hstatus⟩
  · simp [hr] at hstatus

theorem store (x : Nest) {r : PointRecord} (hr : r.status ≠ .skipped) : x.Grows (x.store r) :=
  of_slots x _ x.refState x.causeNoisy x.causeOverload (skipped_set hr)

theorem takeUnmeasured (c : PlanContent) (x : Nest) {r : PointRecord} (hr : r.status ≠ .skipped) :
    x.Grows (x.takeUnmeasured c r) := by
  unfold Nest.takeUnmeasured
  dsimp only
  split <;> exact of_slots x _ _ _ _ (skipped_set hr)

theorem skipped_fillSlots (ref : Int) (l : List (Option PointRecord)) :
    ((fillSlots ref l).any fun o => (o.map (·.status)) = some .skipped) =
      l.any fun o => (o.map (·.status)) = some .skipped := by
  unfold fillSlots
  have hstatus (o : Option PointRecord) :
      (o.map fun r => if r.measured && r.rel.isNone then r.fillRel ref else r).map (·.status) = o.map (·.status) := by
    cases o with
    | none => rfl
    | some r =>
      simp only [Option.map_some]
      split <;> rfl
  simp only [List.any_map, Function.comp_def, hstatus]

theorem take (c : PlanContent) (x : Nest) {r : PointRecord} (hr : r.status ≠ .skipped) : x.Grows (x.take c r) := by
  unfold Nest.take
  split
  · exact takeUnmeasured c x hr
  · split
    · split
      next spl _ _ =>
        refine trans ?_ (visitReference c.limits r.index _)
        refine trans (store x (r := r.fillRel spl) hr) (of_slots _ _ _ _ _ fun h => ?_)
        rwa [skipped_fillSlots] at h
      · refine trans ?_ (visitAll c.limits true r _)
        exact of_slots x _ _ _ _ (skipped_set hr)
    · dsimp only
      refine trans (store x ?_) (visitAll c.limits false _ _)
      split <;> exact hr

end Nest.Grows

/-- The unit, the state, the verdict and the reasons of a nest record stand when it takes a SKIPPED record (R58, R59). -/
theorem take_skipped (c : PlanContent) (x : Nest) {r : PointRecord} (hr : r.status = .skipped) :
    ∃ l g a b, x.take c r = { x with slots := l, refState := g, causeNoisy := a, causeOverload := b } := by
  unfold Nest.take Nest.takeUnmeasured
  have hm : r.measured = false := by simp [PointRecord.measured, hr]
  rw [hm]
  by_cases href : c.sweep.reference = some r.index
  · exact ⟨_, _, _, _, by rw [if_pos (by rfl), if_pos href]; rfl⟩
  · exact ⟨_, x.refState, _, _, by rw [if_pos (by rfl), if_neg href]; rfl⟩

theorem noteCause_grows (curves : List Curve) (x : Nest) : x.Grows (x.noteCause curves) := by
  unfold Nest.noteCause
  split
  · split <;> exact ⟨rfl, rfl, rfl, rfl, rfl, rfl, id, fun h h' => absurd h h', id⟩
  · exact Nest.Grows.refl x
  · exact Nest.Grows.refl x

namespace Nest.RecordSound
variable {x y : Nest}

/-- A record keeps its law when its state alone changes, and not into a test. -/
theorem rest (hx : x.RecordSound) (hd : y.detected = x.detected) (hs : y.slots = x.slots) (hv : y.verdict = x.verdict)
    (hstate : y.state ≠ .measuring ∧ y.state ≠ .analysing) : y.RecordSound := by
  refine ⟨?_, fun h => absurd h (by simp [hstate]), ?_⟩
  · rw [hd, Nest.hasStatus, hs]
    exact hx.skipped
  · rw [hd, hs, hv]
    exact hx.pass

theorem grows (hx : x.RecordSound) (h : x.Grows y) (hv : x.verdict = none) : y.RecordSound :=
  ⟨fun hy => h.detected (hx.skipped (h.skipped hy)), fun _ => h.verdict.trans hv, fun hy => by
    rw [h.verdict, hv] at hy
    contradiction⟩

/-- A record without points, reasons and verdict keeps the law. -/
theorem of_blank (hs : ∀ o ∈ x.slots, o = none) (hv : x.verdict = none) : x.RecordSound := by
  refine ⟨fun h => ?_, fun _ => hv, fun h => ?_⟩
  · obtain ⟨o, ho, hstatus⟩ := List.any_eq_true.mp h
    rw [hs o ho] at hstatus
    simp at hstatus
  · rw [hv] at h
    contradiction

/-- A verdict PASS is made of a record with no reason and no OVERLOAD, NOISY or SKIPPED point (R107). -/
theorem ruled (hx : x.RecordSound) (curves : List Curve) (hd : x.detected = [] → y.detected = [] ∨ y.verdict ≠ some .pass)
    (hgrow : x.detected ≠ [] → y.detected ≠ []) (hs : y.slots = x.slots)
    (hv : y.verdict = some .pass → x.resolve curves = .pass) (hstate : y.state ≠ .measuring ∧ y.state ≠ .analysing) :
    y.RecordSound := by
  have hskipped : y.hasStatus .skipped = x.hasStatus .skipped := by rw [Nest.hasStatus, hs]; rfl
  refine ⟨fun h => hgrow (hx.skipped (hskipped ▸ h)), fun h => absurd h (by simp [hstate]), fun hpass => ?_⟩
  have hres := hv hpass
  unfold Nest.resolve at hres
  split_ifs at hres with hover hdet hnoisy
  have hdet : x.detected = [] := not_not.mp hdet
  refine ⟨(hd hdet).resolve_right (fun h => h hpass), fun z hz => ?_⟩
  rw [hs] at hz
  have hany (st : PointStatus) (h : x.hasStatus st = false) : z.status ≠ st := by
    rintro rfl
    have := List.any_eq_false.mp h _ hz
    simp at this
  refine ⟨hany _ (by simpa using hover), hany _ ?_, hany _ ?_⟩
  · simp only [Bool.or_eq_true, not_or] at hnoisy
    simpa using hnoisy.1
  · rw [← Bool.not_eq_true]
    exact fun h => hx.skipped h hdet

end Nest.RecordSound

/-- What the verdict of a production unit makes of its nest record before a label job is offered (R107 to R109). -/
def Nest.ruledAs (c : PlanContent) (x : Nest) : Nest :=
  let r := attemptPolicy (x.resolve c.limits) (x.attempt.getD 0) c.policy.maxAttempts
  let y := if r.2.2 then (x.noteCause c.limits).detect 14 else x.noteCause c.limits
  { y with verdict := some r.1, bin := some (c.bins.binOf r.1 y.detected) }

theorem takeOutcome_nest (n : NestId) (o : OutcomeClass) (v : Verdict) (bin : Nat) (s : State) (k : NestId) :
    (s.takeOutcome n o v bin).nest k = s.nest k := by
  cases k <;> simp [State.nest]

theorem ruled_nest (n : NestId) (c : PlanContent) (s : State) (k : NestId) :
    (s.ruled n c).nest k = (s.modNest n (Nest.ruledAs c)).nest k := by
  unfold State.ruled
  rw [takeOutcome_nest]
  cases n <;> cases k <;> rfl

theorem attemptPolicy_pass {v : Verdict} {a m : Nat} (h : (attemptPolicy v a m).1 = .pass) :
    v = .pass ∧ (attemptPolicy v a m).2.2 = false := by
  cases v
  · exact ⟨rfl, rfl⟩
  · simp [attemptPolicy] at h
  · simp only [attemptPolicy] at h
    split at h <;> simp at h

theorem noteCause_detected (curves : List Curve) (x : Nest) : (x.noteCause curves).detected = x.detected := by
  unfold Nest.noteCause
  split
  · split <;> rfl
  all_goals rfl

theorem noteCause_slots (curves : List Curve) (x : Nest) : (x.noteCause curves).slots = x.slots := by
  unfold Nest.noteCause
  split
  · split <;> rfl
  all_goals rfl

theorem detect_slots (code : Nat) (x : Nest) : (x.detect code).slots = x.slots := by
  unfold Nest.detect
  dsimp only
  split
  · rfl
  · split <;> rfl

/-- A ruled record keeps the law once its nest has left the test (R29). -/
theorem ruledAs_sound (c : PlanContent) {x y : Nest} (hx : x.RecordSound) (hd : y.detected = (x.ruledAs c).detected)
    (hs : y.slots = (x.ruledAs c).slots) (hv : y.verdict = (x.ruledAs c).verdict)
    (hstate : y.state ≠ .measuring ∧ y.state ≠ .analysing) : y.RecordSound := by
  have hpass (h : y.verdict = some .pass) := attemptPolicy_pass (Option.some.inj (hv.symm.trans h))
  refine hx.ruled c.limits (fun hnil => ?_) (fun hne => ?_) ?_ (fun h => (hpass h).1) hstate
  · by_cases h : y.verdict = some .pass
    · left
      simp [hd, Nest.ruledAs, (hpass h).2, noteCause_detected, hnil]
    · exact .inr h
  · rw [hd]
    simp only [Nest.ruledAs]
    split
    · exact (Nest.Grows.detect 14 _).detected (by rwa [noteCause_detected])
    · rwa [noteCause_detected]
  · rw [hs]
    simp only [Nest.ruledAs]
    split
    · rw [detect_slots, noteCause_slots]
    · rw [noteCause_slots]

end Sys2Proof.Machine
end

section
/-! SUPPORT. Nests, chain, generator and wait list agree through grants, aborts, records and verdicts. -/

namespace Sys2Proof.Machine
open Sys2Proof

/-- The state that an activation of plan `p` leaves, before a running MARKER START that has nothing left to negotiate completes (R20). -/
def State.replacedBy (p : StagedPlan) (s : State) : State :=
  let s := s.withdraw.modUnits fun u => { u with failCount := 0 }
  let s := ((s.emptyRetest).closeShift .planChange).clearRing
  (((s.modLoader (Loader.activated p)).remapLines).remapMarker).latchBoth .planActivated

theorem activate_staged {s : State} {p : StagedPlan} (h : s.loader.staged = some p) :
    s.activate = (s.replacedBy p).settleMarkerStart := by
  unfold State.activate
  rw [h]
  rfl

theorem activate_unstaged {s : State} (h : s.loader.staged = none) : s.activate = s := by
  unfold State.activate
  rw [h]

namespace State.NestsAgree
variable {b : Bool} {ρ : Prop} {s t : State}

/-! ### Grants -/

/-- The nest at the head of the queue is granted the free chain (R36, R37). -/
theorem granted (hs : s.NestsAgree b ρ) {n : NestId} {rest : List Claimant} (hfree : s.chain.holder = none)
    (hq : s.chain.queue = .nest n :: rest) (f : Nest → Nest) (hnew : (f (s.nest n)).state = .measuring)
    (hr : (f (s.nest n)).RecordSound) (hnest : ∀ k, t.nest k = (s.modNest n f).nest k) (hqueue : t.chain.queue = rest)
    (hholder : t.chain.holder = some (.nest n)) (hgen : t.gen.claimant = some (.nest n))
    (hwait : t.marker.waitList = s.marker.waitList) : t.NestsAgree b ρ := by
  have hold : (s.nest n).state = .waiting ∧ rest.count (.nest n) = 0 := by
    have := hs.queued n
    rw [hq, List.count_cons_self] at this
    split at this
    next e => exact ⟨e, by omega⟩
    · omega
  refine ⟨fun k => ?_, fun k => ?_, fun k => ?_, fun k => ?_, ?_, ?_, fun h k => ?_⟩
  · rw [hnest, hholder]
    by_cases e : k = n
    · subst e; simp [hnew]
    · have := hs.measuring k
      rw [State.modNest_nest_other _ _ _ e, this, hfree]
      simp [Ne.symm e]
  · rw [hnest, hqueue]
    by_cases e : k = n
    · subst e; simp [hnew, hold.2]
    · have := hs.queued k
      rw [hq, List.count_cons_of_ne (by simpa using Ne.symm e)] at this
      rwa [State.modNest_nest_other _ _ _ e]
  · rw [hgen, hholder]
    exact id
  · rw [hnest, hwait]
    by_cases e : k = n
    · subst e
      have := hs.waits k
      rw [hold.1] at this
      simpa [hnew] using this
    · simpa [State.modNest_nest_other _ _ _ e] using hs.waits k
  · have := hs.check
    rw [hq, hfree, List.count_cons_of_ne (by simp)] at this
    simpa [hqueue, hholder] using this
  · simp [hholder]
  · rw [hnest]
    by_cases e : k = n
    · subst e; simpa using hr
    · simpa [State.modNest_nest_other _ _ _ e] using hs.records h k

/-- The CHAIN CHECK at the head of the queue is granted the free chain (R36, R39). -/
theorem granted_check (hs : s.NestsAgree b ρ) {rest : List Claimant} (hfree : s.chain.holder = none)
    (hq : s.chain.queue = .check :: rest) (hnest : ∀ k, t.nest k = s.nest k) (hqueue : t.chain.queue = rest)
    (hholder : t.chain.holder = some .check) (hgen : t.gen.claimant = some .check)
    (hwait : t.marker.waitList = s.marker.waitList) : t.NestsAgree b ρ := by
  have hcheck := hs.check
  rw [hq, hfree, List.count_cons_self] at hcheck
  have hb : b = true := by
    by_contra hb
    simp [hb] at hcheck
  refine ⟨fun k => ?_, fun k => ?_, fun k => ?_, fun k => ?_, ?_, fun _ => hb, fun h k => ?_⟩
  · have := hs.measuring k
    rw [hnest, this, hfree, hholder]
    simp
  · have := hs.queued k
    rw [hq, List.count_cons_of_ne (by simp)] at this
    rwa [hnest, hqueue]
  · simp [hgen]
  · rw [hnest, hwait]
    exact hs.waits k
  · simp only [hb, true_and, ne_eq, reduceCtorEq, not_false_eq_true, if_true] at hcheck
    simp [hqueue, hholder]
    omega
  · rw [hnest]
    exact hs.records h k

theorem grantHead (hs : s.NestsAgree b ρ) : s.grantHead.NestsAgree b ρ := by
  unfold State.grantHead
  split
  next c rest hfree hq =>
    cases c with
    | nest n =>
      rw [grant_nest]
      refine hs.granted hfree hq (Nest.granted s.planPoints.length s.curveCount s.hasReference) rfl ?_
        (fun k => by cases n <;> cases k <;> rfl) (by cases n <;> rfl) (by cases n <;> rfl) (by cases n <;> rfl)
        (by cases n <;> rfl)
      exact Nest.RecordSound.of_blank (fun o ho => List.eq_of_mem_replicate ho) rfl
    | check =>
      exact hs.granted_check hfree hq (fun k => by cases k <;> rfl) rfl rfl rfl rfl
  · exact hs


theorem grantHead_free (s : State) : s.grantHead.chain.holder = none → s.grantHead.chain.queue = [] := by
  unfold State.grantHead
  split
  next c rest _ _ =>
    intro h
    cases c with
    | nest n => rw [grant_nest] at h; cases n <;> cases h
    | check => cases h
  next hne =>
    intro h
    cases hq : s.chain.queue with
    | nil => rfl
    | cons c rest => exact (hne c rest h hq).elim

/-! ### Aborts -/

theorem abortOne_nest (n k : NestId) (s : State) : (s.abortOne n).nest k = (s.modNest n Nest.aborted).nest k := by
  have hsilent (t : State) (c : Claimant) : (t.freeWindows c).nest k = t.nest k := by cases k <;> simp [State.nest]
  unfold State.abortOne
  dsimp only
  rw [State.count_nest, State.modNest_nest_eq, State.modNest_nest_eq]
  split <;> split <;> simp [hsilent, State.leaveQueue, State.silence, State.freeChain]

theorem aborted_sound {x : Nest} (hx : x.RecordSound) : x.aborted.RecordSound :=
  ⟨hx.skipped, fun _ => rfl, fun h => by cases h⟩

theorem abortOne (hs : s.NestsAgree b ρ) (n : NestId) (hn : (s.nest n).state.inTest = true) : (s.abortOne n).NestsAgree b ρ := by
  unfold State.abortOne
  dsimp only
  refine congr (s := State.modNest n Nest.aborted _) ?_ ⟨rfl, rfl, rfl, rfl, rfl⟩
  split
  next h => exact hs.leaves n _ h rfl fun _ => aborted_sound
  next h =>
    refine hs.ends n Nest.aborted h (.inl rfl) (fun _ => aborted_sound) (fun k => ?_) ?_ ?_ ?_
    · rw [State.modNest_nest_eq, State.modNest_nest_eq]
      cases k <;> simp [State.nest]
    · simp [State.freeChain]
    · simp [State.silence]
    · simp
  next h =>
    refine congr (s := s.modNest n Nest.aborted) ?_ ?_
    · exact hs.enter n _ (by simp [h]) (by simp [Nest.aborted]) fun _ => aborted_sound
    · cases n <;> constructor <;> simp
  all_goals simp_all [NestState.inTest]

theorem abortAll (hs : s.NestsAgree b ρ) (ns : List NestId) (hns : ns.Nodup) : (s.abortAll ns).NestsAgree b ρ := by
  unfold State.abortAll
  refine grantHead ?_
  have hl : ∀ n ∈ ns.filter (fun n => (s.nest n).state.inTest), (s.nest n).state.inTest = true :=
    fun n hn => (List.mem_filter.mp hn).2
  have hnodup := hns.filter fun n => (s.nest n).state.inTest
  revert hl hnodup
  generalize ns.filter (fun n => (s.nest n).state.inTest) = l
  intro hl hnodup
  induction l generalizing s with
  | nil => exact hs
  | cons n l ih =>
    obtain ⟨hn, hnodup⟩ := List.nodup_cons.mp hnodup
    refine ih (hs.abortOne n (hl n (by simp))) (fun k hk => ?_) hnodup
    have hkn : k ≠ n := by
      rintro rfl
      exact hn hk
    rw [abortOne_nest, State.modNest_nest_other _ _ _ hkn]
    exact hl k (by simp [hk])

/-! ### Records and verdicts -/

theorem foldl_take_skipped (c : PlanContent) (l : List PointRecord) (hl : ∀ r ∈ l, r.status = .skipped) (x : Nest) :
    ∃ sl g a b, l.foldl (fun x r => x.take c r) x = { x with slots := sl, refState := g, causeNoisy := a, causeOverload := b } := by
  induction l generalizing x with
  | nil => exact ⟨x.slots, x.refState, x.causeNoisy, x.causeOverload, rfl⟩
  | cons r l ih =>
    obtain ⟨sl, g, a, b, e⟩ := take_skipped c x (hl r (by simp))
    rw [List.foldl_cons, e]
    obtain ⟨sl', g', a', b', e'⟩ := ih (fun y hy => hl y (by simp [hy])) _
    exact ⟨sl', g', a', b', e'⟩

theorem skippedRecords_status (s : State) : ∀ r ∈ s.skippedRecords, r.status = .skipped := by
  intro r hr
  obtain ⟨p, -, rfl⟩ := List.mem_map.mp hr
  rfl

theorem stopSweep (hs : s.NestsAgree b ρ) (n : NestId) (c : PlanContent) (hd : ρ → (s.nest n).detected ≠ []) :
    (s.stopSweep n c).NestsAgree b ρ := by
  unfold State.stopSweep
  split
  next hreach =>
    have hm : (s.nest n).state = .measuring := by
      simp only [State.stopReaches, Bool.and_eq_true, decide_eq_true_eq] at hreach
      exact hreach.1.1
    obtain ⟨sl, g, x, y, e⟩ := foldl_take_skipped c s.skippedRecords (skippedRecords_status s) (s.nest n)
    refine congr (s := s.modNest n fun x => s.skippedRecords.foldl (fun x r => x.take c r) x) ?_ ?_
    · refine hs.modNest n _ (by rw [e]) (by rw [e]) (by rw [e]) fun h hx => ?_
      rw [e]
      have hv := hx.unruled (.inl hm)
      exact ⟨fun _ => hd h, fun _ => hv, fun hp => absurd (hp.symm.trans hv) (by simp)⟩
    · cases n <;> split <;> constructor <;> simp
  · exact hs

theorem offerRecord (hs : s.NestsAgree b ρ) (n : NestId) (tag : BitVec 16) {r : PointRecord} (hr : r.status ≠ .skipped) :
    (s.offerRecord n tag r).NestsAgree b ρ := by
  unfold State.offerRecord
  split
  · exact hs
  next c _ =>
    dsimp only
    have hgrow := Nest.Grows.take c (s.nest n) hr
    split_ifs with htest hstop
    · refine stopSweep ?_ n c fun _ => ?_
      · exact hs.modNest n _ (by rw [hgrow.state]) (by rw [hgrow.state]) (by rw [hgrow.state])
          fun _ hx => hx.grows hgrow (hx.unruled htest.1)
      · rw [State.modNest_nest] at hstop ⊢
        exact hgrow.fails hstop.2.1 hstop.2.2
    · exact hs.modNest n _ (by rw [hgrow.state]) (by rw [hgrow.state]) (by rw [hgrow.state])
        fun _ hx => hx.grows hgrow (hx.unruled htest.1)
    · exact hs

theorem ruled_sameNests (n : NestId) (c : PlanContent) (g : Nest → Nest) (s : State) :
    (s.modNest n fun x => g (x.ruledAs c)).SameNests ((s.ruled n c).modNest n g) := by
  have hruled : ∀ k, (s.ruled n c).nest k = (s.modNest n (Nest.ruledAs c)).nest k := ruled_nest n c s
  have ha := hruled .a
  have hb := hruled .b
  simp only [State.nest] at ha hb
  have hchain : (s.ruled n c).chain = s.chain := by simp [State.ruled]
  have hgen : (s.ruled n c).gen = s.gen := by simp [State.ruled]
  have hmarker : (s.ruled n c).marker = s.marker := by simp [State.ruled]
  cases n <;> constructor <;> simp [ha, hb, hchain, hgen, hmarker]

theorem offerJob (hs : s.NestsAgree b ρ) (n : NestId) (c : PlanContent) (j : Job) (hn : (s.nest n).state = .analysing) :
    ((s.ruled n c).offerJob n j).NestsAgree b ρ := by
  unfold State.offerJob
  split
  · refine enqueue (congr ?_ (ruled_sameNests n c _ s)) j
    exact hs.enter n _ (by simp [hn]) (by simp) fun _ hx => ruledAs_sound c hx rfl rfl rfl (by simp)
  · refine congr (hs.waitsLabel n (fun x => { x.ruledAs c with state := .labelWait }) j (by simp [hn]) rfl
      fun _ hx => ruledAs_sound c hx rfl rfl rfl (by simp)) ?_
    obtain ⟨ha, hb, hc, hg, hw⟩ := ruled_sameNests n c (fun x => { x with state := .labelWait }) s
    exact ⟨ha, hb, hc, hg, by simp [State.ruled]⟩

theorem referenceUnitVerdict (hs : s.NestsAgree b ρ) (n : NestId) (c : PlanContent) (hn : (s.nest n).state = .analysing) :
    (s.referenceUnitVerdict n c).NestsAgree b ρ := by
  have hsound {y : Nest} (hd : y.detected = (s.nest n).detected) (hsl : y.slots = (s.nest n).slots)
      (hv : y.verdict = some ((s.nest n).resolve c.limits)) (hstate : y.state = .done) (hx : (s.nest n).RecordSound) :
      y.RecordSound :=
    hx.ruled c.limits (fun h => .inl (hd.trans h)) (fun h => hd ▸ h) hsl (fun h => Option.some.inj (hv.symm.trans h))
      (by simp [hstate])
  refine congr (s := s.modNest n fun x => { x.noteCause c.limits with
    state := .done, verdict := some ((s.nest n).resolve c.limits),
    bin := some (c.bins.binOf ((s.nest n).resolve c.limits) (s.nest n).detected) }) ?_ ?_
  · exact hs.enter n _ (by simp [hn]) (by simp) fun _ hx =>
      hsound (noteCause_detected _ _) (noteCause_slots _ _) rfl rfl hx
  · cases n <;> constructor <;> simp [State.referenceUnitVerdict, State.nest]

theorem makeVerdict (hs : s.NestsAgree b ρ) (n : NestId) (hn : (s.nest n).state = .analysing) :
    (s.makeVerdict n).NestsAgree b ρ := by
  unfold State.makeVerdict
  split
  · exact hs
  next c _ =>
    refine latchBoth ?_ _
    split
    · exact hs.referenceUnitVerdict n c hn
    · rw [productionVerdict_eq]
      split
      · exact hs.offerJob n c _ hn
      · refine congr ?_ (ruled_sameNests n c _ s)
        exact hs.enter n _ (by simp [hn]) (by simp) fun _ hx => ruledAs_sound c hx rfl rfl rfl (by simp)

/-! ### Loads, starts and releases -/

theorem spendVerification (hs : s.NestsAgree b ρ) : s.spendVerification.NestsAgree b ρ := hs.congr (by constructor <;> simp)

theorem releaseUntested (hs : s.NestsAgree b ρ) (n : NestId)
    (hn : (s.nest n).state ≠ .measuring ∧ (s.nest n).state ≠ .waiting ∧ (s.nest n).state ≠ .labelWait) :
    (s.releaseUntested n).NestsAgree b ρ := by
  have hback : (s.giveBack n).NestsAgree b ρ := hs.congr (by constructor <;> simp)
  have hnest : (s.giveBack n).nest n = s.nest n := by cases n <;> simp [State.nest]
  exact hback.enter n _ (by rwa [hnest]) (by simp [Nest.emptied]) fun _ hx => hx.rest rfl rfl rfl (by simp [Nest.emptied])

theorem acceptStart (hs : s.NestsAgree b ρ) (n : NestId) (hn : (s.nest n).state = .loaded) :
    (s.acceptStart n).NestsAgree b ρ := by
  have hjoin {t : State} (ht : t.NestsAgree b ρ) (hn : (t.nest n).state = .loaded) :
      ((t.modNest n fun x => { x with state := .waiting }).joinQueue (.nest n)).NestsAgree b ρ :=
    grantHead (ht.joins n _ (by simp [hn]) rfl fun _ hx => hx.rest rfl rfl rfl (by simp))
  unfold State.acceptStart
  dsimp only
  split
  · refine hjoin hs.spendVerification ?_
    cases n <;> simpa [State.nest] using hn
  · exact hjoin hs hn

theorem startRefusal_loaded {n : NestId} (h : s.startRefusal n = none) : (s.nest n).state = .loaded := by
  unfold State.startRefusal at h
  dsimp only at h
  by_contra hne
  rw [if_pos hne] at h
  contradiction

theorem settleMarkerStart (hs : s.NestsAgree b ρ) : s.settleMarkerStart.NestsAgree b ρ := hs.congr (by constructor <;> simp)

theorem remapMarker (hs : s.NestsAgree b ρ) : s.remapMarker.NestsAgree b ρ :=
  (keptByMarkerOps b ρ).remapMarker hs

theorem replacedBy (hs : s.NestsAgree b ρ) (p : StagedPlan) : (s.replacedBy p).NestsAgree b ρ :=
  latchBoth (remapMarker (hs.congr (by constructor <;> simp))) _

/-- The CHAIN CHECK that held the chain has left it, and no more runs (R39, R40). -/
theorem freeCheck (hs : s.NestsAgree b ρ) (hheld : s.chain.holder = some .check) (hnest : ∀ k, t.nest k = s.nest k)
    (hqueue : t.chain.queue = s.chain.queue) (hholder : t.chain.holder = none)
    (hgen : ∀ n, t.gen.claimant = some (.nest n) → s.gen.claimant = some (.nest n))
    (hwait : t.marker.waitList = s.marker.waitList) : t.NestsAgree false ρ := by
  have hcheck := hs.check
  refine ⟨fun n => ?_, fun n => ?_, fun n h => ?_, fun n => ?_, ?_, fun h => ?_, fun h n => ?_⟩
  · rw [hnest, hs.measuring, hheld, hholder]
    simp
  · rw [hnest, hqueue]
    exact hs.queued n
  · have := hs.generator n (hgen n h)
    rw [hheld] at this
    cases this
  · rw [hnest, hwait]
    exact hs.waits n
  · rw [hheld] at hcheck
    simpa [hqueue] using hcheck
  · rw [hholder] at h
    cases h
  · rw [hnest]
    exact hs.records h n

end State.NestsAgree

end Sys2Proof.Machine
end

section
/-! PROOF. Every step keeps the law of the chain and of the nest records (R36, R38, R58, R107). -/

namespace Sys2Proof.Machine
open Sys2Proof

/-- The law of the chain and, where `ρ` asks for it, of the nest records. -/
structure State.ChainLaw (ρ : Prop) (s : State) : Prop where
  agree    : s.NestsAgree (s.runs .station .chainCheck) ρ
  free     : s.chain.holder = none → s.chain.queue = []
  requests : ∀ p r, (s.port p).running = some r → (s.port p).slot = .running ∧ onPort p r.request = true
  closing  : s.loader.state = .checking → s.runs .station .planClose = true

theorem chainLaw_iff (ρ : Prop) (s : State) : s.ChainLaw ρ ↔ s.ChainSound ∧ (ρ → s.RecordsSound) :=
  ⟨fun ⟨⟨hm, hq, hg, hw, hc, hch, hr⟩, hf, hreq, hcl⟩ =>
      ⟨⟨hm, hq, hf, hg, hw, hc, hch, hreq, hcl⟩, fun h => (recordsSound_iff s).mpr (hr h)⟩,
    fun ⟨⟨hm, hq, hf, hg, hw, hc, hch, hreq, hcl⟩, hr⟩ =>
      ⟨⟨hm, hq, hg, hw, hc, hch, fun h => (recordsSound_iff s).mp (hr h)⟩, hf, hreq, hcl⟩⟩

/-- From `s` to `t` the law of the chain is kept and each request that runs still runs; a MARKER START may have been answered. -/
structure State.Runs (ρ : Prop) (s t : State) : Prop where
  law  : t.ChainLaw ρ
  same : ∀ p r, r ≠ .markerStart → t.runs p r = s.runs p r

theorem runs_unique {p : PortId} {r r' : Request} {s : State} (h : s.runs p r = true) (hr : r' ≠ r) : s.runs p r' = false := by
  obtain ⟨q, hq, rfl, -⟩ := (runs_iff p r s).mp h
  rw [← Bool.not_eq_true]
  intro h'
  obtain ⟨q', hq', rfl, -⟩ := (runs_iff p r' s).mp h'
  rw [hq] at hq'
  cases hq'
  exact hr rfl

theorem runs_onPort {ρ : Prop} {p : PortId} {r : Request} {s : State} (hs : s.ChainLaw ρ) (h : s.runs p r = true) :
    onPort p r = true := by
  obtain ⟨q, hq, rfl, -⟩ := (runs_iff p r s).mp h
  exact (hs.requests p q hq).2

theorem runs_modPort_other {p r : PortId} (h : r ≠ p) (f : Port → Port) (x : Request) (s : State) :
    (s.modPort p f).runs r x = s.runs r x := by
  cases p <;> cases r <;> first | rfl | exact absurd rfl h

theorem runs_of_none {p : PortId} {s : State} (h : (s.port p).running = none) (r : Request) : s.runs p r = false := by
  simp [State.runs, h]

namespace State.ChainLaw
variable {ρ : Prop} {s t u : State}

theorem steps_refl (hs : s.ChainLaw ρ) : s.Runs ρ s := ⟨hs, fun _ _ _ => rfl⟩

/-- A change that leaves the requests keeps the law where nests, chain, generator and wait list agree after it. -/
theorem steps_of_slots (hs : s.ChainLaw ρ) (hn : t.NestsAgree (s.runs .station .chainCheck) ρ)
    (hfree : t.chain.holder = none → t.chain.queue = [])
    (hslot : ∀ p, (t.port p).slot = (s.port p).slot ∧ (t.port p).running = (s.port p).running)
    (hload : t.loader.state = .checking → s.loader.state = .checking) : s.Runs ρ t := by
  have hruns (p : PortId) (r : Request) : t.runs p r = s.runs p r := by simp only [State.runs, (hslot p).2]
  refine ⟨⟨?_, hfree, fun p r h => ?_, fun h => ?_⟩, fun p r _ => hruns p r⟩
  · rwa [hruns]
  · rw [(hslot p).2] at h
    rw [(hslot p).1]
    exact hs.requests p r h
  · rw [hruns]
    exact hs.closing (hload h)

theorem steps (hs : s.ChainLaw ρ) (hn : t.NestsAgree (s.runs .station .chainCheck) ρ)
    (hfree : t.chain.holder = none → t.chain.queue = []) (hreq : s.SameRequests t)
    (hload : t.loader.state = .checking → s.loader.state = .checking) : s.Runs ρ t :=
  hs.steps_of_slots hn hfree (fun p => ⟨(hreq p).1, (hreq p).2.1⟩) hload

/-- A change outside the nests, the chain and the requests. -/
theorem same (hs : s.ChainLaw ρ) (h : s.SameNests t) (hreq : s.SameRequests t)
    (hload : t.loader.state = .checking → s.loader.state = .checking) : s.Runs ρ t :=
  hs.steps (hs.agree.congr h) (by rw [h.chain]; exact hs.free) hreq hload

theorem congr (hs : s.ChainLaw ρ) (h : s.SameNests t) (hreq : s.SameRequests t)
    (hload : t.loader.state = .checking → s.loader.state = .checking) : t.ChainLaw ρ := (hs.same h hreq hload).law

/-- The end of a request that is neither a CHAIN CHECK nor a PLAN CLOSE that runs. -/
theorem ended (hs : s.ChainLaw ρ) {p : PortId} {f : Port → Port} (hf : (f (s.port p)).running = none)
    (hc : s.runs p .chainCheck = false) (hp : s.loader.state = .checking → s.runs p .planClose = false) :
    (s.modPort p f).ChainLaw ρ := by
  have hnone : ((s.modPort p f).port p).running = none := by cases p <;> exact hf
  have hruns (r : Request) (h : s.runs p r = false) (k : PortId) : (s.modPort p f).runs k r = s.runs k r := by
    by_cases e : k = p
    · subst e
      rw [h, runs_of_none hnone]
    · exact runs_modPort_other e f r s
  refine ⟨?_, by simpa using hs.free, fun k r h => ?_, fun h => ?_⟩
  · rw [hruns _ hc]
    exact hs.agree.congr (by constructor <;> simp)
  · by_cases e : k = p
    · subst e
      rw [hnone] at h
      contradiction
    · have : (s.modPort p f).port k = s.port k := by cases p <;> cases k <;> first | rfl | exact absurd rfl e
      rw [this] at h ⊢
      exact hs.requests k r h
  · have h : s.loader.state = .checking := by simpa using h
    rw [hruns _ (hp h)]
    exact hs.closing h

theorem settleMarkerStart (hs : s.ChainLaw ρ) : s.Runs ρ s.settleMarkerStart := by
  unfold State.settleMarkerStart
  split
  next h =>
    have hm : s.runs .station .markerStart = true := by simp only [Bool.and_eq_true] at h; exact h.1
    have hother {r : Request} (hr : r ≠ .markerStart) : s.runs .station r = false := runs_unique hm hr
    refine ⟨hs.ended (p := .station) (f := fun q => (q.answered .ok 0 (markerStartBody s.marker) .done).latch .requestDone)
      rfl (hother (by simp)) (fun _ => hother (by simp)), fun p r hr => ?_⟩
    cases p
    · rw [hother hr]; rfl
    · rfl
  · exact ⟨hs, fun _ _ _ => rfl⟩

theorem activate (hs : s.ChainLaw ρ) : s.Runs ρ s.activate := by
  cases hst : s.loader.staged with
  | none => rw [activate_unstaged hst]; exact ⟨hs, fun _ _ _ => rfl⟩
  | some p =>
    have hreq : s.SameRequests (s.replacedBy p) := by
      refine (SameRequests.withdraw s).trans (SameRequests.trans (SameRequests.of_eq ?_ ?_)
        ((OnlyEvents.remapMarker _).sameRequests.trans (SameRequests.latchBoth _ _)))
      all_goals simp
    have hrep := hs.steps (hs.agree.replacedBy p) (by simpa [State.replacedBy] using hs.free) hreq
      (by simp [State.replacedBy, Loader.activated])
    have hdone := hrep.law.settleMarkerStart
    rw [activate_staged hst]
    exact ⟨hdone.law, fun q r hr => (hdone.same q r hr).trans (hrep.same q r hr)⟩

theorem settleActivation (hs : s.ChainLaw ρ) : s.Runs ρ s.settleActivation := by
  unfold State.settleActivation
  split
  · exact hs.activate
  · exact ⟨hs, fun _ _ _ => rfl⟩

end State.ChainLaw

theorem State.Runs.trans {ρ : Prop} {s t u : State} (h : s.Runs ρ t) (h' : t.Runs ρ u) : s.Runs ρ u :=
  ⟨h'.law, fun p r hr => (h'.same p r hr).trans (h.same p r hr)⟩

namespace State.ChainLaw
variable {ρ : Prop} {s t u : State}

theorem foldl_abortOne_frame (l : List NestId) (s : State) : (l.foldl (fun s n => s.abortOne n) s).station = s.station ∧
    (l.foldl (fun s n => s.abortOne n) s).line = s.line ∧ (l.foldl (fun s n => s.abortOne n) s).loader = s.loader := by
  induction l generalizing s with
  | nil => exact ⟨rfl, rfl, rfl⟩
  | cons n l ih => simpa using ih (s.abortOne n)

theorem abortAll (hs : s.ChainLaw ρ) (ns : List NestId) (hns : ns.Nodup) : s.Runs ρ (s.abortAll ns) := by
  obtain ⟨hst, hli, hlo⟩ := foldl_abortOne_frame (ns.filter fun n => (s.nest n).state.inTest) s
  refine hs.steps (hs.agree.abortAll ns hns) (NestsAgree.grantHead_free _) (SameRequests.of_eq ?_ ?_) ?_
  · simpa [State.abortAll] using hst
  · simpa [State.abortAll] using hli
  · simp [State.abortAll, hlo]

theorem abortAll_one {n : NestId} (hn : (s.nest n).state.inTest = true) : s.abortAll [n] = (s.abortOne n).grantHead := by
  simp [State.abortAll, hn]

theorem grantHead_nest_other {n : NestId} (h : .nest n ∉ s.chain.queue) : s.grantHead.nest n = s.nest n := by
  unfold State.grantHead
  split
  next c rest _ hq =>
    cases c with
    | nest k =>
      have hk : n ≠ k := by
        rintro rfl
        exact h (by simp [hq])
      rw [grant_nest]
      cases k <;> cases n <;> first | rfl | exact absurd rfl hk
    | check => cases n <;> rfl
  · rfl

/-- A nest whose test has been aborted is LOADED (R33). -/
theorem abortAll_one_nest (hs : s.ChainLaw ρ) {n : NestId} (hn : (s.nest n).state.inTest = true) :
    (s.abortAll [n]).nest n = (s.nest n).aborted := by
  have habort := hs.agree.abortOne n hn
  have hnest : (s.abortOne n).nest n = (s.nest n).aborted := by rw [NestsAgree.abortOne_nest, State.modNest_nest]
  rw [abortAll_one hn, grantHead_nest_other, hnest]
  intro hq
  have hcount := habort.queued n
  rw [hnest] at hcount
  have : 0 < (s.abortOne n).chain.queue.count (.nest n) := List.count_pos_iff.mpr hq
  simp [Nest.aborted] at hcount
  omega

theorem releaseUntested (hs : s.ChainLaw ρ) (n : NestId)
    (hn : (s.nest n).state ≠ .measuring ∧ (s.nest n).state ≠ .waiting ∧ (s.nest n).state ≠ .labelWait) :
    s.Runs ρ (s.releaseUntested n) := by
  refine hs.steps (hs.agree.releaseUntested n hn) (by simpa using hs.free) ?_ (by simp)
  exact (OnlyEvents.giveBack n s).sameRequests.trans (SameRequests.modNest n _ _)

theorem acceptStart (hs : s.ChainLaw ρ) (n : NestId) (hn : (s.nest n).state = .loaded) : s.Runs ρ (s.acceptStart n) := by
  refine hs.steps (hs.agree.acceptStart n hn) ?_ (SameRequests.acceptStart n s) ?_
  · exact NestsAgree.grantHead_free _
  · unfold State.acceptStart
    dsimp only
    split <;> simp

/-! ### Line events -/

theorem lineAbort (hs : s.ChainLaw ρ) (ns : List NestId) (hns : ns.Nodup) : s.Runs ρ (s.lineAbort ns) := by
  unfold State.lineAbort
  split
  · have h := hs.abortAll ns hns
    exact h.trans h.law.settleActivation
  · exact hs.steps_refl

theorem lineStart (hs : s.ChainLaw ρ) (n : NestId) : s.Runs ρ (s.lineStart n) := by
  have hrefusal {t : State} (ht : t.ChainLaw ρ) (r : Option StartRefusal) :
      t.Runs ρ (t.modNest n fun x => { x with lastRefusal := r }) :=
    ht.steps (ht.agree.modNest n _ Iff.rfl Iff.rfl Iff.rfl fun _ hx => ⟨hx.skipped, hx.unruled, hx.pass⟩)
      (by simpa using ht.free) (SameRequests.modNest n _ t) (by simp)
  unfold State.lineStart
  split
  next r _ =>
    have h := hrefusal hs (some r)
    exact h.trans (h.law.same (by constructor <;> simp) (SameRequests.latchBoth _ _) (by simp))
  next h =>
    have h := hs.acceptStart n (NestsAgree.startRefusal_loaded h)
    exact h.trans (hrefusal h.law none)

theorem emptied (hs : s.ChainLaw ρ) (n : NestId) (hn : (s.nest n).state = .done) : s.Runs ρ (s.modNest n Nest.emptied) :=
  hs.steps (hs.agree.enter n _ (by simp [hn]) (by simp [Nest.emptied]) fun _ hx => hx.rest rfl rfl rfl (by simp [Nest.emptied]))
    (by simpa using hs.free) (SameRequests.modNest n _ s) (by simp)

theorem presenceLoss (hs : s.ChainLaw ρ) (n : NestId) : s.Runs ρ (s.presenceLoss n) := by
  have habort (hn : (s.nest n).state.inTest = true) : s.Runs ρ (((s.abortAll [n]).releaseUntested n).settleActivation) := by
    have h := hs.abortAll [n] (List.nodup_singleton n)
    have h' := h.law.releaseUntested n (by simp [hs.abortAll_one_nest hn, Nest.aborted])
    exact h.trans (h'.trans h'.law.settleActivation)
  unfold State.presenceLoss
  split
  next h => exact hs.steps_refl
  next h => exact hs.releaseUntested n (by simp [h])
  next h => exact habort (by simp [h, NestState.inTest])
  next h => exact habort (by simp [h, NestState.inTest])
  next h => exact habort (by simp [h, NestState.inTest])
  next h =>
    exact hs.steps (hs.agree.dropWaiting n h) (by simpa [State.dropWaiting] using hs.free)
      (SameRequests.of_eq (by simp [State.dropWaiting]) (by simp [State.dropWaiting])) (by simp [State.dropWaiting])
  next h => exact hs.emptied n h

theorem edge (hs : s.ChainLaw ρ) (f : InputFunction) (level : Bool) : s.Runs ρ (s.edge f level) := by
  unfold State.edge
  split
  · exact hs.presenceLoss _
  · exact hs.lineAbort _ (List.nodup_singleton _)
  · exact hs.lineAbort _ (by decide)
  · exact hs.lineAbort _ (by decide)
  · exact hs.lineStart _
  all_goals exact hs.steps_refl

/-! ### Completions -/

theorem makeVerdict (hs : s.ChainLaw ρ) (n : NestId) (hn : (s.nest n).state = .analysing) : s.Runs ρ (s.makeVerdict n) :=
  hs.steps (hs.agree.makeVerdict n hn) (by simpa using hs.free) (SameRequests.makeVerdict n s) (by simp)

theorem offerRecord (hs : s.ChainLaw ρ) (n : NestId) (tag : BitVec 16) {r : PointRecord} (hr : r.status ≠ .skipped) :
    s.Runs ρ (s.offerRecord n tag r) :=
  hs.steps (hs.agree.offerRecord n tag hr) (by simpa using hs.free) (SameRequests.of_eq (by simp) (by simp)) (by simp)

/-- The law after the answer to a CHAIN CHECK that has left the chain. -/
theorem checkAnswered (hs : s.ChainLaw ρ) (hruns : s.runs .station .chainCheck = true) (hn : t.NestsAgree false ρ)
    (hfree : t.chain.holder = none → t.chain.queue = []) (hst : t.station.running = none) (hslot : t.line.slot = s.line.slot)
    (hline : t.line.running = s.line.running) (hload : t.loader.state = .checking → s.loader.state = .checking) :
    t.ChainLaw ρ := by
  refine ⟨?_, hfree, fun p r h => ?_, fun h => ?_⟩
  · rwa [runs_of_none (p := .station) hst]
  · cases p
    · rw [show (t.port .station).running = none from hst] at h
      contradiction
    · have := hs.requests .line r (hline ▸ h)
      exact ⟨hslot.trans this.1, this.2⟩
  · have := hs.closing (hload h)
    rw [runs_unique hruns (by simp)] at this
    contradiction

theorem endCheckIfDue (hs : s.ChainLaw ρ) : s.endCheckIfDue.ChainLaw ρ := by
  unfold State.endCheckIfDue
  split
  next a b hholder _ _ _ =>
    have hruns : s.runs .station .chainCheck = true := hs.agree.checking hholder
    have hfree : s.freeChain.NestsAgree false ρ :=
      hs.agree.freeCheck hholder (fun _ => rfl) rfl rfl (fun _ => id) rfl
    have hreply {u : State} (hu : s.freeChain.SameNests u) (hreq : s.SameRequests u) (hl : u.loader = s.loader) :
        ((if u.runs .station .chainCheck then u.answerLate .station .ok 0 (checkReply a b)
          else u).grantHead.settleActivation).ChainLaw ρ := by
      rw [if_pos (by rw [hreq.runs, hruns])]
      have hagree : (u.answerLate .station .ok 0 (checkReply a b)).grantHead.NestsAgree false ρ :=
        ((hfree.congr hu).congr (by constructor <;> simp)).grantHead
      refine (hs.checkAnswered hruns hagree (NestsAgree.grantHead_free _) ?_ ?_ ?_ ?_).settleActivation.law
      · simp; rfl
      · rw [State.grantHead_line]
        exact (hreq .line).1
      · rw [State.grantHead_line]
        exact (hreq .line).2.1
      · simp [hl]
    dsimp only
    split
    · exact hreply (by constructor <;> rfl) (SameRequests.of_eq rfl rfl) rfl
    · refine hreply (by constructor <;> rfl) ?_ rfl
      exact (SameRequests.of_eq rfl rfl : s.SameRequests s.freeChain).trans
        ((SameRequests.withdraw _).trans (SameRequests.latchBoth _ _))
  · exact hs

theorem handOver (hs : s.ChainLaw ρ) (w : Half) (a : Analysed) : (s.handOver w a).ChainLaw ρ := by
  have hstatus (m : Int) : (recordOf m w a).status ≠ .skipped := by
    unfold recordOf
    dsimp only
    split <;> simp
  unfold State.handOver
  split
  · split
    next n _ =>
      have hoffer := (hs.offerRecord n w.tag (hstatus s.minResponse)).law
      dsimp only
      split
      next h => exact (hoffer.makeVerdict n h.1).law.settleActivation.law
      · exact hoffer
    · have hresult : (s.takeCheckResult w a.lfs).ChainLaw ρ := by
        unfold State.takeCheckResult
        refine (hs.steps (t := s.modChain _) ?_ ?_ (SameRequests.of_eq rfl rfl) id).law
        · obtain ⟨h1, h2, h3, h4, h5, h6, h7⟩ := hs.agree
          cases w.input <;> exact ⟨h1, h2, h3, h4, h5, h6, h7⟩
        · cases w.input <;> exact hs.free
      exact hresult.endCheckIfDue
  · exact hs

theorem endFadeOut (hs : s.ChainLaw ρ) : s.endFadeOut.ChainLaw ρ := by
  unfold State.endFadeOut
  split
  next n hn =>
    have hm : (s.nest n).state = .measuring := (hs.agree.measuring n).mpr (hs.agree.generator n hn)
    have hagree : ((s.fallSilent.modNest n fun x => { x with state := .analysing }).freeChain).NestsAgree
        (s.runs .station .chainCheck) ρ := by
      refine hs.agree.ends n (fun x => { x with state := .analysing }) hm (.inr rfl)
        (fun _ hx => ⟨hx.skipped, fun _ => hx.unruled (.inl hm), hx.pass⟩) (fun k => ?_) ?_ ?_ ?_
      · cases n <;> cases k <;> rfl
      all_goals simp [State.freeChain, State.fallSilent]
    have hstate : (((s.fallSilent.modNest n fun x => { x with state := .analysing }).freeChain).nest n).state = .analysing := by
      cases n <;> rfl
    have hgrant {u : State} (hu : u.NestsAgree (s.runs .station .chainCheck) ρ) (hreq : s.SameRequests u)
        (hl : u.loader = s.loader) : u.grantHead.ChainLaw ρ :=
      (hs.steps hu.grantHead (NestsAgree.grantHead_free _)
        (hreq.trans (SameRequests.of_eq (by simp) (by simp))) (by simp [hl])).law
    have hsame : s.SameRequests ((s.fallSilent.modNest n fun x => { x with state := .analysing }).freeChain) :=
      SameRequests.of_eq (by simp) (by simp)
    dsimp only
    split
    · exact (hgrant (hagree.makeVerdict n hstate) (hsame.trans (SameRequests.makeVerdict n _)) (by simp)).settleActivation.law
    · exact hgrant hagree hsame (by simp)
  next hc =>
    refine endCheckIfDue (hs.steps (t := s.fallSilent.modChain _) ?_ ?_ (SameRequests.of_eq rfl rfl) id).law
    · obtain ⟨h1, h2, -, h4, h5, h6, h7⟩ := hs.agree
      exact ⟨h1, h2, (fun _ h => by cases h), h4, h5, h6, h7⟩
    · exact hs.free
  next =>
    refine (hs.steps (t := s.fallSilent) ?_ hs.free (SameRequests.of_eq rfl rfl) id).law
    obtain ⟨h1, h2, -, h4, h5, h6, h7⟩ := hs.agree
    exact ⟨h1, h2, (fun _ h => by cases h), h4, h5, h6, h7⟩

theorem endContaminated (hs : s.ChainLaw ρ) (i : HalfId) (g : Guard) : (s.endContaminated i g).ChainLaw ρ := by
  refine hs.congr ?_ (SameRequests.of_eq ?_ ?_) ?_
  · constructor <;> simp [State.endContaminated]
  all_goals simp [State.endContaminated]

theorem stepOn (hs : s.ChainLaw ρ) : s.stepOn.ChainLaw ρ := by
  refine hs.congr ⟨by simp, by simp, by simp, ?_, by simp⟩ (SameRequests.of_eq (by simp) (by simp)) (by simp)
  unfold State.stepOn
  dsimp only
  split <;> rfl

theorem decideWindow (hs : s.ChainLaw ρ) (i : HalfId) : (s.decideWindow i).ChainLaw ρ := by
  have hfreed : (s.freeOne i).ChainLaw ρ := (hs.same (by constructor <;> simp) (SameRequests.of_eq (by simp) (by simp)) (by simp)).law
  have hended (n : NestId) (g : BitVec 16) {r : PointRecord} (hr : r.status ≠ .skipped) (f : Counts → Counts) :
      (((s.freeOne i).offerRecord n g r).count f).stepOn.ChainLaw ρ :=
    stepOn ((hfreed.offerRecord n g hr).law.congr (by constructor <;> rfl) (SameRequests.of_eq rfl rfl) id)
  have hclean : (s.endClean i).ChainLaw ρ := by
    have hqueued : (s.queueHalf i).ChainLaw ρ :=
      (hs.same (by constructor <;> simp) (SameRequests.of_eq (by simp) (by simp)) (by simp)).law
    exact (hqueued.stepOn.same (by constructor <;> simp [State.endClean])
      (SameRequests.of_eq (by simp [State.endClean]) (by simp [State.endClean])) (by simp [State.endClean])).law
  unfold State.decideWindow
  dsimp only
  split
  · exact hclean
  · exact hs
  · split_ifs
    · exact hended _ _ (by simp [unmeasured]) _
    · exact hs.endContaminated i _
    · exact hended _ _ (by simp [unmeasured]) _
    · exact hclean

end State.ChainLaw
end Sys2Proof.Machine
end

section
/-! PROOF. The law of the chain through the requests and the events of a step (R36, R38, R58, R107). -/

namespace Sys2Proof.Machine
open Sys2Proof

/-! ### A CHAIN CHECK that is taken and one that is abandoned, and reset -/

namespace State.NestsAgree
variable {b : Bool} {ρ : Prop} {s : State}

/-- A CHAIN CHECK that is taken joins the queue (R38). -/
theorem joinsCheck (hs : s.NestsAgree false ρ) :
    (s.modChain fun x => { x with queue := x.queue ++ [.check] }).NestsAgree true ρ := by
  obtain ⟨h1, h2, h3, h4, h5, h6, h7⟩ := hs
  refine ⟨h1, fun n => (Eq.trans ?_ (h2 n)), h3, h4, ?_, fun _ => rfl, h7⟩
  · simp [List.count_append]
  · have : s.chain.holder ≠ some .check := fun h => by simpa using h6 h
    simpa [List.count_append, this] using h5

/-- A CHAIN CHECK that waits leaves the queue (R38). -/
theorem leavesCheck (hs : s.NestsAgree true ρ) (hwaits : s.chain.holder ≠ some .check) :
    (s.leaveQueue .check).NestsAgree false ρ := by
  obtain ⟨h1, h2, h3, h4, h5, h6, h7⟩ := hs
  refine ⟨h1, fun n => (Eq.trans ?_ (h2 n)), h3, h4, ?_, fun h => absurd h hwaits, h7⟩
  · simp [State.leaveQueue, List.count_filter]
  · simp [State.leaveQueue, List.count_eq_zero]

/-- Nests, chain, generator and wait list at their reset values (R35, R187). -/
theorem at_reset (hA : s.nestA = Nest.reset) (hB : s.nestB = Nest.reset) (hchain : s.chain = Chain.reset)
    (hgen : s.gen.claimant = none) (hwait : s.marker.waitList = []) : s.NestsAgree false ρ := by
  have hn (n : NestId) : s.nest n = Nest.reset := by cases n <;> assumption
  constructor <;> simp only [hn, hchain, hgen, hwait]
  all_goals simp [Nest.reset, Chain.reset]
  exact fun _ _ => ⟨by simp [Nest.hasStatus], by simp, by simp⟩

end State.NestsAgree

namespace State.ChainLaw
variable {ρ : Prop} {s t : State} {p : PortId}

theorem not_runs (hs : s.ChainLaw ρ) (h : (s.port p).slot ≠ .running) (r : Request) : s.runs p r = false := by
  refine runs_of_none ?_ r
  rw [Option.eq_none_iff_forall_ne_some]
  exact fun q hq => h (hs.requests p q hq).1

theorem not_runs_untaken (h : ∀ r, (s.port p).running = some r → r.taken = false) (x : Request) : s.runs p x = false := by
  rw [← Bool.not_eq_true]
  intro hx
  obtain ⟨q, hq, -, ht⟩ := (runs_iff p x s).mp hx
  rw [h q hq] at ht
  contradiction

/-- A request that is neither a CHAIN CHECK nor a PLAN CLOSE comes into the slot, or is taken there. -/
theorem carries (hs : s.ChainLaw ρ) {f : Port → Port} {r : RunningRequest}
    (hslot : (f (s.port p)).slot = .running) (hrun : (f (s.port p)).running = some r) (hp : onPort p r.request = true)
    (hnone : ∀ x, s.runs p x = false) (hr : r.taken = true → r.request ≠ .chainCheck ∧ r.request ≠ .planClose) :
    (s.modPort p f).ChainLaw ρ := by
  have hport : (s.modPort p f).port p = f (s.port p) := by cases p <;> rfl
  have hruns (x : Request) (hx : x = .chainCheck ∨ x = .planClose) (k : PortId) : (s.modPort p f).runs k x = s.runs k x := by
    by_cases e : k = p
    · subst e
      rw [hnone, ← Bool.not_eq_true]
      intro h
      obtain ⟨q, hq, rfl, ht⟩ := (runs_iff _ _ _).mp h
      rw [hport, hrun] at hq
      cases hq
      rcases hx with hx | hx
      · exact (hr ht).1 hx
      · exact (hr ht).2 hx
    · exact runs_modPort_other e f x s
  refine ⟨?_, by simpa using hs.free, fun k q h => ?_, fun h => ?_⟩
  · rw [hruns _ (.inl rfl)]
    exact hs.agree.congr (by constructor <;> simp)
  · by_cases e : k = p
    · subst e
      rw [hport, hrun] at h
      cases h
      rw [hport]
      exact ⟨hslot, hp⟩
    · have : (s.modPort p f).port k = s.port k := by cases p <;> cases k <;> first | rfl | exact absurd rfl e
      rw [this] at h ⊢
      exact hs.requests k q h
  · rw [hruns _ (.inr rfl)]
    exact hs.closing (by simpa using h)

end State.ChainLaw

/-! ### Requests that are answered as they are taken -/

/-- The law holds while port `p` has a request that is neither a CHAIN CHECK nor a PLAN CLOSE. -/
structure State.Serves (ρ : Prop) (p : PortId) (s : State) : Prop where
  law   : s.ChainLaw ρ
  check : s.runs p .chainCheck = false
  close : s.runs p .planClose = false

namespace State.Serves
variable {ρ : Prop} {s t : State} {p : PortId}

theorem trans (h : s.Serves ρ p) (ht : s.Runs ρ t) : t.Serves ρ p :=
  ⟨ht.law, (ht.same p _ (by simp)).trans h.check, (ht.same p _ (by simp)).trans h.close⟩

theorem answer (h : s.Serves ρ p) (st : Status) (sub : Nat) (body : List Byte) : (s.answer p st sub body).ChainLaw ρ :=
  h.law.ended rfl h.check fun _ => h.close

theorem same (h : s.Serves ρ p) (hn : s.SameNests t) (hreq : s.SameRequests t)
    (hload : t.loader.state = .checking → s.loader.state = .checking) : t.Serves ρ p :=
  h.trans (h.law.same hn hreq hload)

theorem modLoader (h : s.Serves ρ p) (f : Loader → Loader) (hf : (f s.loader).state ≠ .checking) :
    (s.modLoader f).Serves ρ p :=
  h.same (by constructor <;> rfl) (SameRequests.of_eq rfl rfl) fun e => absurd e hf

theorem modUnits (h : s.Serves ρ p) (f : UnitTable → UnitTable) : (s.modUnits f).Serves ρ p :=
  h.same (by constructor <;> rfl) (SameRequests.of_eq rfl rfl) id

theorem takePlanOpen (h : s.Serves ρ p) (q : Vector Byte 64) : (takePlanOpen p q s).ChainLaw ρ := by
  unfold Machine.takePlanOpen
  dsimp only
  split_ifs
  · exact h.answer _ _ _
  · exact h.answer _ _ _
  · split
    · exact (h.modLoader _ (by simp)).answer _ _ _
    · exact (h.modLoader _ (by simp)).answer _ _ _
    · exact (h.modLoader _ (by simp)).answer _ _ _
    · exact h.answer _ _ _
    · exact h.answer _ _ _

theorem takePlanData (h : s.Serves ρ p) (q : Vector Byte 64) : (takePlanData p q s).ChainLaw ρ := by
  unfold Machine.takePlanData
  dsimp only
  split
  · exact h.answer _ _ _
  · split
    next hl => exact (h.modLoader _ (by simp [Loader.store, hl])).answer _ _ _
    all_goals exact h.answer _ _ _

theorem takePlanActivate (h : s.Serves ρ p) (q : Vector Byte 64) : (takePlanActivate p q s).ChainLaw ρ := by
  unfold Machine.takePlanActivate
  split
  · split
    · exact (h.modLoader _ (by simp)).answer _ _ _
    · exact (h.trans h.law.activate).answer _ _ _
  all_goals exact h.answer _ _ _

theorem takePlanRevoke (h : s.Serves ρ p) (q : Vector Byte 64) : (takePlanRevoke p q s).ChainLaw ρ := by
  unfold Machine.takePlanRevoke
  split
  · exact (h.modLoader _ (by simp)).answer _ _ _
  · exact (h.modLoader _ (by simp)).answer _ _ _
  all_goals exact h.answer _ _ _

theorem takeCalibrate (h : s.Serves ρ p) (q : Vector Byte 64) : (takeCalibrate p q s).ChainLaw ρ := by
  have hset (f : Capture → Capture) : (s.modCapture f).withdraw.Serves ρ p :=
    h.same (by constructor <;> simp) (SameRequests.withdraw (s.modCapture f)) (by simp)
  refine State.Serves.answer ?_ _ _ _
  split
  · exact hset _
  · exact hset _

theorem takeSerialBase (h : s.Serves ρ p) (q : Vector Byte 64) : (takeSerialBase p q s).ChainLaw ρ := by
  unfold Machine.takeSerialBase
  dsimp only
  split
  · exact h.answer _ _ _
  · exact (h.modUnits _).answer _ _ _

theorem takeCloseShift (h : s.Serves ρ p) (q : Vector Byte 64) : (takeCloseShift p q s).ChainLaw ρ :=
  (h.same (by constructor <;> simp) (SameRequests.of_eq (by simp) (by simp)) (by simp)).answer _ _ _

theorem takeMarkerStart (h : s.Serves ρ p) (q : Vector Byte 64) : (takeMarkerStart p q s).ChainLaw ρ := by
  unfold Machine.takeMarkerStart
  split_ifs
  · exact h.answer _ _ _
  · exact h.answer _ _ _
  · have hall := h.law.agree.modMarker Marker.negotiateAll (keepsJobs_negotiateAll _).2.1
    exact (h.law.steps hall.startBus (by simpa using h.law.free) (SameRequests.of_eq (by simp) (by simp)) (by simp)).law

/-- A unit is loaded into an EMPTY nest (R26). -/
theorem load (h : s.Serves ρ p) (n : NestId) (hn : (s.nest n).state = .empty) (kind : UnitKind) (serial : Option Nat)
    (attempt : Nat) : (s.modNest n (Nest.loaded kind serial attempt)).Serves ρ p :=
  h.trans <| h.law.steps
    (h.law.agree.enter n _ (by simp [hn]) (by simp [Nest.loaded]) fun _ hx => hx.rest rfl rfl rfl (by simp [Nest.loaded]))
    (by simpa using h.law.free) (SameRequests.modNest n _ s) (by simp)

theorem takeLoadUnit (h : s.Serves ρ p) (q : Vector Byte 64) : (takeLoadUnit p q s).ChainLaw ρ := by
  have hload {t : State} (ht : t.Serves ρ p) {n : NestId} (hn : (t.nest n).state = .empty) (kind : UnitKind)
      (serial : Option Nat) (attempt : Nat) (body : List Byte) :
      ((t.modNest n (Nest.loaded kind serial attempt)).ok p body).ChainLaw ρ := (ht.load n hn kind serial attempt).answer _ _ _
  have hcount {t : State} (ht : t.Serves ρ p) (f : Counts → Counts) : (t.count f).Serves ρ p :=
    ht.same (by constructor <;> rfl) (SameRequests.of_eq rfl rfl) id
  unfold Machine.takeLoadUnit
  dsimp only
  split
  · exact h.answer _ _ _
  next n _ =>
    split_ifs with _ _ hn
    · exact h.answer _ _ _
    · exact h.answer _ _ _
    · exact h.answer _ _ _
    · unfold State.loadNew
      dsimp only
      split
      · exact (h.modUnits _).answer _ _ _
      · exact hload (hcount (h.modUnits _) _) (by simpa using hn) _ _ _ _
    · unfold State.loadRetest
      split
      · exact h.answer _ _ _
      · split
        · exact h.answer _ _ _
        · exact hload (h.modUnits _) (by simpa using hn) _ _ _ _
    · exact hload h (by simpa using hn) _ _ _ _

theorem takeReleaseNest (h : s.Serves ρ p) (q : Vector Byte 64) : (takeReleaseNest p q s).ChainLaw ρ := by
  unfold Machine.takeReleaseNest
  split
  · exact h.answer _ _ _
  next n _ =>
    split
    next hn => exact (h.trans (h.law.releaseUntested n (by simp [hn]))).answer _ _ _
    next hn => exact (h.trans (h.law.emptied n hn)).answer _ _ _
    all_goals exact h.answer _ _ _

theorem takeAbortNest (h : s.Serves ρ p) (q : Vector Byte 64) : (takeAbortNest p q s).ChainLaw ρ := by
  unfold Machine.takeAbortNest
  split
  · exact h.answer _ _ _
  next n _ =>
    split
    · have habort := h.law.abortAll [n] (List.nodup_singleton n)
      exact (h.trans (habort.trans habort.law.settleActivation)).answer _ _ _
    · exact h.answer _ _ _

theorem takeStartNest (h : s.Serves ρ p) (q : Vector Byte 64) : (takeStartNest p q s).ChainLaw ρ := by
  unfold Machine.takeStartNest
  split
  · exact h.answer _ _ _
  next n _ =>
    split
    · exact h.answer _ _ _
    next hok => exact (h.trans (h.law.acceptStart n (NestsAgree.startRefusal_loaded hok))).answer _ _ _

theorem takeLineEvent (h : s.Serves ρ p) (q : Vector Byte 64) : (takeLineEvent p q s).ChainLaw ρ := by
  have hset (l : Lines) : State.Serves ρ p { s with lines := l } :=
    h.same (by constructor <;> rfl) (SameRequests.of_eq rfl rfl) id
  unfold Machine.takeLineEvent
  dsimp only
  split
  · exact h.answer _ _ _
  · split_ifs
    · exact h.answer _ _ _
    · exact h.answer _ _ _
    · exact (h.trans (h.law.lineStart _)).answer _ _ _
  · split_ifs
    · exact h.answer _ _ _
    · exact h.answer _ _ _
    · exact (hset _).answer _ _ _
    · exact ((hset _).trans ((hset _).law.edge _ _)).answer _ _ _

theorem takeReprint (h : s.Serves ρ p) (q : Vector Byte 64) : (takeReprint p q s).ChainLaw ρ := by
  unfold Machine.takeReprint
  dsimp only
  split
  · exact h.answer _ _ _
  · split
    · exact h.answer _ _ _
    next j _ =>
      split
      · exact h.answer _ _ _
      · exact (h.trans (h.law.steps (h.law.agree.enqueue _) (by simpa using h.law.free) (SameRequests.enqueue _ s)
          (by simp))).answer _ _ _

end State.Serves

namespace State.ChainLaw
variable {ρ : Prop} {s t : State} {p : PortId}

/-! ### STATION RESET and the long requests -/

theorem endLineRequest_line (s : State) (r : RunningRequest) (h : s.endLineRequest.line.running = some r) :
    s.endLineRequest.line = s.line := by
  unfold State.endLineRequest at h ⊢
  split
  · split
    · rfl
    · simp_all [State.answerLate, State.answer, State.latchOn, State.modPort, Port.answered, Port.latch]
  · rfl

theorem takeStationReset (hs : s.ChainLaw ρ) (q : Vector Byte 64) : (Machine.takeStationReset .station q s).ChainLaw ρ := by
  obtain ⟨f, hf⟩ := endLineRequest_eq_modPort s.resetBlocks
  have hstation : (Machine.takeStationReset .station q s).station.running = none := rfl
  have hline : (Machine.takeStationReset .station q s).line.slot = s.resetBlocks.endLineRequest.line.slot ∧
      (Machine.takeStationReset .station q s).line.running = s.resetBlocks.endLineRequest.line.running := ⟨rfl, rfl⟩
  refine ⟨?_, fun _ => ?_, fun k r h => ?_, fun h => ?_⟩
  · rw [runs_of_none (p := .station) hstation]
    refine NestsAgree.at_reset ?_ ?_ ?_ ?_ ?_
    all_goals simp [Machine.takeStationReset, hf]
    all_goals simp [State.resetBlocks, Marker.reset, Generator.reset]
  · have : (Machine.takeStationReset .station q s).chain = Chain.reset := by simp [Machine.takeStationReset, hf]; rfl
    simp [this, Chain.reset]
  · cases k
    · rw [show ((Machine.takeStationReset .station q s).port .station).running = none from hstation] at h
      contradiction
    · have hrun : s.resetBlocks.endLineRequest.line.running = some r := hline.2 ▸ h
      have hsame := endLineRequest_line _ _ hrun
      rw [hsame] at hrun
      have hsame' : s.resetBlocks.line = s.port .line := by simp [State.resetBlocks, State.resetLines]; rfl
      rw [hsame'] at hrun hsame
      have := hs.requests .line r hrun
      exact ⟨hline.1.trans (hsame ▸ this.1), this.2⟩
  · have : (Machine.takeStationReset .station q s).loader.state = .idle := by simp [Machine.takeStationReset, hf]; rfl
    rw [this] at h
    contradiction

theorem not_runs_waiting {r : Request} {params : Vector Byte 64} (hrun : (s.port p).running = some ⟨r, params, false⟩)
    (x : Request) : s.runs p x = false :=
  not_runs_untaken (fun _ hx => by rw [hrun] at hx; cases hx; rfl) x

theorem takeChainCheck (hs : s.ChainLaw ρ) {q params : Vector Byte 64}
    (hrun : s.station.running = some ⟨.chainCheck, params, false⟩) :
    (Machine.takeChainCheck .station q (s.modPort .station Port.markTaken)).ChainLaw ρ := by
  have huntaken := not_runs_waiting (p := .station) hrun
  have hagree := hs.agree
  rw [huntaken] at hagree
  have hjoin := (NestsAgree.joinsCheck (hagree.congr (t := s.modPort .station Port.markTaken) (by constructor <;> rfl))).grantHead
  have hst : (Machine.takeChainCheck .station q (s.modPort .station Port.markTaken)).station = Port.markTaken s.station := by
    simp [Machine.takeChainCheck, State.joinQueue, State.modPort]
  have hli : (Machine.takeChainCheck .station q (s.modPort .station Port.markTaken)).line = s.line := by
    simp [Machine.takeChainCheck, State.joinQueue]
  have hruns : (Machine.takeChainCheck .station q (s.modPort .station Port.markTaken)).runs .station .chainCheck = true := by
    simp [State.runs, State.port, hst, Port.markTaken, hrun]
  refine ⟨hruns ▸ hjoin, NestsAgree.grantHead_free _, fun k r h => ?_, fun h => ?_⟩
  · cases k
    · have hreq := hs.requests .station _ hrun
      simp only [State.port, hst, Port.markTaken, hrun] at h ⊢
      cases h
      exact hreq
    · simp only [State.port, hli] at h ⊢
      exact hs.requests .line r h
  · have := hs.closing (by simpa [Machine.takeChainCheck, State.joinQueue] using h)
    rw [huntaken] at this
    contradiction

theorem takePlanClose (hs : s.ChainLaw ρ) {q params : Vector Byte 64}
    (hrun : s.station.running = some ⟨.planClose, params, false⟩) :
    (Machine.takePlanClose .station q (s.modPort .station Port.markTaken)).ChainLaw ρ := by
  have huntaken := not_runs_waiting (p := .station) hrun
  have hrefused : ((s.modPort .station Port.markTaken).planState .station).ChainLaw ρ := by
    rw [State.planState, State.planReply, answer_markTaken]
    exact hs.ended rfl (huntaken _) fun _ => huntaken _
  unfold Machine.takePlanClose
  split
  · refine ⟨?_, hs.free, fun k r h => ?_, fun _ => ?_⟩
    · have hcheck : ((s.modPort .station Port.markTaken).modLoader fun l =>
          { l with state := .checking, burstRunning := false }).runs .station .chainCheck = s.runs .station .chainCheck := by
        rw [huntaken]
        simp [State.runs, State.port, State.modLoader, State.modPort, Port.markTaken, hrun]
      rw [hcheck]
      exact hs.agree.congr (by constructor <;> rfl)
    · cases k
      · have hreq := hs.requests .station _ hrun
        simp only [State.port, State.modLoader, State.modPort, Port.markTaken, hrun] at h ⊢
        cases h
        exact hreq
      · exact hs.requests .line r h
    · simp [State.runs, State.port, State.modLoader, State.modPort, Port.markTaken, hrun]
  all_goals exact hrefused

/-- The law holds while the block that has taken a request serves it. -/
theorem serves (hs : s.ChainLaw ρ) {r : Request} {params : Vector Byte 64} (hrun : (s.port p).running = some ⟨r, params, false⟩)
    (hc : r ≠ .chainCheck) (hp : r ≠ .planClose) : (s.modPort p Port.markTaken).Serves ρ p := by
  have hreq := hs.requests p _ hrun
  have hmark : (Port.markTaken (s.port p)).running = some ⟨r, params, true⟩ := by simp [Port.markTaken, hrun]
  have hruns (x : Request) (hx : r ≠ x) : (s.modPort p Port.markTaken).runs p x = false := by
    cases p <;> simp_all [State.runs, State.port, State.modPort]
  exact ⟨hs.carries hreq.1 hmark hreq.2 (not_runs_waiting hrun) fun _ => ⟨hc, hp⟩, hruns _ hc, hruns _ hp⟩

/-- The taking of a request that waits (R170). -/
theorem taken (hs : s.ChainLaw ρ) {r : Request} {params : Vector Byte 64} (hr : readsOnly r = false)
    (hrun : (s.port p).running = some ⟨r, params, false⟩) : (takeOf r p params (s.modPort p Port.markTaken)).ChainLaw ρ := by
  have hport := (hs.requests p _ hrun).2
  have hserves := hs.serves hrun
  cases r <;> try contradiction
  case planClose =>
    obtain rfl : p = .station := by simpa [onPort] using hport
    exact hs.takePlanClose (q := params) hrun
  case chainCheck =>
    obtain rfl : p = .station := by simpa [onPort] using hport
    exact hs.takeChainCheck (q := params) hrun
  case stationReset =>
    obtain rfl : p = .station := by simpa [onPort] using hport
    exact (hserves (by simp) (by simp)).law.takeStationReset params
  case planOpen => exact (hserves (by simp) (by simp)).takePlanOpen params
  case planData => exact (hserves (by simp) (by simp)).takePlanData params
  case planActivate => exact (hserves (by simp) (by simp)).takePlanActivate params
  case planRevoke => exact (hserves (by simp) (by simp)).takePlanRevoke params
  case calibrate => exact (hserves (by simp) (by simp)).takeCalibrate params
  case serialBase => exact (hserves (by simp) (by simp)).takeSerialBase params
  case closeShift => exact (hserves (by simp) (by simp)).takeCloseShift params
  case markerStart => exact (hserves (by simp) (by simp)).takeMarkerStart params
  case loadUnit => exact (hserves (by simp) (by simp)).takeLoadUnit params
  case releaseNest => exact (hserves (by simp) (by simp)).takeReleaseNest params
  case lineEvent => exact (hserves (by simp) (by simp)).takeLineEvent params
  case startNest => exact (hserves (by simp) (by simp)).takeStartNest params
  case abortNest => exact (hserves (by simp) (by simp)).takeAbortNest params
  case reprint => exact (hserves (by simp) (by simp)).takeReprint params
  case abandon => exact (hserves (by simp) (by simp)).law

/-! ### ABANDON -/

theorem abandonCheck (hs : s.ChainLaw ρ) (h : s.runs p .chainCheck = true) : (s.abandonCheck p).ChainLaw ρ := by
  obtain rfl : p = .station := by simpa [onPort] using runs_onPort hs h
  unfold State.abandonCheck
  split
  next hheld =>
    have hfree : (((s.silence.freeWindows .check).freeChain).endAbandoned .station [] .done).NestsAgree false ρ := by
      refine hs.agree.freeCheck hheld (fun k => ?_) ?_ ?_ (fun n h => ?_) ?_
      · cases k <;> simp [State.nest, State.endAbandoned, State.freeChain]
      · simp [State.endAbandoned, State.freeChain]
      · simp [State.endAbandoned, State.freeChain]
      · simp [State.endAbandoned, State.freeChain, State.silence] at h
      · simp [State.endAbandoned, State.freeChain]
    refine (hs.checkAnswered h hfree.grantHead (NestsAgree.grantHead_free _) ?_ ?_ ?_ ?_).settleActivation.law
    all_goals simp [State.endAbandoned, State.freeChain, State.modPort, Port.answered]
  next hwaits =>
    have hagree := hs.agree
    rw [h] at hagree
    refine hs.checkAnswered h ((hagree.leavesCheck hwaits).congr (by constructor <;> rfl)) (fun hnone => ?_) rfl rfl rfl id
    have : s.chain.queue = [] := hs.free hnone
    simp [State.endAbandoned, State.leaveQueue, this]

theorem abandonClose (hs : s.ChainLaw ρ) (h : s.runs p .planClose = true) : (s.abandonClose p).ChainLaw ρ := by
  have hopen := (hs.same (t := s.modLoader Loader.receiveAgain) (by constructor <;> rfl) (SameRequests.of_eq rfl rfl)
    (by simp [Loader.receiveAgain])).law
  exact hopen.ended rfl (runs_unique h (by simp)) (by simp [Loader.receiveAgain])

theorem abandonMarker (hs : s.ChainLaw ρ) (h : s.runs p .markerStart = true) : (s.abandonMarker p).ChainLaw ρ := by
  have hdown := hs.same (t := s.modMarker fun m =>
    { m with devices := m.devices.map Device.standDown, bus := m.bus.map Transaction.discardProbe })
    (by constructor <;> rfl) (SameRequests.of_eq rfl rfl) id
  have hend {t : State} (ht : s.Runs ρ t) : (t.startBus.endAbandoned p [] .done).ChainLaw ρ := by
    have hbus := ht.trans (ht.law.steps ht.law.agree.startBus (by simpa using ht.law.free)
      (SameRequests.of_eq (by simp) (by simp)) (by simp))
    refine hbus.law.ended rfl ?_ fun _ => ?_
    · rw [hbus.same p _ (by simp)]
      exact runs_unique h (by simp)
    · rw [hbus.same p _ (by simp)]
      exact runs_unique h (by simp)
  unfold State.abandonMarker
  dsimp only
  split
  · exact hend (hdown.trans (hdown.law.steps hdown.law.agree.rematchHead (by simpa using hdown.law.free)
      (SameRequests.rematchHead _) (by simp)))
  · exact hend hdown

/-! ### The events of a step -/

theorem released (a : BitVec 2) (b : ReleasePins) (s : State) : (s.released a b).ChainLaw ρ := by
  refine ⟨?_, fun _ => rfl, fun k r h => ?_, fun h => ?_⟩
  · rw [runs_of_none (p := .station) rfl]
    exact NestsAgree.at_reset rfl rfl rfl rfl rfl
  · cases k <;> cases h
  · cases h

theorem stopped (hs : s.ChainLaw ρ) : s.stopWork.ChainLaw ρ := by
  refine (hs.steps (t := s.stopWork) ?_ hs.free (SameRequests.of_eq rfl rfl) ?_).law
  · obtain ⟨h1, h2, -, h4, h5, h6, h7⟩ := hs.agree
    exact ⟨h1, h2, (fun _ h => by cases h), h4, h5, h6, h7⟩
  · simp only [State.stopWork]
    split <;> simp

theorem checked (hs : s.ChainLaw ρ) (r : CheckResult) : s.Runs ρ (s.checked r) ∧ (s.checked r).loader.state ≠ .checking := by
  have hload (f : Loader → Loader) (e : Event) (hf : (f s.loader).state ≠ .checking) :
      s.Runs ρ ((s.modLoader f).latchBoth e) ∧ ((s.modLoader f).latchBoth e).loader.state ≠ .checking :=
    ⟨hs.same (by constructor <;> simp) (SameRequests.latchBoth e (s.modLoader f)) (fun h => absurd (by simpa using h) hf), by
      simpa using hf⟩
  unfold State.checked
  split
  · exact hload _ _ (by simp)
  · exact hload _ _ (by simp [Loader.receiveAgain])

theorem checksEnd (hs : s.ChainLaw ρ) (hc : s.loader.state = .checking) : (s.endChecks s.checkResult).ChainLaw ρ := by
  obtain ⟨hchecked, hload⟩ := hs.checked s.checkResult
  rw [endChecks_eq]
  have hanswered : (State.answerLate .station .ok 0 (loaderBody (s.checked s.checkResult).loader ++
      (s.checked s.checkResult).checkBody s.checkResult) (s.checked s.checkResult)).ChainLaw ρ := by
    refine hchecked.law.ended (p := .station) (f := fun q => (Port.answered .ok 0 _ _ q).latch .requestDone) rfl ?_
      fun h => absurd h hload
    rw [hchecked.same .station _ (by simp)]
    exact runs_unique (hs.closing hc) (by simp)
  exact hanswered.congr (by constructor <;> rfl) (SameRequests.of_eq rfl rfl) id

theorem beginIfDue_claimant (s : State) : s.beginIfDue.gen.claimant = s.gen.claimant := by
  unfold State.beginIfDue
  split
  · simp [State.beginWindow]
  · rfl

theorem probeOutcome_frame (d : Nat) (r : ProbeResult) (s : State) :
    (s.probeOutcome d r).chain = s.chain ∧ (s.probeOutcome d r).loader = s.loader := by
  cases r <;> exact ⟨by simp [State.probeOutcome], by simp [State.probeOutcome]⟩

theorem pageLive_frame (d : Nat) (r : PageResult) (s : State) :
    (s.pageLive d r).chain = s.chain ∧ (s.pageLive d r).loader = s.loader := by
  unfold State.pageLive State.pageAccepted State.linkLoss
  dsimp only
  split
  · split <;> simp
  · simp
  · simp
  · split
    · simp
    · split <;> simp

/-- Each event of a step keeps the law of the chain and of the nest records. -/
theorem keptByEvents (ρ : Prop) : KeptByEvents (State.ChainLaw ρ) where
  queue s _ hs := hs.congr (by constructor <;> rfl) (SameRequests.of_eq rfl rfl) id
  hold s _ hs := hs.congr (by constructor <;> rfl) (SameRequests.of_eq rfl rfl) id
  stopped _ hs := hs.stopped
  released s a b := released a b s
  pins s _ _ hs := hs.congr (by constructor <;> rfl) (SameRequests.of_eq rfl rfl) id
  edge _ f level hs := (hs.edge f level).law
  window s p f hf hs :=
    (hs.steps_of_slots (hs.agree.congr (by constructor <;> simp)) (by simpa using hs.free)
      (fun r => by cases p <;> cases r <;> simp [State.port, State.modPort, hf _]) (by simp)).law
  begun s p r params hslot hp hs := hs.carries rfl rfl hp (hs.not_runs hslot) (by simp)
  answered s p code params st hslot _ hs := hs.ended rfl (hs.not_runs hslot _) fun _ => hs.not_runs hslot _
  answer s p st sub body h hs := hs.ended rfl (not_runs_untaken h _) fun _ => not_runs_untaken h _
  spend s _ hs := hs.congr (by constructor <;> rfl) (SameRequests.of_eq rfl rfl) id
  readEvents s p hs :=
    hs.congr (by constructor <;> simp) (SameRequests.modPort p (fun x => { x with events := 0, unverified := !s.verified }) (fun _ => ⟨rfl, rfl, rfl⟩) s) (by simp)
  taken _ p _ _ hr hrun hs := hs.taken hr hrun
  abandoned s p hs := by
    refine abandonRequest_kept (fun h => ?_) (fun h => ?_) hs.abandonClose hs.abandonCheck hs.abandonMarker
    · have hrun : (s.port p).running = none := by
        rw [Option.eq_none_iff_forall_ne_some]
        intro q hq
        rcases h with h | h
        · exact h (hs.requests p q hq).1
        · rw [h] at hq
          contradiction
      exact hs.ended hrun (runs_of_none hrun _) fun _ => runs_of_none hrun _
    · exact hs.ended rfl (h _ (.inr (.inl rfl))) fun _ => h _ (.inl rfl)
  checks _ hc hs := hs.checksEnd hc
  burst s hs := hs.congr (by constructor <;> simp) (SameRequests.latchBoth _ _) (by simp)
  samples s g h hg hs := hs.congr ⟨rfl, rfl, rfl, hg, rfl⟩ (SameRequests.of_eq rfl rfl) id
  opens s hs :=
    hs.congr ⟨by simp, by simp, by simp, beginIfDue_claimant s, by simp⟩ (SameRequests.of_eq (by simp) (by simp)) (by simp)
  closes s i _ _ hs :=
    decideWindow (hs.congr (by constructor <;> simp) (SameRequests.of_eq (by simp) (by simp)) (by simp)) i
  fades _ hs := hs.endFadeOut
  completion s i _ hs := by
    have hfreed : State.ChainLaw ρ (State.freeOne i { s with engine := s.engine.finished (analyse (s.half i)) (s.half i).length }) :=
      hs.congr (by constructor <;> simp) (SameRequests.of_eq (by simp) (by simp)) (by simp)
    exact (hfreed.handOver (s.half i) (analyse (s.half i))).congr (by constructor <;> simp [State.completeAnalysis])
      (SameRequests.of_eq (by simp [State.completeAnalysis]) (by simp [State.completeAnalysis])) (by simp [State.completeAnalysis])
  bus s f hf hs := (hs.steps (hs.agree.modMarker f (hf _).2.1) hs.free (SameRequests.of_eq rfl rfl) id).law
  probe s d r hs :=
    (hs.steps ((NestsAgree.keptByMarkerOps _ _).probeOutcome hs.agree d r) (by simpa [probeOutcome_frame] using hs.free) (SameRequests.probeOutcome d r s)
      (by simp [probeOutcome_frame])).law
  start _ hs := hs.settleMarkerStart.law
  page s d r hs :=
    (hs.steps ((NestsAgree.keptByMarkerOps _ _).pageLive hs.agree d r) (by simpa [pageLive_frame] using hs.free) (SameRequests.pageLive d r s)
      (by simp [pageLive_frame])).law
  timeout s hs :=
    (hs.steps ((NestsAgree.keptByMarkerOps _ _).nextHead ((NestsAgree.keptByMarkerOps _ _).failHead hs.agree _)) (by simpa using hs.free)
      ((OnlyEvents.failHead _ s).sameRequests.trans (OnlyEvents.nextHead _).sameRequests) (by simp)).law

end State.ChainLaw

/-- Settles O59: the law of the chain, with the law of the records where the state before meets it, is kept by each event. -/
theorem stepKeepsTheChainLaw : Obligations.StepKeepsTheChainLaw := by
  unfold Obligations.StepKeepsTheChainLaw
  intro s t e hs
  have hstep : t.ChainLaw s.RecordsSound :=
    (State.ChainLaw.keptByEvents s.RecordsSound).step e ((chainLaw_iff s.RecordsSound s).mpr ⟨hs, id⟩)
  exact (chainLaw_iff s.RecordsSound t).mp hstep

end Sys2Proof.Machine
end

section
/-! SUPPORT. The law of the accounts through the operations that move no unit, and through those that move one (R120, R136). -/

namespace Sys2Proof.Machine
open Sys2Proof

/-- The units issued that have neither come to an end nor stand in the retest list, in the counters' arithmetic (R136). -/
def State.surplus (s : State) : BitVec 32 :=
  s.accounts.counts.issued -
    (s.accounts.counts.firstPass + s.accounts.counts.retestPass + s.accounts.counts.finalFail + s.accounts.counts.expired +
      s.accounts.counts.releasedUntested + BitVec.ofNat 32 s.units.retest.length)

theorem issued_iff_surplus (s : State) : s.accounts.counts.issued =
    s.accounts.counts.firstPass + s.accounts.counts.retestPass + s.accounts.counts.finalFail + s.accounts.counts.expired +
      s.accounts.counts.releasedUntested + BitVec.ofNat 32 (s.units.retest.length + s.unsettledUnits) ↔
    s.surplus = BitVec.ofNat 32 s.unsettledUnits := by
  rw [State.surplus, BitVec.ofNat_add, ← add_assoc, sub_eq_iff_eq_add, add_comm (BitVec.ofNat 32 s.unsettledUnits)]

/-- Two nest records hold the same unit. -/
structure Nest.SameUnit (x y : Nest) : Prop where
  kind    : y.kind = x.kind
  serial  : y.serial = x.serial
  attempt : y.attempt = x.attempt
  holds   : y.holdsUnit = x.holdsUnit

theorem Nest.SameUnit.refl (x : Nest) : x.SameUnit x := ⟨rfl, rfl, rfl, rfl⟩

theorem unsettled_eq (x : Nest) : x.unsettled = (decide (x.kind = some .production) && x.holdsUnit) := rfl

theorem Nest.SameUnit.unsettled {x y : Nest} (h : x.SameUnit y) : y.unsettled = x.unsettled := by
  rw [unsettled_eq, unsettled_eq, h.kind, h.holds]

theorem Nest.Grows.sameUnit {x y : Nest} (h : x.Grows y) : x.SameUnit y :=
  ⟨h.kind, h.serial, h.attempt, by rw [Nest.holdsUnit, h.state]; rfl⟩

/-- From `s` to `t` no unit moves: the list, the held entries, the counts of units, the plan and the units in the nests stand. -/
structure State.SameLedger (s t : State) : Prop where
  retest  : t.units.retest = s.units.retest
  held    : ∀ n, t.units.held n = s.units.held n
  surplus : t.surplus = s.surplus
  plan    : t.plan = s.plan
  unit    : ∀ n, (s.nest n).SameUnit (t.nest n)

theorem unsettledUnits_congr {s t : State} (h : ∀ n, (s.nest n).SameUnit (t.nest n)) : t.unsettledUnits = s.unsettledUnits := by
  have ha := (h .a).unsettled
  have hb := (h .b).unsettled
  simp only [State.nest] at ha hb
  rw [State.unsettledUnits, State.unsettledUnits, ha, hb]

theorem State.UnitsBalance.congr {s t : State} (hs : s.UnitsBalance) (h : s.SameLedger t) : t.UnitsBalance := by
  obtain ⟨h1, h2, h3, h4, h5, h6, h7, h8⟩ := hs
  refine ⟨?_, fun n hn => ?_, fun n hn => ?_, fun n hn ha => ?_, ?_, fun n hn => ?_, ?_, ?_⟩
  · rw [issued_iff_surplus] at h1 ⊢
    rw [h.surplus, unsettledUnits_congr h.unit, h1]
  · rw [(h.unit n).kind]
    exact h2 n ((h.unit n).holds ▸ hn)
  · rw [(h.unit n).serial]
    exact h3 n ((h.unit n).unsettled ▸ hn)
  · rw [h.held, (h.unit n).serial]
    exact h4 n ((h.unit n).unsettled ▸ hn) ((h.unit n).attempt ▸ ha)
  · rwa [h.retest]
  · rw [h.retest, (h.unit n).serial]
    exact h6 n ((h.unit n).unsettled ▸ hn)
  · have ha := (h.unit .a).serial
    have hb := (h.unit .b).serial
    simp only [State.nest] at ha hb
    rwa [ha, hb]
  · rwa [h.plan, h.retest]

/-- The law of the accounts, with what the chain and the marker link must know of the units in the nests: a nest in the chain's queue
holds its unit, and one in the wait list holds none (R28, R155). -/
structure State.UnitsLaw (s : State) : Prop where
  balance : s.UnitsBalance
  queue   : ∀ n, .nest n ∈ s.chain.queue → (s.nest n).holdsUnit = true
  waiters : ∀ w ∈ s.marker.waitList, (s.nest w.nest).holdsUnit = false

theorem State.ChainLaw.unitsLaw {ρ : Prop} {s : State} (hs : s.ChainLaw ρ) (hu : s.UnitsBalance) : s.UnitsLaw := by
  refine ⟨hu, fun n hn => ?_, fun w hw => ?_⟩
  · have hcount := hs.agree.queued n
    have : 0 < s.chain.queue.count (.nest n) := List.count_pos_iff.mpr hn
    split at hcount
    next h => simp [Nest.holdsUnit, NestState.inTest, h]
    · omega
  · have hcount := hs.agree.waits w.nest
    have : 0 < s.marker.waitList.countP (fun x => x.nest = w.nest) := List.countP_pos_iff.mpr ⟨w, hw, by simp⟩
    split at hcount
    next h => simp [Nest.holdsUnit, NestState.inTest, h]
    · omega

/-- From `s` to `t` the Unit Table's entries, the counts of units, the plan, the nests, the chain's queue and the wait list stand. -/
structure State.SameUnits (s t : State) : Prop where
  retest   : t.units.retest = s.units.retest
  heldA    : t.units.heldA = s.units.heldA
  heldB    : t.units.heldB = s.units.heldB
  counts   : t.surplus = s.surplus
  plan     : t.loader.active = s.loader.active
  nestA    : t.nestA = s.nestA
  nestB    : t.nestB = s.nestB
  queue    : t.chain.queue = s.chain.queue
  waitList : t.marker.waitList = s.marker.waitList

theorem State.SameUnits.nest {s t : State} (h : s.SameUnits t) (n : NestId) : t.nest n = s.nest n := by
  cases n
  · exact h.nestA
  · exact h.nestB

theorem State.SameUnits.ledger {s t : State} (h : s.SameUnits t) : s.SameLedger t where
  retest := h.retest
  held n := by cases n <;> simp [UnitTable.held, h.heldA, h.heldB]
  surplus := h.counts
  plan := by simp [State.plan, h.plan]
  unit n := by rw [h.nest]; exact Nest.SameUnit.refl _

/-- A change outside the books. -/
theorem State.SameUnits.of_books {s t : State} (hu : t.units = s.units) (ha : t.accounts = s.accounts)
    (hp : t.loader.active = s.loader.active) (hA : t.nestA = s.nestA) (hB : t.nestB = s.nestB)
    (hq : t.chain.queue = s.chain.queue) (hw : t.marker.waitList = s.marker.waitList) : s.SameUnits t :=
  ⟨by rw [hu], by rw [hu], by rw [hu], by simp [State.surplus, hu, ha], hp, hA, hB, hq, hw⟩

namespace State.UnitsLaw
variable {s t : State}

theorem carry (hs : s.UnitsLaw) (h : s.SameLedger t)
    (hq : ∀ n, .nest n ∈ t.chain.queue → .nest n ∈ s.chain.queue ∨ (t.nest n).holdsUnit = true)
    (hw : ∀ w ∈ t.marker.waitList, w ∈ s.marker.waitList ∨ (t.nest w.nest).holdsUnit = false) : t.UnitsLaw := by
  refine ⟨hs.balance.congr h, fun n hn => ?_, fun w hm => ?_⟩
  · rcases hq n hn with hn | hn
    · rw [(h.unit n).holds]
      exact hs.queue n hn
    · exact hn
  · rcases hw w hm with hm | hm
    · rw [(h.unit w.nest).holds]
      exact hs.waiters w hm
    · exact hm

theorem same (hs : s.UnitsLaw) (h : s.SameUnits t) : t.UnitsLaw :=
  hs.carry h.ledger (fun _ hn => .inl (h.queue ▸ hn)) fun _ hw => .inl (h.waitList ▸ hw)

theorem modMarker (hs : s.UnitsLaw) (f : Marker → Marker) (hf : (f s.marker).waitList = s.marker.waitList) :
    (s.modMarker f).UnitsLaw := hs.same ⟨rfl, rfl, rfl, rfl, rfl, rfl, rfl, rfl, hf⟩

theorem sameLedger_modNest (n : NestId) (f : Nest → Nest) (hf : (s.nest n).SameUnit (f (s.nest n))) :
    s.SameLedger (s.modNest n f) := by
  refine ⟨by simp, fun k => by simp, by simp [State.surplus], by simp, fun k => ?_⟩
  by_cases e : k = n
  · subst e
    rwa [State.modNest_nest]
  · rw [State.modNest_nest_other _ _ _ e]
    exact Nest.SameUnit.refl _

/-- A nest record that changes while its unit stands. -/
theorem modNest (hs : s.UnitsLaw) (n : NestId) (f : Nest → Nest) (hf : (s.nest n).SameUnit (f (s.nest n))) :
    (s.modNest n f).UnitsLaw :=
  hs.carry (sameLedger_modNest n f hf) (fun _ h => .inl (by simpa using h)) fun _ h => .inl (by simpa using h)

theorem latchBoth (hs : s.UnitsLaw) (e : Event) : (s.latchBoth e).UnitsLaw :=
  hs.same (State.SameUnits.of_books (by simp) (by simp) (by simp) (by simp) (by simp) (by simp) (by simp))

theorem modPort (hs : s.UnitsLaw) (p : PortId) (f : Port → Port) : (s.modPort p f).UnitsLaw :=
  hs.same (State.SameUnits.of_books (by simp) (by simp) (by simp) (by simp) (by simp) (by simp) (by simp))

theorem withdraw (hs : s.UnitsLaw) : s.withdraw.UnitsLaw := hs.same ⟨rfl, rfl, rfl, rfl, rfl, rfl, rfl, rfl, rfl⟩

/-! ### The chain -/

theorem grantHead (hs : s.UnitsLaw) : s.grantHead.UnitsLaw := by
  unfold State.grantHead
  split
  next c rest _ hq =>
    have hrest (n : NestId) (h : .nest n ∈ rest) : (.nest n : Claimant) ∈ s.chain.queue := by simp [hq, h]
    cases c with
    | nest n =>
      have hn : (s.nest n).holdsUnit = true := hs.queue n (by simp [hq])
      rw [grant_nest]
      refine hs.carry ⟨?_, fun k => ?_, ?_, ?_, fun k => ?_⟩ (fun k hk => .inl (hrest k ?_)) fun w hw => .inl ?_
      · simp
      · cases n <;> cases k <;> rfl
      · cases n <;> rfl
      · cases n <;> rfl
      · have hunit := sameLedger_modNest (s := s) n (Nest.granted s.planPoints.length s.curveCount s.hasReference)
          ⟨rfl, rfl, rfl, by rw [hn]; rfl⟩
        have := hunit.unit k
        cases n <;> cases k <;> exact this
      · simpa using hk
      · simpa using hw
    | check =>
      exact hs.carry ⟨rfl, fun _ => rfl, rfl, rfl, fun k => by cases k <;> exact Nest.SameUnit.refl _⟩
        (fun k hk => .inl (hrest k hk)) fun w hw => .inl hw
  · exact hs

theorem freeChain (hs : s.UnitsLaw) : s.freeChain.UnitsLaw := hs.same ⟨rfl, rfl, rfl, rfl, rfl, rfl, rfl, rfl, rfl⟩

theorem leaveQueue (hs : s.UnitsLaw) (c : Claimant) : (s.leaveQueue c).UnitsLaw :=
  hs.carry ⟨rfl, fun _ => rfl, rfl, rfl, fun k => by cases k <;> exact Nest.SameUnit.refl _⟩
    (fun k hk => .inl (List.mem_of_mem_filter hk)) fun w hw => .inl hw

theorem silenceAndFree (hs : s.UnitsLaw) (c : Claimant) : (s.silence.freeWindows c).UnitsLaw :=
  hs.same (State.SameUnits.of_books (by simp) (by simp) (by simp) (by simp) (by simp) (by simp) (by simp))

theorem freeWindows (hs : s.UnitsLaw) (c : Claimant) : (s.freeWindows c).UnitsLaw :=
  hs.same (State.SameUnits.of_books (by simp) (by simp) (by simp) (by simp) (by simp) (by simp) (by simp))

/-- The test of a nest that is in test ends in an abort; its unit stays (R33). -/
theorem abortOne (hs : s.UnitsLaw) (n : NestId) (hn : (s.nest n).state.inTest = true) : (s.abortOne n).UnitsLaw := by
  have habort {t : State} (ht : t.UnitsLaw) (hnest : t.nest n = s.nest n) :
      ((t.modNest n Nest.aborted).count Counts.addAborted).UnitsLaw := by
    refine (ht.modNest n Nest.aborted ?_).same ⟨rfl, rfl, rfl, rfl, rfl, rfl, rfl, rfl, rfl⟩
    refine ⟨rfl, rfl, rfl, ?_⟩
    rw [hnest]
    simp [Nest.holdsUnit, Nest.aborted, hn]
  unfold State.abortOne
  dsimp only
  split
  · exact habort (hs.leaveQueue _) rfl
  · exact habort (hs.silenceAndFree _).freeChain (by cases n <;> simp [State.nest, State.freeChain])
  · exact habort (hs.freeWindows _) (by cases n <;> simp [State.nest])
  all_goals exact habort hs rfl

theorem abortAll (hs : s.UnitsLaw) (ns : List NestId) (hns : ns.Nodup) : (s.abortAll ns).UnitsLaw := by
  unfold State.abortAll
  refine grantHead ?_
  have hl : ∀ n ∈ ns.filter (fun n => (s.nest n).state.inTest), (s.nest n).state.inTest = true :=
    fun n hn => (List.mem_filter.mp hn).2
  have hnodup := hns.filter fun n => (s.nest n).state.inTest
  revert hl hnodup
  generalize ns.filter (fun n => (s.nest n).state.inTest) = l
  intro hl hnodup
  induction l generalizing s with
  | nil => exact hs
  | cons n l ih =>
    obtain ⟨hn, hnodup⟩ := List.nodup_cons.mp hnodup
    refine ih (hs.abortOne n (hl n (by simp))) (fun k hk => ?_) hnodup
    have hkn : k ≠ n := by
      rintro rfl
      exact hn hk
    rw [NestsAgree.abortOne_nest, State.modNest_nest_other _ _ _ hkn]
    exact hl k (by simp [hk])

theorem spendVerification (hs : s.UnitsLaw) : s.spendVerification.UnitsLaw := by
  refine hs.same ?_
  unfold State.spendVerification
  dsimp only
  split
  · exact ⟨rfl, rfl, rfl, rfl, rfl, rfl, rfl, rfl, rfl⟩
  · split <;> exact ⟨rfl, rfl, rfl, rfl, rfl, rfl, rfl, rfl, rfl⟩

theorem acceptStart (hs : s.UnitsLaw) (n : NestId) (hn : (s.nest n).state = .loaded) : (s.acceptStart n).UnitsLaw := by
  have hjoin {t : State} (ht : t.UnitsLaw) (hnest : t.nest n = s.nest n) :
      ((t.modNest n fun x => { x with state := .waiting }).joinQueue (.nest n)).UnitsLaw := by
    have hw := ht.modNest n (fun x => { x with state := .waiting })
      ⟨rfl, rfl, rfl, by rw [hnest]; simp [Nest.holdsUnit, NestState.inTest, hn]⟩
    refine grantHead (hw.carry ⟨rfl, fun _ => rfl, rfl, rfl, fun k => by cases k <;> exact Nest.SameUnit.refl _⟩
      (fun k hk => ?_) fun w hm => .inl hm)
    rcases List.mem_append.mp hk with hk | hk
    · exact .inl hk
    · obtain rfl : k = n := by simpa using hk
      right
      simp [Nest.holdsUnit, NestState.inTest]
  unfold State.acceptStart
  dsimp only
  split
  · exact hjoin hs.spendVerification (by cases n <;> simp [State.nest])
  · exact hjoin hs rfl

/-! ### The marker link -/

theorem admitWaiting (hs : s.UnitsLaw) : s.admitWaiting.UnitsLaw := by
  unfold State.admitWaiting
  split
  · exact hs
  next w rest hw =>
    have hn : (s.nest w.nest).holdsUnit = false := hs.waiters w (by simp [hw])
    have hrest : (s.modMarker fun m => Marker.append w.job { m with waitList := rest }).UnitsLaw :=
      hs.carry ⟨rfl, fun _ => rfl, rfl, rfl, fun k => by cases k <;> exact Nest.SameUnit.refl _⟩ (fun _ h => .inl h)
        fun x hx => .inl (by rw [hw]; exact List.mem_cons_of_mem _ hx)
    exact hrest.modNest w.nest _ ⟨rfl, rfl, rfl, hn.symm⟩

/-- All that the marker link does keeps the law of the accounts. -/
theorem keptByMarkerOps : KeptByMarkerOps State.UnitsLaw where
  marker _ f hf hs := hs.modMarker f hf
  events _ e hs := hs.latchBoth e
  admits _ hs := hs.admitWaiting

theorem settleMarkerStart (hs : s.UnitsLaw) : s.settleMarkerStart.UnitsLaw := by
  unfold State.settleMarkerStart
  split
  · exact (hs.modPort .station (Port.answered .ok 0 _ _)).modPort .station (Port.latch .requestDone)
  · exact hs

end State.UnitsLaw
end Sys2Proof.Machine
end

section
/-! PROOF. Every step conserves the units issued (R120, R136). -/

namespace Sys2Proof.Machine
open Sys2Proof

theorem unsettledUnits_split (n : NestId) (s : State) :
    s.unsettledUnits = (s.nest n).unsettled.toNat + (s.nest (otherNest n)).unsettled.toNat := by
  cases n
  · rfl
  · exact Nat.add_comm _ _

theorem ne_iff_otherNest {n k : NestId} : k ≠ n ↔ k = otherNest n := by cases n <;> cases k <;> decide

/-- What moves the unit of nest `n` alone keeps the law of the accounts where the counts follow the unit, the list keeps its law, and
what stands in the nest and in the list after it stands nowhere else (R120, R136). -/
structure State.MovesUnit (n : NestId) (s t : State) : Prop where
  plan    : t.plan = s.plan
  other   : (s.nest (otherNest n)).SameUnit (t.nest (otherNest n))
  held    : t.units.held (otherNest n) = s.units.held (otherNest n)
  surplus : t.surplus + BitVec.ofNat 32 (s.nest n).unsettled.toNat = s.surplus + BitVec.ofNat 32 (t.nest n).unsettled.toNat
  kind    : (t.nest n).holdsUnit = true → (t.nest n).kind ≠ none
  serial  : (t.nest n).unsettled = true → (t.nest n).serial ≠ none ∧
    ((t.nest n).attempt ≠ some 1 → (t.units.held n).map (·.serial) = (t.nest n).serial) ∧
    ∀ e ∈ t.units.retest, (t.nest n).serial ≠ some e.serial
  apart   : (t.nest n).serial ≠ none → (t.nest n).serial ≠ (s.nest (otherNest n)).serial
  list    : (t.units.retest.map (·.serial)).Nodup
  entries : ∀ e ∈ t.units.retest, e ∈ s.units.retest ∨
    some e.serial = (s.nest n).serial ∧ ∀ c, s.plan = some c → e.attempts < c.policy.maxAttempts

theorem State.MovesUnit.balance {n : NestId} {s t : State} (h : s.MovesUnit n t) (hs : s.UnitsBalance) : t.UnitsBalance := by
  have hunsettled := h.other.unsettled
  have hnests : (s.nest n).serial ≠ none → (s.nest n).serial ≠ (s.nest (otherNest n)).serial := by
    have := hs.nests
    cases n
    · exact this
    · exact fun hb e => this (e ▸ hb) e.symm
  refine ⟨?_, fun k hk => ?_, fun k hk => ?_, fun k hk ha => ?_, h.list, fun k hk e he => ?_, ?_, fun c hc e he => ?_⟩
  · have hissued := (issued_iff_surplus s).mp hs.issued
    rw [issued_iff_surplus, unsettledUnits_split n, hunsettled, BitVec.ofNat_add]
    rw [unsettledUnits_split n, BitVec.ofNat_add] at hissued
    have := h.surplus
    rw [hissued] at this
    linear_combination this
  · by_cases e : k = n
    · subst e
      exact h.kind hk
    · obtain rfl := ne_iff_otherNest.mp e
      rw [h.other.kind]
      exact hs.kinds _ (h.other.holds ▸ hk)
  · by_cases e : k = n
    · subst e
      exact (h.serial hk).1
    · obtain rfl := ne_iff_otherNest.mp e
      rw [h.other.serial]
      exact hs.serial _ (hunsettled ▸ hk)
  · by_cases e : k = n
    · subst e
      exact (h.serial hk).2.1 ha
    · obtain rfl := ne_iff_otherNest.mp e
      rw [h.held, h.other.serial]
      exact hs.held _ (hunsettled ▸ hk) (h.other.attempt ▸ ha)
  · by_cases hkn : k = n
    · subst hkn
      exact (h.serial hk).2.2 e he
    · obtain rfl := ne_iff_otherNest.mp hkn
      rw [h.other.serial]
      rcases h.entries e he with hold | ⟨hnew, -⟩
      · exact hs.apart _ (hunsettled ▸ hk) e hold
      · rw [hnew]
        exact fun heq => hnests (by rw [← hnew]; simp) heq.symm
  · have hn := h.apart
    have ho := h.other.serial
    cases n
    · simp only [State.nest, otherNest] at hn ho ⊢
      rwa [ho]
    · simp only [State.nest, otherNest] at hn ho ⊢
      rw [ho]
      exact fun ha e => hn (e ▸ ha) e.symm
  · rw [h.plan] at hc
    rcases h.entries e he with hold | ⟨-, hnew⟩
    · exact hs.below c hc e hold
    · exact hnew c hc

/-- A nest that holds no production unit and then holds none leaves the accounts. -/
theorem State.MovesUnit.of_unitless {n : NestId} {s t : State} (hs : s.UnitsBalance) (hplan : t.plan = s.plan)
    (hother : (s.nest (otherNest n)).SameUnit (t.nest (otherNest n))) (hheld : t.units.held (otherNest n) = s.units.held (otherNest n))
    (hretest : t.units.retest = s.units.retest) (hsurplus : t.surplus = s.surplus) (hold : (s.nest n).unsettled = false)
    (hnew : (t.nest n).unsettled = false) (hkind : (t.nest n).holdsUnit = true → (t.nest n).kind ≠ none)
    (hserial : (t.nest n).serial = none ∨ (t.nest n).serial = (s.nest n).serial) : s.MovesUnit n t where
  plan := hplan
  other := hother
  held := hheld
  surplus := by rw [hsurplus, hold, hnew]
  kind := hkind
  serial h := by rw [hnew] at h; contradiction
  apart h := by
    rcases hserial with e | e
    · exact absurd e h
    · rw [e] at h ⊢
      have := hs.nests
      cases n
      · exact this h
      · exact fun e => this (e ▸ h) e.symm
  list := hretest ▸ hs.list
  entries e he := .inl (hretest ▸ he)

/-! ### The retest list -/

theorem addRing_sameUnits (e : RingEntry) (s : State) : s.SameUnits (s.addRing e) := by
  refine ⟨by simp, by simp, by simp, by simp [State.surplus, addRing_accounts], by simp, by simp, by simp, by simp, by simp⟩

theorem ofNat_one : BitVec.ofNat 32 1 = 1 := rfl

theorem expire_surplus (v : Nat) (s : State) : (s.expire v).surplus = s.surplus - 1 := by
  have : (s.expire v).surplus = (s.count (Counts.addExpired 1)).surplus := (addRing_sameUnits _ _).counts
  rw [this]
  simp only [State.surplus, State.count, Counts.addExpired, ofNat_one]
  ring

theorem expire_units (v : Nat) (s : State) : (s.expire v).units = s.units := by simp [State.expire]

/-- The oldest entry of a full list makes room and comes to its end (R122). -/
theorem evictIfFull_books (s : State) : s.evictIfFull.units.retest <:+ s.units.retest ∧ s.evictIfFull.surplus = s.surplus ∧
    ∀ n, s.evictIfFull.units.held n = s.units.held n := by
  unfold State.evictIfFull
  split
  · exact ⟨List.suffix_rfl, rfl, fun _ => rfl⟩
  · split
    · exact ⟨List.suffix_rfl, rfl, fun _ => rfl⟩
    next e rest hlist =>
      rw [expire_units]
      refine ⟨?_, ?_, fun n => by cases n <;> rfl⟩
      · rw [hlist]
        exact List.suffix_cons e rest
      · rw [expire_surplus]
        simp only [State.surplus, State.modUnits, UnitTable.bump, hlist, List.length_cons, BitVec.ofNat_add, ofNat_one]
        ring

/-- What stands in the retest list after an entry has joined it (R121, R122). -/
theorem insertRetest_books (e : RetestEntry) (s : State) :
    (∃ l, l <:+ s.units.retest ∧ (s.insertRetest e).units.retest = l ++ [e]) ∧ (s.insertRetest e).surplus = s.surplus - 1 ∧
    ∀ n, (s.insertRetest e).units.held n = s.units.held n := by
  obtain ⟨hlist, hsurplus, hheld⟩ := evictIfFull_books s
  refine ⟨⟨_, hlist, rfl⟩, ?_, fun n => (hheld n).symm ▸ by cases n <;> rfl⟩
  rw [← hsurplus]
  simp only [State.surplus, State.insertRetest, State.modUnits, UnitTable.bump, List.length_append, List.length_singleton,
    BitVec.ofNat_add, ofNat_one]
  ring

/-- The list after an entry has joined it holds no serial twice where the entry's stood in it nowhere. -/
theorem nodup_joined {l m : List RetestEntry} {e : RetestEntry} (hl : l <:+ m) (hm : (m.map (·.serial)).Nodup)
    (he : ∀ x ∈ m, x.serial ≠ e.serial) : ((l ++ [e]).map (·.serial)).Nodup := by
  rw [List.map_append, List.nodup_append]
  refine ⟨(hl.sublist.map _).nodup hm, by simp, fun a ha b hb => ?_⟩
  obtain ⟨x, hx, rfl⟩ := List.mem_map.mp ha
  obtain rfl : b = e.serial := by simpa using hb
  exact he x (hl.subset hx)

end Sys2Proof.Machine
end

section
/-! PROOF. Every step conserves the units issued (R120, R136): the operations that move a unit, and the events of a step. -/

namespace Sys2Proof.Machine
open Sys2Proof

/-! ### The serial a NEW load is issued (R116) -/

theorem passOver_zero (l : List Nat) (k : Nat) : passOver l k 0 = 0 := by
  cases k <;> simp [passOver]

theorem passOver_free (l : List Nat) (k v : Nat) :
    passOver l k v = 0 ∨ passOver l k v ∉ l ∨ ∀ i < k, v + i ∈ l := by
  induction k generalizing v with
  | zero => exact .inr (.inr fun i hi => absurd hi (by omega))
  | succ k ih =>
    unfold passOver
    split
    next hv =>
      by_cases hlast : v = 16777215
      · left
        rw [nextSerial, if_pos hlast, passOver_zero]
      · rw [nextSerial, if_neg hlast]
        refine (ih (v + 1)).imp_right (Or.imp_right fun h i hi => ?_)
        cases i with
        | zero => exact hv.2
        | succ i =>
          have := h i (by omega)
          rwa [Nat.add_right_comm, Nat.add_assoc] at this
    next hv =>
      by_cases h0 : v = 0
      · exact .inl h0
      · exact .inr (.inl fun h => hv ⟨h0, h⟩)

/-- The serial that a NEW load would be issued is held nowhere. -/
theorem candidate_free (s : State) (h : s.candidate ≠ 0) : s.candidate ∉ s.serialsInUse := by
  rcases passOver_free s.serialsInUse (s.serialsInUse.length + 1) s.units.serialCounter with h0 | hfree | hall
  · exact absurd h0 h
  · exact hfree
  · exfalso
    have hsub : (List.range (s.serialsInUse.length + 1)).map (s.units.serialCounter + ·) ⊆ s.serialsInUse := by
      intro v hv
      obtain ⟨i, hi, rfl⟩ := List.mem_map.mp hv
      exact hall i (List.mem_range.mp hi)
    have hnodup : ((List.range (s.serialsInUse.length + 1)).map (s.units.serialCounter + ·)).Nodup :=
      List.nodup_range.map (add_right_injective _)
    have := (hnodup.subperm hsub).length_le
    simp at this

theorem mem_serialsInUse {s : State} {v : Nat} (h : v ∉ s.serialsInUse) :
    (∀ n, (s.nest n).serial ≠ some v) ∧ ∀ e ∈ s.units.retest, e.serial ≠ v := by
  simp only [State.serialsInUse, List.mem_append, not_or, Option.mem_toList, List.mem_map, not_exists, not_and] at h
  obtain ⟨⟨⟨⟨ha, hb⟩, -⟩, -⟩, hl⟩ := h
  exact ⟨fun n => by cases n <;> simpa [State.nest], hl⟩

/-! ### What a verdict does to the books (R110, R134) -/

theorem countFails_sameUnits (v : Verdict) (s : State) : s.SameUnits (s.countFails v) := by
  cases v <;> simp only [State.countFails]
  · exact ⟨rfl, rfl, rfl, rfl, rfl, rfl, rfl, rfl, rfl⟩
  · split_ifs
    all_goals exact ⟨rfl, rfl, rfl, rfl, rfl, rfl, rfl, rfl, rfl⟩
  · exact ⟨rfl, rfl, rfl, rfl, rfl, rfl, rfl, rfl, rfl⟩

theorem setHeld_held_other (n : NestId) (e : Option RetestEntry) (u : UnitTable) :
    (u.setHeld n e).held (otherNest n) = u.held (otherNest n) := by cases n <;> rfl

theorem addVerdict_surplus (o : OutcomeClass) (v : Verdict) (bin : Nat) (s : State) :
    (s.count (Counts.addVerdict o v bin)).surplus = if o = .retestPending then s.surplus else s.surplus - 1 := by
  cases o
  case retestPending => cases v <;> rfl
  all_goals
    simp only [State.surplus, State.count, Counts.addVerdict, Counts.addBin, reduceCtorEq, if_false]
    ring

/-- A production verdict settles the unit, or puts it back into the list (R110, R122, R134). -/
theorem takeOutcome_books (n : NestId) (o : OutcomeClass) (v : Verdict) (bin : Nat) (s : State) :
    (s.takeOutcome n o v bin).surplus = s.surplus - 1 ∧
    (s.takeOutcome n o v bin).units.held (otherNest n) = s.units.held (otherNest n) ∧
    ∃ l, l <:+ s.units.retest ∧ (s.takeOutcome n o v bin).units.retest =
      if o = .retestPending then l ++ [⟨(s.nest n).serial.getD 0, (s.nest n).attempt.getD 0, v, bin⟩] else s.units.retest := by
  have hcount := addVerdict_surplus o v bin s
  unfold State.takeOutcome
  dsimp only
  have hfails (t : State) := countFails_sameUnits v t
  rw [(hfails _).counts, (hfails _).ledger.held, (hfails _).retest]
  by_cases ho : o = .retestPending
  · subst ho
    rw [if_pos rfl] at hcount
    simp only [OutcomeClass.completion, if_true]
    obtain ⟨⟨l, hl, hlist⟩, hsurplus, hheld⟩ := insertRetest_books
      ⟨(s.nest n).serial.getD 0, (s.nest n).attempt.getD 0, v, bin⟩
      ((s.count (Counts.addVerdict .retestPending v bin)).modUnits (UnitTable.setHeld n none))
    refine ⟨?_, ?_, l, ?_, ?_⟩
    · rw [hsurplus, ← hcount]
      cases n <;> rfl
    · rw [hheld, ← setHeld_held_other n none s.units]
      rfl
    · cases n <;> exact hl
    · exact hlist
  · rw [if_neg ho] at hcount
    simp only [if_neg ho]
    have hring {t : State} (ht : t.surplus = s.surplus - 1) (hu : t.units = s.units) :
        (t.modUnits (UnitTable.setHeld n none)).surplus = s.surplus - 1 ∧
        (t.modUnits (UnitTable.setHeld n none)).units.held (otherNest n) = s.units.held (otherNest n) ∧
        ∃ l, l <:+ s.units.retest ∧ (t.modUnits (UnitTable.setHeld n none)).units.retest = s.units.retest := by
      refine ⟨?_, ?_, [], List.nil_suffix, ?_⟩
      · rw [← ht]
        cases n <;> rfl
      · rw [← hu, ← setHeld_held_other n none t.units]
        rfl
      · rw [← hu]
        cases n <;> rfl
    split
    · exact hring ((addRing_sameUnits _ _).counts.trans hcount) (by simp)
    · exact hring hcount rfl

/-- A unit that goes back to the list has attempts left (R109). -/
theorem attemptPolicy_retestPending {v : Verdict} {a m : Nat} (h : (attemptPolicy v a m).2.1 = .retestPending) : a < m := by
  cases v
  · simp only [attemptPolicy] at h
    split at h <;> simp at h
  all_goals
    simp only [attemptPolicy] at h
    split at h
    · simp at h
    · omega

namespace State.UnitsLaw
variable {s t : State} {n : NestId}

/-- The law after the unit of nest `n` has moved. -/
theorem moves (hs : s.UnitsLaw) (h : s.MovesUnit n t)
    (hq : ∀ k, .nest k ∈ t.chain.queue → .nest k ∈ s.chain.queue ∧ (k = n → (t.nest n).holdsUnit = true))
    (hw : ∀ w ∈ t.marker.waitList, if w.nest = n then (t.nest n).holdsUnit = false else w ∈ s.marker.waitList) : t.UnitsLaw := by
  refine ⟨h.balance hs.balance, fun k hk => ?_, fun w hm => ?_⟩
  · obtain ⟨hold, hnew⟩ := hq k hk
    by_cases e : k = n
    · subst e
      exact hnew rfl
    · obtain rfl := ne_iff_otherNest.mp e
      rw [h.other.holds]
      exact hs.queue _ hold
  · have := hw w hm
    split at this
    next e => rwa [e]
    next e =>
      have hwait := hs.waiters w this
      rw [ne_iff_otherNest.mp e] at hwait ⊢
      rwa [h.other.holds]

/-! ### Releases (R31, R123) -/

theorem modNest_sameUnit_other (n : NestId) (f : Nest → Nest) (s : State) :
    (s.nest (otherNest n)).SameUnit ((s.modNest n f).nest (otherNest n)) := by
  rw [State.modNest_nest_other _ _ _ (ne_iff_otherNest.mpr rfl)]
  exact Nest.SameUnit.refl _

theorem unitless_emptied (x : Nest) : x.emptied.unsettled = false ∧ x.emptied.holdsUnit = false := ⟨rfl, rfl⟩

/-- What takes the unit of nest `n` out of it, into the list or to one of its ends. -/
theorem movesUnit_leaving (hs : s.UnitsBalance) (hn : (s.nest n).unsettled = true) (hplan : t.plan = s.plan)
    (hother : (s.nest (otherNest n)).SameUnit (t.nest (otherNest n))) (hheld : t.units.held (otherNest n) = s.units.held (otherNest n))
    (hsurplus : t.surplus = s.surplus - 1) {l m : List RetestEntry} (hl : l <:+ s.units.retest) (hm : t.units.retest = l ++ m)
    (he : m = [] ∨ ∃ e, m = [e] ∧ some e.serial = (s.nest n).serial ∧ ∀ c, s.plan = some c → e.attempts < c.policy.maxAttempts)
    (hunit : (t.nest n).holdsUnit = false) (hserial : (t.nest n).serial = none ∨ (t.nest n).serial = (s.nest n).serial) :
    s.MovesUnit n t := by
  have hidle : (t.nest n).unsettled = false := by simp [unsettled_eq, hunit]
  refine ⟨hplan, hother, hheld, ?_, fun h => ?_, fun h => ?_, fun h => ?_, ?_, fun e hmem => ?_⟩
  · have hzero : BitVec.ofNat 32 0 = 0 := rfl
    rw [hidle, hn, hsurplus, Bool.toNat_true, Bool.toNat_false, ofNat_one, hzero]
    ring
  · rw [hunit] at h
    contradiction
  · rw [hidle] at h
    contradiction
  · rcases hserial with e | e
    · exact absurd e h
    · rw [e] at h ⊢
      have := hs.nests
      cases n
      · exact this h
      · exact fun e => this (e ▸ h) e.symm
  · rw [hm]
    rcases he with rfl | ⟨e, rfl, he, -⟩
    · rw [List.append_nil]
      exact (hl.sublist.map _).nodup hs.list
    · exact nodup_joined hl hs.list fun x hx hxe => hs.apart n hn x hx (by rw [hxe, he])
  · rw [hm, List.mem_append] at hmem
    rcases hmem with hmem | hmem
    · exact .inl (hl.subset hmem)
    · rcases he with rfl | ⟨e', rfl, he⟩
      · contradiction
      · obtain rfl : e = e' := by simpa using hmem
        exact .inr he

theorem giveBack_nest (n k : NestId) (s : State) : (s.giveBack n).nest k = s.nest k := by cases k <;> simp [State.nest]

theorem movesUnit_releaseUntested (hs : s.UnitsBalance) (hn : (s.nest n).state = .loaded) : s.MovesUnit n (s.releaseUntested n) := by
  have hloaded : (s.nest n).unsettled = decide ((s.nest n).kind = some .production) := by simp [Nest.unsettled, hn]
  have hreleased {l m : List RetestEntry} (hu : (s.nest n).unsettled = true)
      (hheld : (s.giveBack n).units.held (otherNest n) = s.units.held (otherNest n))
      (hsurplus : (s.giveBack n).surplus = s.surplus - 1) (hl : l <:+ s.units.retest) (hm : (s.giveBack n).units.retest = l ++ m)
      (he : m = [] ∨ ∃ e, m = [e] ∧ some e.serial = (s.nest n).serial ∧ ∀ c, s.plan = some c → e.attempts < c.policy.maxAttempts) :
      s.MovesUnit n (s.releaseUntested n) := by
    refine movesUnit_leaving hs hu (by simp [State.plan]) ?_ (by simpa [State.releaseUntested] using hheld)
      (by rw [← hsurplus]; simp [State.surplus, State.releaseUntested]) hl (by simpa [State.releaseUntested] using hm) he ?_ (.inl ?_)
    · rw [← giveBack_nest n (otherNest n) s]
      exact modNest_sameUnit_other n _ _
    · rw [State.releaseUntested, State.modNest_nest]; rfl
    · rw [State.releaseUntested, State.modNest_nest]; rfl
  by_cases hkind : (s.nest n).kind = some .production
  · rw [decide_eq_true hkind] at hloaded
    by_cases hone : (s.nest n).attempt = some 1
    · have hback : s.giveBack n = s.count Counts.addReleased := by simp [State.giveBack, hkind, hone]
      have hsurplus : (s.count Counts.addReleased).surplus = s.surplus - 1 := by
        simp only [State.surplus, State.count, Counts.addReleased]
        ring
      exact hreleased hloaded (by rw [hback]; rfl) (by rw [hback, hsurplus]) (m := []) List.suffix_rfl
        (by rw [hback, List.append_nil]; rfl) (.inl rfl)
    · have hheld := hs.held n hloaded hone
      have hserial := hs.serial n hloaded
      obtain ⟨e, hentry⟩ : ∃ e, s.units.held n = some e := by
        rw [← hheld] at hserial
        exact Option.ne_none_iff_exists'.mp (by simpa using hserial)
      have he : some e.serial = (s.nest n).serial := by rw [← hheld, hentry]; rfl
      have hset : (s.modUnits (UnitTable.setHeld n none)).surplus = s.surplus ∧
          (s.modUnits (UnitTable.setHeld n none)).units.held (otherNest n) = s.units.held (otherNest n) ∧
          (s.modUnits (UnitTable.setHeld n none)).units.retest = s.units.retest :=
        ⟨by cases n <;> rfl, setHeld_held_other n none s.units, by cases n <;> rfl⟩
      have hback : s.giveBack n = if s.mayReturn e then (s.modUnits (UnitTable.setHeld n none)).insertRetest e
          else (s.modUnits (UnitTable.setHeld n none)).expire e.serial := by
        simp only [State.giveBack, hkind, hone, hentry]
        rfl
      by_cases hreturn : s.mayReturn e = true
      · rw [if_pos hreturn] at hback
        obtain ⟨⟨l, hl, hlist⟩, hsurplus, hkeeps⟩ := insertRetest_books e (s.modUnits (UnitTable.setHeld n none))
        refine hreleased hloaded (by rw [hback, hkeeps, hset.2.1]) (by rw [hback, hsurplus, hset.1]) (hset.2.2 ▸ hl)
          (by rw [hback, hlist]) (.inr ⟨e, rfl, he, fun c hc => ?_⟩)
        simpa [State.mayReturn, hc] using hreturn
      · rw [if_neg hreturn] at hback
        exact hreleased hloaded (by rw [hback, expire_units, hset.2.1]) (by rw [hback, expire_surplus, hset.1]) (m := [])
          List.suffix_rfl (by rw [hback, expire_units, hset.2.2, List.append_nil]) (.inl rfl)
  · have hback : s.giveBack n = s := by simp [State.giveBack, hkind]
    rw [State.releaseUntested, hback]
    exact MovesUnit.of_unitless hs (by simp) (modNest_sameUnit_other n _ s) (by simp) (by simp) (by simp [State.surplus])
      (by rw [hloaded, decide_eq_false hkind]) (by rw [State.modNest_nest]; rfl)
      (by rw [State.modNest_nest]; exact fun h => absurd h (by simp [unitless_emptied])) (.inl (by rw [State.modNest_nest]; rfl))

theorem releaseUntested (hs : s.UnitsLaw) (hn : (s.nest n).state = .loaded) (hq : .nest n ∉ s.chain.queue) :
    (s.releaseUntested n).UnitsLaw := by
  have hempty : ((s.releaseUntested n).nest n).holdsUnit = false := by
    rw [State.releaseUntested, State.modNest_nest]
    rfl
  refine hs.moves (movesUnit_releaseUntested hs.balance hn) (fun k hk => ⟨by simpa using hk, ?_⟩) fun w hw => ?_
  · rintro rfl
    exact absurd (by simpa using hk) hq
  · split
    · exact hempty
    · simpa using hw

/-- A nest without a unit is emptied (R30, R31). -/
theorem emptied (hs : s.UnitsLaw) (hn : (s.nest n).holdsUnit = false) : (s.modNest n Nest.emptied).UnitsLaw := by
  have hmoves : s.MovesUnit n (s.modNest n Nest.emptied) :=
    MovesUnit.of_unitless hs.balance (by simp) (modNest_sameUnit_other n _ s) (by simp) (by simp) (by simp [State.surplus])
      (by simp [unsettled_eq, hn]) (by rw [State.modNest_nest]; rfl)
      (by rw [State.modNest_nest]; exact fun h => absurd h (by simp [unitless_emptied])) (.inl (by rw [State.modNest_nest]; rfl))
  refine hs.moves hmoves (fun k hk => ⟨by simpa using hk, ?_⟩) fun w hw => ?_
  · rintro rfl
    have := hs.queue k (by simpa using hk)
    rw [hn] at this
    contradiction
  · split
    · rw [State.modNest_nest]; rfl
    · simpa using hw

/-! ### Verdicts (R29) -/

theorem ruledAs_unit (c : PlanContent) (x : Nest) :
    (x.ruledAs c).kind = x.kind ∧ (x.ruledAs c).serial = x.serial ∧ (x.ruledAs c).attempt = x.attempt := by
  unfold Nest.ruledAs
  dsimp only
  have hnote := noteCause_grows c.limits x
  split
  · have hdetect := hnote.trans (Nest.Grows.detect 14 _)
    exact ⟨hdetect.kind, hdetect.serial, hdetect.attempt⟩
  · exact ⟨hnote.kind, hnote.serial, hnote.attempt⟩

theorem ruled_books (n : NestId) (c : PlanContent) (s : State) : (s.ruled n c).surplus = s.surplus - 1 ∧
    (s.ruled n c).units.held (otherNest n) = s.units.held (otherNest n) ∧
    ∃ l v bin, l <:+ s.units.retest ∧ (s.ruled n c).units.retest =
      if s.outcomeClass n c = .retestPending then l ++ [⟨(s.nest n).serial.getD 0, (s.nest n).attempt.getD 0, v, bin⟩]
      else s.units.retest := by
  have hunit : ((s.modNest n fun x => x.ruledAs c).nest n).serial = (s.nest n).serial ∧
      ((s.modNest n fun x => x.ruledAs c).nest n).attempt = (s.nest n).attempt := by
    rw [State.modNest_nest]
    exact (ruledAs_unit c _).2
  have hruled : s.ruled n c = (s.modNest n fun x => x.ruledAs c).takeOutcome n (s.outcomeClass n c)
      (attemptPolicy ((s.nest n).resolve c.limits) ((s.nest n).attempt.getD 0) c.policy.maxAttempts).1
      (((s.nest n).ruledAs c).bin.getD 0) := by
    cases n <;> rfl
  obtain ⟨hsurplus, hheld, l, hl, hlist⟩ := takeOutcome_books n (s.outcomeClass n c)
    (attemptPolicy ((s.nest n).resolve c.limits) ((s.nest n).attempt.getD 0) c.policy.maxAttempts).1
    (((s.nest n).ruledAs c).bin.getD 0) (s.modNest n fun x => x.ruledAs c)
  rw [hunit.1, hunit.2] at hlist
  rw [hruled]
  refine ⟨?_, ?_, l, _, _, by simpa using hl, by simpa using hlist⟩
  · rw [hsurplus]
    simp [State.surplus]
  · rw [hheld]
    simp

/-- A production verdict takes its unit out of the nest, which may then be given a new state (R29, R110). -/
theorem movesUnit_ruled (hs : s.UnitsBalance) {c : PlanContent} (hc : s.plan = some c) (hn : (s.nest n).unsettled = true)
    (f : Nest → Nest) (hunit : ∀ x, (f x).holdsUnit = false) (hserial : ∀ x, (f x).serial = x.serial) :
    s.MovesUnit n ((s.ruled n c).modNest n f) := by
  obtain ⟨v, hv⟩ := Option.ne_none_iff_exists'.mp (hs.serial n hn)
  obtain ⟨hsurplus, hheld, l, w, bin, hl, hlist⟩ := ruled_books n c s
  have hother : (s.nest (otherNest n)).SameUnit (((s.ruled n c).modNest n f).nest (otherNest n)) := by
    rw [State.modNest_nest_other _ _ _ (ne_iff_otherNest.mpr rfl), ruled_nest]
    exact modNest_sameUnit_other n _ s
  have hserial' : (((s.ruled n c).modNest n f).nest n).serial = (s.nest n).serial := by
    rw [State.modNest_nest, hserial, ruled_nest, State.modNest_nest, (ruledAs_unit c _).2.1]
  have hleaves {l m : List RetestEntry} (hl : l <:+ s.units.retest) (hm : (s.ruled n c).units.retest = l ++ m)
      (he : m = [] ∨ ∃ e, m = [e] ∧ some e.serial = (s.nest n).serial ∧ ∀ c, s.plan = some c → e.attempts < c.policy.maxAttempts) :=
    movesUnit_leaving (t := (s.ruled n c).modNest n f) hs hn (by simp [State.plan, State.ruled]) hother (by simpa using hheld)
      (by rw [← hsurplus]; simp [State.surplus]) hl (by simpa using hm) he (by rw [State.modNest_nest]; exact hunit _) (.inr hserial')
  by_cases hpending : s.outcomeClass n c = .retestPending
  · rw [if_pos hpending] at hlist
    refine hleaves hl hlist (.inr ⟨_, rfl, by simp [hv], fun c' hc' => ?_⟩)
    obtain rfl : c = c' := Option.some.inj (hc.symm.trans hc')
    exact attemptPolicy_retestPending hpending
  · rw [if_neg hpending] at hlist
    exact hleaves (m := []) List.suffix_rfl (by rw [hlist, List.append_nil]) (.inl rfl)

theorem referenceVerdict_sameUnits (n : NestId) (v : Verdict) (s : State) : s.SameUnits (s.referenceVerdict n v) := by
  cases v <;> simp only [State.referenceVerdict]
  · split <;> exact ⟨rfl, rfl, rfl, rfl, rfl, rfl, rfl, rfl, rfl⟩
  all_goals exact ⟨rfl, rfl, rfl, rfl, rfl, rfl, rfl, rfl, rfl⟩

/-- A nest without a production unit ends its test (R29). -/
theorem endsTest (hs : s.UnitsLaw) (hunit : (s.nest n).unsettled = false) (hq : .nest n ∉ s.chain.queue) (f : Nest → Nest)
    (hf : (f (s.nest n)).holdsUnit = false) (hserial : (f (s.nest n)).serial = (s.nest n).serial) : (s.modNest n f).UnitsLaw := by
  have hmoves : s.MovesUnit n (s.modNest n f) :=
    MovesUnit.of_unitless hs.balance (by simp) (modNest_sameUnit_other n _ s) (by simp) (by simp) (by simp [State.surplus])
      hunit (by rw [State.modNest_nest, unsettled_eq, hf, Bool.and_false])
      (by rw [State.modNest_nest, hf]; simp) (.inr (by rw [State.modNest_nest, hserial]))
  refine hs.moves hmoves (fun k hk => ⟨by simpa using hk, ?_⟩) fun w hw => ?_
  · rintro rfl
    exact absurd (by simpa using hk) hq
  · split
    · rw [State.modNest_nest, hf]
    · simpa using hw

theorem referenceUnitVerdict (hs : s.UnitsLaw) (c : PlanContent) (hkind : (s.nest n).kind = some .reference)
    (hq : .nest n ∉ s.chain.queue) : (s.referenceUnitVerdict n c).UnitsLaw := by
  have hgrow := noteCause_grows c.limits (s.nest n)
  have hruled := hs.modNest n (fun x => { x.noteCause c.limits with
      verdict := some ((s.nest n).resolve c.limits),
      bin := some (c.bins.binOf ((s.nest n).resolve c.limits) (s.nest n).detected) })
    ⟨hgrow.kind, hgrow.serial, hgrow.attempt, by simp [Nest.holdsUnit, hgrow.state]⟩
  have hbooks := (hruled.same (t := State.count (Counts.addReference ((s.nest n).resolve c.limits = .pass)) _)
    ⟨rfl, rfl, rfl, rfl, rfl, rfl, rfl, rfl, rfl⟩).same (referenceVerdict_sameUnits n ((s.nest n).resolve c.limits) _)
  refine hbooks.endsTest ?_ (by simpa using hq) (fun x => { x with state := .done }) rfl rfl
  have : (State.nest n (State.referenceVerdict n ((s.nest n).resolve c.limits)
      (State.count (Counts.addReference ((s.nest n).resolve c.limits = .pass)) (s.modNest n fun x => { x.noteCause c.limits with
        verdict := some ((s.nest n).resolve c.limits),
        bin := some (c.bins.binOf ((s.nest n).resolve c.limits) (s.nest n).detected) })))).kind = some .reference := by
    rw [(referenceVerdict_sameUnits n _ _).nest, State.count_nest, State.modNest_nest]
    exact hgrow.kind.trans hkind
  simp [Nest.unsettled, this]

/-- The law after a production verdict whose nest leaves the test (R29, R155). -/
theorem ruled (hs : s.UnitsLaw) {c : PlanContent} (hc : s.plan = some c) (hn : (s.nest n).unsettled = true)
    (hq : .nest n ∉ s.chain.queue) (f : Nest → Nest) (hunit : ∀ x, (f x).holdsUnit = false) (hserial : ∀ x, (f x).serial = x.serial) :
    ((s.ruled n c).modNest n f).UnitsLaw := by
  refine hs.moves (movesUnit_ruled hs.balance hc hn f hunit hserial) (fun k hk => ?_) fun w hw => ?_
  · have hmem : .nest k ∈ s.chain.queue := by simpa [State.ruled] using hk
    refine ⟨hmem, ?_⟩
    rintro rfl
    exact absurd hmem hq
  · split
    · rw [State.modNest_nest, hunit]
    · simpa [State.ruled] using hw

theorem makeVerdict (hs : s.UnitsLaw) (hn : (s.nest n).state = .analysing) (hq : .nest n ∉ s.chain.queue) :
    (s.makeVerdict n).UnitsLaw := by
  have hholds : (s.nest n).holdsUnit = true := by simp [Nest.holdsUnit, hn, NestState.inTest]
  unfold State.makeVerdict
  split
  · exact hs
  next c hc =>
    refine latchBoth ?_ _
    split
    next href => exact hs.referenceUnitVerdict c href hq
    next href =>
      have hunsettled : (s.nest n).unsettled = true := by
        have hkind := hs.balance.kinds n hholds
        rw [unsettled_eq, hholds, Bool.and_true, decide_eq_true_eq]
        cases hk : (s.nest n).kind with
        | none => exact absurd hk hkind
        | some k =>
          cases k
          · rfl
          · exact absurd hk href
      have hends := hs.ruled hc hunsettled hq
      rw [productionVerdict_eq]
      split
      · unfold State.offerJob
        split
        · refine keptByMarkerOps.enqueue ?_ _
          exact hends _ (fun _ => rfl) fun _ => rfl
        · refine (hends (fun x => { x with state := .labelWait }) (fun _ => rfl) fun _ => rfl).carry
            ⟨rfl, fun _ => rfl, rfl, rfl, fun k => by cases k <;> exact Nest.SameUnit.refl _⟩ (fun _ h => .inl h) fun w hw => ?_
          rcases List.mem_append.mp hw with hw | hw
          · exact .inl hw
          · right
            obtain rfl : w.nest = n := by rw [List.mem_singleton.mp hw]
            simp [Nest.holdsUnit, NestState.inTest]
      · exact hends _ (fun _ => rfl) fun _ => rfl

/-! ### Records (R101 to R105) -/

theorem stopSweep (hs : s.UnitsLaw) (n : NestId) (c : PlanContent) : (s.stopSweep n c).UnitsLaw := by
  unfold State.stopSweep
  split
  · obtain ⟨sl, g, x, y, e⟩ := NestsAgree.foldl_take_skipped c s.skippedRecords (NestsAgree.skippedRecords_status s) (s.nest n)
    refine (hs.modNest n (fun x => s.skippedRecords.foldl (fun x r => x.take c r) x) ?_).same ?_
    · rw [e]
      exact ⟨rfl, rfl, rfl, rfl⟩
    · refine SameUnits.of_books ?_ ?_ ?_ ?_ ?_ ?_ ?_
      all_goals cases n <;> split <;> simp
  · exact hs

theorem offerRecord (hs : s.UnitsLaw) (n : NestId) (tag : BitVec 16) {r : PointRecord} (hr : r.status ≠ .skipped) :
    (s.offerRecord n tag r).UnitsLaw := by
  unfold State.offerRecord
  split
  · exact hs
  next c _ =>
    have htaken := hs.modNest n (Nest.take c r) (Nest.Grows.take c (s.nest n) hr).sameUnit
    dsimp only
    split_ifs
    · exact htaken.stopSweep n c
    · exact htaken
    · exact hs

/-! ### Activation (R19, R20) -/

/-- The law after the list has been emptied, each of its entries having expired (R20, R124). -/
theorem emptyList (hs : s.UnitsLaw) (t : State) (hretest : t.units.retest = []) (hsurplus : t.surplus = s.emptyRetest.surplus)
    (hA : t.nestA = s.nestA) (hB : t.nestB = s.nestB) (hheld : ∀ n, t.units.held n = s.units.held n)
    (hqueue : t.chain.queue = s.chain.queue) (hwait : t.marker.waitList = s.marker.waitList) : t.UnitsLaw := by
  have hnest (n : NestId) : t.nest n = s.nest n := by
    cases n
    · exact hA
    · exact hB
  have hempty : s.emptyRetest.surplus = s.surplus := by
    have hnil : BitVec.ofNat 32 ([] : List RetestEntry).length = 0 := rfl
    simp only [State.surplus, State.emptyRetest, State.modUnits, State.count, Counts.addExpired, UnitTable.bump, hnil]
    ring
  refine ⟨?_, fun n hn => ?_, fun w hw => ?_⟩
  · obtain ⟨h1, h2, h3, h4, -, -, h7, -⟩ := hs.balance
    refine ⟨?_, ?_, ?_, ?_, by simp [hretest], by simp [hretest], by rwa [hA, hB], by simp [hretest]⟩
    · rw [issued_iff_surplus] at h1 ⊢
      rw [hsurplus, hempty, h1, State.unsettledUnits, State.unsettledUnits, hA, hB]
    · simpa only [hnest] using h2
    · simpa only [hnest] using h3
    · simpa only [hnest, hheld] using h4
  · rw [hnest]
    exact hs.queue n (hqueue ▸ hn)
  · rw [hnest]
    exact hs.waiters w (hwait ▸ hw)

theorem activate (hs : s.UnitsLaw) : s.activate.UnitsLaw := by
  cases hst : s.loader.staged with
  | none => rwa [activate_unstaged hst]
  | some p =>
    rw [activate_staged hst]
    unfold State.replacedBy
    refine settleMarkerStart (latchBoth (keptByMarkerOps.remapMarker ?_) _)
    exact hs.emptyList _ rfl rfl (by simp) (by simp) (fun _ => rfl) (by simp) (by simp)

theorem settleActivation (hs : s.UnitsLaw) : s.settleActivation.UnitsLaw := by
  unfold State.settleActivation
  split
  · exact hs.activate
  · exact hs

end State.UnitsLaw
end Sys2Proof.Machine
end

section
/-! PROOF. The conservation of units through every event of a step (R120, R136). -/

namespace Sys2Proof.Machine
open Sys2Proof

theorem State.ChainLaw.not_queued {ρ : Prop} {s : State} (hs : s.ChainLaw ρ) {n : NestId} (hn : (s.nest n).state ≠ .waiting) :
    .nest n ∉ s.chain.queue := by
  have := hs.agree.queued n
  rw [if_neg hn] at this
  exact List.count_eq_zero.mp this

/-- The laws of the chain and of the accounts together. -/
structure State.Accounted (s : State) : Prop where
  chain : s.ChainLaw False
  units : s.UnitsBalance

namespace State.UnitsLaw
variable {s t : State}

/-- A change that leaves the books and every nest. -/
theorem congr (hs : s.UnitsLaw) (hu : t.units = s.units) (ha : t.accounts = s.accounts)
    (hp : t.loader.active = s.loader.active) (hA : t.nestA = s.nestA) (hB : t.nestB = s.nestB)
    (hq : t.chain.queue = s.chain.queue) (hw : t.marker.waitList = s.marker.waitList) : t.UnitsLaw :=
  hs.same (SameUnits.of_books hu ha hp hA hB hq hw)

theorem count (hs : s.UnitsLaw) (f : Counts → Counts)
    (hf : ∀ c, (f c).issued = c.issued ∧ (f c).firstPass = c.firstPass ∧ (f c).retestPass = c.retestPass ∧
      (f c).finalFail = c.finalFail ∧ (f c).expired = c.expired ∧ (f c).releasedUntested = c.releasedUntested) :
    (s.count f).UnitsLaw := by
  obtain ⟨h1, h2, h3, h4, h5, h6⟩ := hf s.accounts.counts
  exact hs.same ⟨rfl, rfl, rfl, by simp [State.surplus, State.count, h1, h2, h3, h4, h5, h6], rfl, rfl, rfl, rfl, rfl⟩

theorem endCheckIfDue (hs : s.UnitsLaw) : s.endCheckIfDue.UnitsLaw := by
  unfold State.endCheckIfDue
  split
  · have hreply {u : State} (hu : u.UnitsLaw) (body : List Byte) :
        ((if u.runs .station .chainCheck then u.answerLate .station .ok 0 body else u).grantHead.settleActivation).UnitsLaw := by
      refine settleActivation (grantHead ?_)
      split
      · exact (hu.modPort .station (Port.answered .ok 0 _ _)).modPort .station (Port.latch .requestDone)
      · exact hu
    dsimp only
    split
    · exact hreply hs.freeChain _
    · exact hreply (hs.freeChain.withdraw.latchBoth _) _
  · exact hs

theorem dropWaiting (hs : s.UnitsLaw) (n : NestId) (hn : (s.nest n).state = .labelWait) : (s.dropWaiting n).UnitsLaw := by
  have hdropped : (s.modMarker fun m =>
      { m with waitList := m.waitList.filter (fun w => w.nest ≠ n), dropped := m.dropped + 1 }).UnitsLaw :=
    hs.carry ⟨rfl, fun _ => rfl, rfl, rfl, fun k => by cases k <;> exact Nest.SameUnit.refl _⟩ (fun _ h => .inl h)
      fun w hw => .inl (List.mem_of_mem_filter hw)
  exact hdropped.emptied (by simp [Nest.holdsUnit, NestState.inTest, hn])

theorem stepOn (hs : s.UnitsLaw) : s.stepOn.UnitsLaw :=
  hs.congr (by simp) (by simp) (by simp) (by simp) (by simp) (by simp) (by simp)

theorem freeOne (hs : s.UnitsLaw) (i : HalfId) : (s.freeOne i).UnitsLaw :=
  hs.congr (by simp) (by simp) (by simp) (by simp) (by simp) (by simp) (by simp)

theorem decideWindow (hs : s.UnitsLaw) (i : HalfId) : (s.decideWindow i).UnitsLaw := by
  have hclean : (s.endClean i).UnitsLaw :=
    hs.congr (by simp [State.endClean]) (by simp [State.endClean]) (by simp [State.endClean]) (by simp [State.endClean])
      (by simp [State.endClean]) (by simp [State.endClean]) (by simp [State.endClean])
  have hoffer (n : NestId) (g : BitVec 16) {r : PointRecord} (hr : r.status ≠ .skipped) := (hs.freeOne i).offerRecord n g hr
  unfold State.decideWindow
  dsimp only
  split
  · exact hclean
  · exact hs
  · split_ifs
    · exact ((hoffer _ _ (by simp [unmeasured])).count Counts.addOverload fun _ => ⟨rfl, rfl, rfl, rfl, rfl, rfl⟩).stepOn
    · refine ((hs.freeOne i).count Counts.addGuardHit fun _ => ⟨rfl, rfl, rfl, rfl, rfl, rfl⟩).congr ?_ ?_ ?_ ?_ ?_ ?_ ?_
      all_goals rfl
    · exact ((hoffer _ _ (by simp [unmeasured])).count Counts.addNoisy fun _ => ⟨rfl, rfl, rfl, rfl, rfl, rfl⟩).stepOn
    · exact hclean

/-! ### Loads (R116, R118, R119) -/

/-- A unit enters the EMPTY nest `n`: what then stands in the nest and the list stands nowhere else. -/
theorem loads {n : NestId} (hs : s.UnitsLaw) (hn : (s.nest n).state = .empty) (hq : .nest n ∉ s.chain.queue)
    (hw : ∀ w ∈ s.marker.waitList, w.nest ≠ n) {t : State} (hchain : t.chain = s.chain) (hmarker : t.marker = s.marker)
    (h : s.MovesUnit n t) : t.UnitsLaw := by
  refine hs.moves h (fun k hk => ?_) fun w hm => ?_
  · rw [hchain] at hk
    refine ⟨hk, ?_⟩
    rintro rfl
    exact absurd hk hq
  · rw [hmarker] at hm
    rwa [if_neg (hw w hm)]

end State.UnitsLaw

namespace State.Accounted
variable {s t : State}

theorem law (hs : s.Accounted) : s.UnitsLaw := hs.chain.unitsLaw hs.units

theorem balance_congr (hs : s.Accounted) (hu : t.units = s.units) (ha : t.accounts = s.accounts)
    (hp : t.loader.active = s.loader.active) (hA : t.nestA = s.nestA) (hB : t.nestB = s.nestB)
    (hq : t.chain.queue = s.chain.queue) (hw : t.marker.waitList = s.marker.waitList) : t.UnitsBalance :=
  (hs.law.congr hu ha hp hA hB hq hw).balance

/-! ### Line events -/

theorem lineAbort (hs : s.Accounted) (ns : List NestId) (hns : ns.Nodup) : (s.lineAbort ns).UnitsLaw := by
  unfold State.lineAbort
  split
  · exact (hs.law.abortAll ns hns).settleActivation
  · exact hs.law

theorem lineStart (hs : s.Accounted) (n : NestId) : (s.lineStart n).UnitsLaw := by
  unfold State.lineStart
  split
  · exact (hs.law.modNest n _ ⟨rfl, rfl, rfl, rfl⟩).latchBoth _
  next h => exact (hs.law.acceptStart n (NestsAgree.startRefusal_loaded h)).modNest n _ ⟨rfl, rfl, rfl, rfl⟩

theorem releaseUntested (hs : s.Accounted) {n : NestId} (hn : (s.nest n).state = .loaded) : (s.releaseUntested n).UnitsLaw :=
  hs.law.releaseUntested hn (hs.chain.not_queued (by simp [hn]))

theorem presenceLoss (hs : s.Accounted) (n : NestId) : (s.presenceLoss n).UnitsLaw := by
  have habort (hn : (s.nest n).state.inTest = true) : (((s.abortAll [n]).releaseUntested n).settleActivation).UnitsLaw := by
    have haborted : (s.abortAll [n]).Accounted :=
      ⟨(hs.chain.abortAll [n] (List.nodup_singleton n)).law, (hs.law.abortAll [n] (List.nodup_singleton n)).balance⟩
    exact (haborted.releaseUntested (by rw [hs.chain.abortAll_one_nest hn]; rfl)).settleActivation
  unfold State.presenceLoss
  split
  · exact hs.law
  next h => exact hs.releaseUntested h
  next h => exact habort (by simp [h, NestState.inTest])
  next h => exact habort (by simp [h, NestState.inTest])
  next h => exact habort (by simp [h, NestState.inTest])
  next h => exact hs.law.dropWaiting n h
  next h => exact hs.law.emptied (by simp [Nest.holdsUnit, NestState.inTest, h])

theorem edge (hs : s.Accounted) (f : InputFunction) (level : Bool) : (s.edge f level).UnitsLaw := by
  unfold State.edge
  split
  · exact hs.presenceLoss _
  · exact hs.lineAbort _ (List.nodup_singleton _)
  · exact hs.lineAbort _ (by decide)
  · exact hs.lineAbort _ (by decide)
  · exact hs.lineStart _
  all_goals exact hs.law

/-! ### Completions -/

theorem handOver (hs : s.Accounted) (w : Half) (a : Analysed) : (s.handOver w a).UnitsLaw := by
  have hstatus (m : Int) : (recordOf m w a).status ≠ .skipped := by
    unfold recordOf
    dsimp only
    split <;> simp
  unfold State.handOver
  split
  · split
    next n _ =>
      have hoffer := hs.law.offerRecord n w.tag (hstatus s.minResponse)
      dsimp only
      split
      next h =>
        have hq := (hs.chain.offerRecord n w.tag (hstatus s.minResponse)).law.not_queued (n := n) (by simp [h.1])
        exact (hoffer.makeVerdict h.1 hq).settleActivation
      · exact hoffer
    · refine State.UnitsLaw.endCheckIfDue (hs.law.congr rfl rfl rfl rfl rfl ?_ rfl)
      simp only [State.takeCheckResult, State.modChain]
      split <;> rfl
  · exact hs.law

theorem endFadeOut (hs : s.Accounted) : s.endFadeOut.UnitsLaw := by
  have hsilent : s.fallSilent.UnitsLaw := hs.law.congr rfl rfl rfl rfl rfl rfl rfl
  unfold State.endFadeOut
  split
  next n hn =>
    have hm : (s.nest n).state = .measuring := (hs.chain.agree.measuring n).mpr (hs.chain.agree.generator n hn)
    have hq : .nest n ∉ s.chain.queue := hs.chain.not_queued (by simp [hm])
    have hm' : (s.fallSilent.nest n).state = .measuring := by cases n <;> exact hm
    have hends : ((s.fallSilent.modNest n fun x => { x with state := .analysing }).freeChain).UnitsLaw :=
      (hsilent.modNest n _ ⟨rfl, rfl, rfl, by simp [Nest.holdsUnit, NestState.inTest, hm']⟩).freeChain
    dsimp only
    split
    · refine (hends.makeVerdict ?_ ?_).grantHead.settleActivation
      · cases n <;> rfl
      · simpa [State.freeChain] using hq
    · exact hends.grantHead
  · exact State.UnitsLaw.endCheckIfDue (hsilent.congr rfl rfl rfl rfl rfl rfl rfl)
  · exact hsilent

/-! ### Requests -/

/-- What an answer leaves of the law. -/
theorem answer {p : PortId} {st : Status} {sub : Nat} {body : List Byte} (hs : s.UnitsLaw) : (s.answer p st sub body).UnitsLaw :=
  hs.modPort p _

theorem takePlanOpen (hs : s.UnitsLaw) (p : PortId) (q : Vector Byte 64) : (takePlanOpen p q s).UnitsLaw := by
  unfold Machine.takePlanOpen
  dsimp only
  split_ifs
  · exact answer hs
  · exact answer hs
  · split
    · exact answer (hs.congr rfl rfl rfl rfl rfl rfl rfl)
    · exact answer (hs.congr rfl rfl rfl rfl rfl rfl rfl)
    · exact answer (hs.congr rfl rfl rfl rfl rfl rfl rfl)
    · exact answer hs
    · exact answer hs

theorem takePlanData (hs : s.UnitsLaw) (p : PortId) (q : Vector Byte 64) : (takePlanData p q s).UnitsLaw := by
  unfold Machine.takePlanData
  dsimp only
  split
  · exact answer hs
  · split
    · exact answer (hs.congr rfl rfl rfl rfl rfl rfl rfl)
    all_goals exact answer hs

theorem takePlanClose (hs : s.UnitsLaw) (p : PortId) (q : Vector Byte 64) : (takePlanClose p q s).UnitsLaw := by
  unfold Machine.takePlanClose
  split
  · exact hs.congr rfl rfl rfl rfl rfl rfl rfl
  all_goals exact answer hs

theorem takePlanActivate (hs : s.UnitsLaw) (p : PortId) (q : Vector Byte 64) : (takePlanActivate p q s).UnitsLaw := by
  unfold Machine.takePlanActivate
  split
  · split
    · exact answer (hs.congr rfl rfl rfl rfl rfl rfl rfl)
    · exact answer hs.activate
  all_goals exact answer hs

theorem takePlanRevoke (hs : s.UnitsLaw) (p : PortId) (q : Vector Byte 64) : (takePlanRevoke p q s).UnitsLaw := by
  unfold Machine.takePlanRevoke
  split
  · exact answer (hs.congr rfl rfl rfl rfl rfl rfl rfl)
  · exact answer (hs.congr rfl rfl rfl rfl rfl rfl rfl)
  all_goals exact answer hs

theorem takeCalibrate (hs : s.UnitsLaw) (p : PortId) (q : Vector Byte 64) : (takeCalibrate p q s).UnitsLaw := by
  refine answer (State.UnitsLaw.withdraw ?_)
  split <;> exact hs.congr rfl rfl rfl rfl rfl rfl rfl

theorem takeChainCheck (hs : s.UnitsLaw) (p : PortId) (q : Vector Byte 64) : (takeChainCheck p q s).UnitsLaw := by
  refine State.UnitsLaw.grantHead (hs.carry ⟨rfl, fun _ => rfl, rfl, rfl, fun k => by cases k <;> exact Nest.SameUnit.refl _⟩
    (fun k hk => .inl ?_) fun w hw => .inl hw)
  simpa using hk

theorem takeSerialBase (hs : s.UnitsLaw) (p : PortId) (q : Vector Byte 64) : (takeSerialBase p q s).UnitsLaw := by
  unfold Machine.takeSerialBase
  dsimp only
  split
  · exact answer hs
  · exact answer (hs.same ⟨rfl, rfl, rfl, rfl, rfl, rfl, rfl, rfl, rfl⟩)

theorem takeCloseShift (hs : s.UnitsLaw) (p : PortId) (q : Vector Byte 64) : (takeCloseShift p q s).UnitsLaw :=
  answer (hs.same ⟨rfl, rfl, rfl, rfl, rfl, rfl, rfl, rfl, rfl⟩)

theorem takeMarkerStart (hs : s.UnitsLaw) (p : PortId) (q : Vector Byte 64) : (takeMarkerStart p q s).UnitsLaw := by
  unfold Machine.takeMarkerStart
  split_ifs
  · exact answer hs
  · exact answer hs
  · exact State.UnitsLaw.keptByMarkerOps.startBus (hs.modMarker _ (keepsJobs_negotiateAll _).2.1)

theorem takeReleaseNest (hs : s.Accounted) (p : PortId) (q : Vector Byte 64) : (takeReleaseNest p q s).UnitsLaw := by
  unfold Machine.takeReleaseNest
  split
  · exact answer hs.law
  · split
    next hn => exact answer (hs.releaseUntested hn)
    next hn => exact answer (hs.law.emptied (by simp [Nest.holdsUnit, NestState.inTest, hn]))
    all_goals exact answer hs.law

theorem takeAbortNest (hs : s.UnitsLaw) (p : PortId) (q : Vector Byte 64) : (takeAbortNest p q s).UnitsLaw := by
  unfold Machine.takeAbortNest
  split
  · exact answer hs
  next n _ =>
    split
    · exact answer (hs.abortAll [n] (List.nodup_singleton n)).settleActivation
    · exact answer hs

theorem takeStartNest (hs : s.UnitsLaw) (p : PortId) (q : Vector Byte 64) : (takeStartNest p q s).UnitsLaw := by
  unfold Machine.takeStartNest
  split
  · exact answer hs
  · split
    · exact answer hs
    next h => exact answer (hs.acceptStart _ (NestsAgree.startRefusal_loaded h))

theorem takeLineEvent (hs : s.Accounted) (p : PortId) (q : Vector Byte 64) : (takeLineEvent p q s).UnitsLaw := by
  have hset (l : Lines) : State.Accounted { s with lines := l } :=
    ⟨hs.chain.congr (by constructor <;> rfl) (SameRequests.of_eq rfl rfl) id,
      (hs.law.congr (t := { s with lines := l }) rfl rfl rfl rfl rfl rfl rfl).balance⟩
  unfold Machine.takeLineEvent
  dsimp only
  split
  · exact answer hs.law
  · split_ifs
    · exact answer hs.law
    · exact answer hs.law
    · exact answer (hs.lineStart _)
  · split_ifs
    · exact answer hs.law
    · exact answer hs.law
    · exact answer (hset _).law
    · exact answer ((hset _).edge _ _)

theorem takeReprint (hs : s.UnitsLaw) (p : PortId) (q : Vector Byte 64) : (takeReprint p q s).UnitsLaw := by
  unfold Machine.takeReprint
  dsimp only
  split
  · exact answer hs
  · split
    · exact answer hs
    · split
      · exact answer hs
      · exact answer (State.UnitsLaw.keptByMarkerOps.enqueue hs _)

/-! ### Loads -/

theorem loads (hs : s.Accounted) {n : NestId} (hn : (s.nest n).state = .empty) (hchain : t.chain = s.chain)
    (hmarker : t.marker = s.marker) (h : s.MovesUnit n t) : t.UnitsLaw := by
  refine hs.law.loads hn (hs.chain.not_queued (by simp [hn])) (fun w hw => ?_) hchain hmarker h
  rintro rfl
  have hcount := hs.chain.agree.waits w.nest
  rw [hn] at hcount
  have : 0 < s.marker.waitList.countP (fun x => x.nest = w.nest) := List.countP_pos_iff.mpr ⟨w, hw, by simp⟩
  simp at hcount
  exact absurd rfl (hcount w hw)

theorem unsettled_of_empty {x : Nest} (h : x.state = .empty) : x.unsettled = false := by
  simp [unsettled_eq, Nest.holdsUnit, NestState.inTest, h]

/-- A unit is loaded into the EMPTY nest `n`, with the counts and the list as `u` has them. -/
theorem movesUnit_loaded {u : State} {n : NestId} (hs : s.Accounted) (hn : (s.nest n).state = .empty) (hnest : ∀ k, u.nest k = s.nest k)
    (hplan : u.plan = s.plan) (hheld : u.units.held (otherNest n) = s.units.held (otherNest n)) (kind : UnitKind)
    (serial : Option Nat) (attempt : Nat) (hsurplus : u.surplus = s.surplus + BitVec.ofNat 32 (decide (kind = .production)).toNat)
    (hlist : u.units.retest.Sublist s.units.retest) (hserial : kind = .production → serial ≠ none ∧
      (attempt ≠ 1 → (u.units.held n).map (·.serial) = serial) ∧ ∀ e ∈ u.units.retest, serial ≠ some e.serial)
    (hapart : serial ≠ none → serial ≠ (s.nest (otherNest n)).serial) :
    s.MovesUnit n (u.modNest n (Nest.loaded kind serial attempt)) := by
  have hnew : (u.modNest n (Nest.loaded kind serial attempt)).nest n = Nest.loaded kind serial attempt (s.nest n) := by
    rw [State.modNest_nest, hnest]
  have hunit : (Nest.loaded kind serial attempt (s.nest n)).unsettled = decide (kind = .production) := by
    simp [Nest.unsettled, Nest.loaded]
  refine ⟨by simpa using hplan, ?_, by simpa using hheld, ?_, fun _ => ?_, fun h => ?_, fun h => ?_, ?_, fun e he => .inl ?_⟩
  · rw [State.modNest_nest_other _ _ _ (ne_iff_otherNest.mpr rfl), hnest]
    exact Nest.SameUnit.refl _
  · have : (u.modNest n (Nest.loaded kind serial attempt)).surplus = u.surplus := by simp [State.surplus]
    have hzero : BitVec.ofNat 32 0 = 0 := rfl
    rw [this, hnew, hunit, hsurplus, unsettled_of_empty hn, Bool.toNat_false, hzero]
    ring
  · rw [hnew]
    simp [Nest.loaded]
  · rw [hnew] at h ⊢
    have := hserial (by rwa [hunit, decide_eq_true_eq] at h)
    simpa [Nest.loaded] using this
  · rw [hnew] at h ⊢
    exact hapart h
  · simpa using (hlist.map _).nodup hs.units.list
  · exact hlist.subset (by simpa using he)

theorem loadNew (hs : s.Accounted) (p : PortId) {n : NestId} (hn : (s.nest n).state = .empty) : (s.loadNew p n).UnitsLaw := by
  unfold State.loadNew
  dsimp only
  split
  · exact answer (hs.law.same ⟨rfl, rfl, rfl, rfl, rfl, rfl, rfl, rfl, rfl⟩)
  next hv =>
    obtain ⟨hnests, hlist⟩ := mem_serialsInUse (candidate_free s hv)
    refine answer (hs.loads hn (by simp) (by simp) ?_)
    refine hs.movesUnit_loaded (u := (s.modUnits fun u => { u with serialCounter := nextSerial s.candidate }).count Counts.addIssued)
      hn (fun k => by cases k <;> rfl) rfl (by cases n <;> rfl) .production (some s.candidate) 1 ?_ (List.Sublist.refl _) (fun _ => ⟨by simp, by simp, fun e he => ?_⟩) fun _ => ?_
    · simp only [State.surplus, State.count, Counts.addIssued, State.modUnits, decide_true, Bool.toNat_true, ofNat_one]
      ring
    · exact fun h => hlist e he (Option.some.inj h).symm
    · exact (hnests _).symm

/-- The entry that is taken out of the list is the only one of its serial. -/
theorem takeEntry_length {l : List RetestEntry} {e : RetestEntry} (hl : (l.map (·.serial)).Nodup) (he : e ∈ l) :
    (l.filter fun x => x.serial ≠ e.serial).length + 1 = l.length := by
  induction l with
  | nil => contradiction
  | cons x l ih =>
    obtain ⟨hx, hl⟩ := List.nodup_cons.mp hl
    by_cases hxe : x.serial = e.serial
    · have hall : l.filter (fun y => y.serial ≠ e.serial) = l := by
        refine List.filter_eq_self.mpr fun y hy => ?_
        simp only [ne_eq, decide_eq_true_eq]
        exact fun hye => hx (List.mem_map.mpr ⟨y, hy, hye.trans hxe.symm⟩)
      rw [List.filter_cons_of_neg (by simpa using hxe), hall, List.length_cons]
    · rw [List.filter_cons_of_pos (by simpa using hxe), List.length_cons, List.length_cons]
      rcases List.mem_cons.mp he with rfl | he
      · exact absurd rfl hxe
      · rw [ih hl he]

theorem loadRetest (hs : s.Accounted) (p : PortId) {n : NestId} (hn : (s.nest n).state = .empty) (v : Nat) :
    (s.loadRetest p n v).UnitsLaw := by
  unfold State.loadRetest
  split
  · exact answer hs.law
  next huse =>
    split
    · exact answer hs.law
    next e he =>
      have hmem := List.mem_of_find?_eq_some he
      obtain rfl : e.serial = v := by simpa using List.find?_some he
      have hlist : (s.modUnits fun u => (u.takeEntry e.serial).setHeld n (some e)).units.retest =
          s.units.retest.filter fun x => x.serial ≠ e.serial := by cases n <;> rfl
      refine answer (hs.loads hn (by simp) (by simp) ?_)
      refine hs.movesUnit_loaded (u := s.modUnits fun u => (u.takeEntry e.serial).setHeld n (some e)) hn
        (fun k => by cases k <;> rfl) rfl (by cases n <;> rfl) .production (some e.serial) (e.attempts + 1) ?_ ?_ (fun _ => ⟨by simp, fun _ => ?_, fun x hx => ?_⟩) fun _ => ?_
      · have hlength := takeEntry_length hs.units.list hmem
        have hcounts : (s.modUnits fun u => (u.takeEntry e.serial).setHeld n (some e)).accounts = s.accounts := rfl
        simp only [State.surplus, hlist, hcounts, ← hlength, decide_true, Bool.toNat_true, BitVec.ofNat_add, ofNat_one]
        ring
      · rw [hlist]
        exact List.filter_sublist
      · cases n <;> rfl
      · rw [hlist] at hx
        have := (List.mem_filter.mp hx).2
        simp only [ne_eq, decide_eq_true_eq] at this
        exact fun h => this (Option.some.inj h).symm
      · exact fun h => huse h.symm

theorem loadReference (hs : s.Accounted) (p : PortId) {n : NestId} (hn : (s.nest n).state = .empty) :
    (s.loadReference p n).UnitsLaw :=
  answer (hs.loads hn (by simp) (by simp) (hs.movesUnit_loaded hn (fun _ => rfl) rfl rfl .reference none 1
    (by simp) (List.Sublist.refl _) (by simp) (by simp)))

theorem takeLoadUnit (hs : s.Accounted) (p : PortId) (q : Vector Byte 64) : (takeLoadUnit p q s).UnitsLaw := by
  unfold Machine.takeLoadUnit
  dsimp only
  split
  · exact answer hs.law
  · split_ifs with _ _ hn
    · exact answer hs.law
    · exact answer hs.law
    · exact answer hs.law
    · exact hs.loadNew p (by simpa using hn)
    · exact hs.loadRetest p (by simpa using hn) _
    · exact hs.loadReference p (by simpa using hn)

/-! ### Resets, and every event -/

/-- A part without units: no counts, no list, EMPTY nests (R35, R187). -/
theorem at_reset (hA : s.nestA = Nest.reset) (hB : s.nestB = Nest.reset) (hu : s.units.retest = [])
    (hc : s.accounts.counts = Counts.zero) : s.UnitsBalance := by
  have hn (n : NestId) : s.nest n = Nest.reset := by cases n <;> assumption
  constructor <;> simp only [hn, hu, hc, hA, hB, State.unsettledUnits]
  all_goals simp [Nest.reset, Nest.unsettled, Nest.holdsUnit, NestState.inTest, Counts.zero]

theorem takeStationReset (p : PortId) (q : Vector Byte 64) (s : State) : (takeStationReset p q s).UnitsBalance := by
  obtain ⟨f, hf⟩ := endLineRequest_eq_modPort s.resetBlocks
  refine at_reset ?_ ?_ ?_ ?_
  all_goals simp [Machine.takeStationReset, hf]
  all_goals rfl

theorem taken (hs : s.Accounted) {p : PortId} {r : Request} {params : Vector Byte 64} (hr : readsOnly r = false)
    (hrun : (s.port p).running = some ⟨r, params, false⟩) : (takeOf r p params (s.modPort p Port.markTaken)).UnitsBalance := by
  have hmark : (s.modPort p Port.markTaken).UnitsLaw := hs.law.modPort p _
  have hserves (hc : r ≠ .chainCheck) (hp : r ≠ .planClose) : (s.modPort p Port.markTaken).Accounted :=
    ⟨(hs.chain.serves hrun hc hp).law, hmark.balance⟩
  cases r <;> try contradiction
  case stationReset => exact takeStationReset p params _
  case releaseNest => exact ((hserves (by simp) (by simp)).takeReleaseNest p params).balance
  case lineEvent => exact ((hserves (by simp) (by simp)).takeLineEvent p params).balance
  case loadUnit => exact ((hserves (by simp) (by simp)).takeLoadUnit p params).balance
  case planOpen => exact (takePlanOpen hmark p params).balance
  case planData => exact (takePlanData hmark p params).balance
  case planClose => exact (takePlanClose hmark p params).balance
  case planActivate => exact (takePlanActivate hmark p params).balance
  case planRevoke => exact (takePlanRevoke hmark p params).balance
  case calibrate => exact (takeCalibrate hmark p params).balance
  case chainCheck => exact (takeChainCheck hmark p params).balance
  case serialBase => exact (takeSerialBase hmark p params).balance
  case closeShift => exact (takeCloseShift hmark p params).balance
  case markerStart => exact (takeMarkerStart hmark p params).balance
  case startNest => exact (takeStartNest hmark p params).balance
  case abortNest => exact (takeAbortNest hmark p params).balance
  case reprint => exact (takeReprint hmark p params).balance
  case abandon => exact hmark.balance

theorem abandonCheck (hs : s.UnitsLaw) (p : PortId) : (s.abandonCheck p).UnitsLaw := by
  unfold State.abandonCheck
  split
  · exact (((hs.silenceAndFree _).freeChain.modPort p _).grantHead).settleActivation
  · exact (hs.leaveQueue _).modPort p _

theorem abandonMarker (hs : s.UnitsLaw) (p : PortId) : (s.abandonMarker p).UnitsLaw := by
  have hdown := hs.modMarker (fun m =>
    { m with devices := m.devices.map Device.standDown, bus := m.bus.map Transaction.discardProbe }) rfl
  have hops := State.UnitsLaw.keptByMarkerOps
  unfold State.abandonMarker
  dsimp only
  split
  · exact (hops.startBus (hops.rematchHead hdown)).modPort p _
  · exact (hops.startBus hdown).modPort p _

theorem abandonRequest (hs : s.UnitsLaw) (p : PortId) : (s.abandonRequest p).UnitsLaw :=
  abandonRequest_kept (fun _ => hs.modPort p _) (fun _ => hs.modPort p _)
    (fun _ => (hs.congr (t := s.modLoader Loader.receiveAgain) rfl rfl rfl rfl rfl rfl rfl).modPort p _)
    (fun _ => abandonCheck hs p) fun _ => abandonMarker hs p

theorem endChecks (hs : s.UnitsLaw) (r : CheckResult) : (s.endChecks r).UnitsLaw := by
  have hchecked : (s.checked r).UnitsLaw := by
    unfold State.checked
    split
    · exact (hs.congr rfl rfl rfl rfl rfl rfl rfl : State.UnitsLaw (s.modLoader _)).latchBoth _
    · exact (hs.congr rfl rfl rfl rfl rfl rfl rfl : State.UnitsLaw (s.modLoader _)).latchBoth _
  rw [endChecks_eq]
  refine hchecked.congr ?_ ?_ ?_ ?_ ?_ ?_ ?_
  all_goals simp

/-- Each event of a step keeps the laws of the chain and of the accounts. -/
theorem keptByEvents : KeptByEvents State.Accounted where
  queue s l hs := ⟨(ChainLaw.keptByEvents _).queue s l hs.chain, hs.balance_congr rfl rfl rfl rfl rfl rfl rfl⟩
  hold s h hs := ⟨(ChainLaw.keptByEvents _).hold s h hs.chain, hs.balance_congr rfl rfl rfl rfl rfl rfl rfl⟩
  stopped s hs := ⟨(ChainLaw.keptByEvents _).stopped s hs.chain, hs.balance_congr rfl rfl rfl rfl rfl rfl rfl⟩
  released s a b := ⟨(ChainLaw.keptByEvents _).released s a b, at_reset rfl rfl rfl rfl⟩
  pins s l f hs := ⟨(ChainLaw.keptByEvents _).pins s l f hs.chain, hs.balance_congr rfl rfl rfl rfl rfl rfl rfl⟩
  edge s f level hs := ⟨(ChainLaw.keptByEvents _).edge s f level hs.chain, (hs.edge f level).balance⟩
  window s p f hf hs := ⟨(ChainLaw.keptByEvents _).window s p f hf hs.chain, (hs.law.modPort p f).balance⟩
  begun s p r params hslot hp hs :=
    ⟨(ChainLaw.keptByEvents _).begun s p r params hslot hp hs.chain, (hs.law.modPort p _).balance⟩
  answered s p code params st hslot hst hs :=
    ⟨(ChainLaw.keptByEvents _).answered s p code params st hslot hst hs.chain, (hs.law.modPort p _).balance⟩
  answer s p st sub body h hs := ⟨(ChainLaw.keptByEvents _).answer s p st sub body h hs.chain, (hs.law.modPort p _).balance⟩
  spend s n hs := ⟨(ChainLaw.keptByEvents _).spend s n hs.chain, hs.balance_congr rfl rfl rfl rfl rfl rfl rfl⟩
  readEvents s p hs := ⟨(ChainLaw.keptByEvents _).readEvents s p hs.chain, (hs.law.modPort p _).balance⟩
  taken s p r params hr hrun hs := ⟨(ChainLaw.keptByEvents _).taken s p r params hr hrun hs.chain, hs.taken hr hrun⟩
  abandoned s p hs := ⟨(ChainLaw.keptByEvents _).abandoned s p hs.chain, (abandonRequest hs.law p).balance⟩
  checks s hc hs := ⟨(ChainLaw.keptByEvents _).checks s hc hs.chain, (endChecks hs.law _).balance⟩
  burst s hs := by
    refine ⟨(ChainLaw.keptByEvents _).burst s hs.chain, (State.UnitsLaw.latchBoth ?_ _).balance⟩
    exact hs.law.congr rfl rfl rfl rfl rfl rfl rfl
  samples s g h hg hs := ⟨(ChainLaw.keptByEvents _).samples s g h hg hs.chain, hs.balance_congr rfl rfl rfl rfl rfl rfl rfl⟩
  opens s hs := by
    refine ⟨(ChainLaw.keptByEvents _).opens s hs.chain, hs.balance_congr ?_ ?_ ?_ ?_ ?_ ?_ ?_⟩
    all_goals simp
  closes s i samples hi hs := by
    refine ⟨(ChainLaw.keptByEvents _).closes s i samples hi hs.chain, (State.UnitsLaw.decideWindow (hs.law.congr ?_ ?_ ?_ ?_ ?_ ?_ ?_) i).balance⟩
    all_goals simp
  fades s hs := ⟨(ChainLaw.keptByEvents _).fades s hs.chain, hs.endFadeOut.balance⟩
  completion s i hi hs := by
    have hfreed : State.Accounted (State.freeOne i { s with engine := s.engine.finished (analyse (s.half i)) (s.half i).length }) := by
      refine ⟨hs.chain.congr ?_ (SameRequests.of_eq ?_ ?_) ?_, hs.balance_congr ?_ ?_ ?_ ?_ ?_ ?_ ?_⟩
      · constructor <;> simp
      all_goals simp
    refine ⟨(ChainLaw.keptByEvents _).completion s i hi hs.chain,
      ((hfreed.handOver (s.half i) (analyse (s.half i))).congr ?_ ?_ ?_ ?_ ?_ ?_ ?_).balance⟩
    all_goals simp [State.completeAnalysis]
  bus s f hf hs := ⟨(ChainLaw.keptByEvents _).bus s f hf hs.chain, (hs.law.modMarker f (hf _).2.1).balance⟩
  probe s d r hs :=
    ⟨(ChainLaw.keptByEvents _).probe s d r hs.chain, (State.UnitsLaw.keptByMarkerOps.probeOutcome hs.law d r).balance⟩
  start s hs := ⟨(ChainLaw.keptByEvents _).start s hs.chain, hs.law.settleMarkerStart.balance⟩
  page s d r hs := ⟨(ChainLaw.keptByEvents _).page s d r hs.chain, (State.UnitsLaw.keptByMarkerOps.pageLive hs.law d r).balance⟩
  timeout s hs :=
    ⟨(ChainLaw.keptByEvents _).timeout s hs.chain,
      (State.UnitsLaw.keptByMarkerOps.nextHead (State.UnitsLaw.keptByMarkerOps.failHead hs.law _)).balance⟩

end State.Accounted

/-- Settles O60: the conservation of units is kept by each event together with the law of the chain. -/
theorem stepKeepsTheUnitsBalance : Obligations.StepKeepsTheUnitsBalance := by
  unfold Obligations.StepKeepsTheUnitsBalance
  intro s t e hs hu
  have hlaw : s.ChainLaw False := (chainLaw_iff False s).mpr ⟨hs, False.elim⟩
  exact (State.Accounted.keptByEvents.step e ⟨hlaw, hu⟩).units

end Sys2Proof.Machine
end

section
/-! PROOF. The ports (R167 to R173): steps, requests that nobody can take, requests taken later, the abandon of a slot, and the reset
state's laws. -/

namespace Sys2Proof.Machine
open Sys2Proof

/-- Settles O1: the two cases of `step`. -/
theorem stepRunsTheFrontCommand : Obligations.StepRunsTheFrontCommand :=
  ⟨fun _ _ _ h => step_front h, fun _ h => step_idle h⟩

/-! ### Requests that nobody can take (R170, R173) -/

/-- A code that names no request is answered by the port (R170). -/
theorem exec_unknownRequest_ready {p : PortId} {code : Byte} (hcode : requestOf code = none) (params : List Byte) {s : State}
    (h : s.ready p) :
    exec (.unknownRequest p code params) s = .next (s.modPort p (Port.replied p code params .unknownRequest 0 [])) := by
  obtain ⟨hheld, hslot, hlost⟩ := h
  have hne : code ≠ requestCode .abandon := by
    rintro rfl
    rw [requestOf_requestCode] at hcode
    cases hcode
  have hwritten : ((s.port p).written p params).slot ≠ .running := by rwa [Port.written_slot]
  rw [exec_unknownRequest, unlessHeld_live hheld, State.hostRequest, transact_whole hlost, State.writeRequest, State.writeCode,
    if_neg hne, State.startRequest, State.modPort_port, if_neg hwritten]
  simp only [State.judgeCode, hcode, State.refuse, State.answer, State.modPort_modPort]
  cases p <;> rfl

/-- The byte at the front of the parameters just written. -/
theorem u8At_writeBytes_head (v : Vector Byte 64) (b : Byte) (rest : List Byte) :
    u8At (writeBytes v 0 (b :: rest)).toList 0 = b.toNat :=
  u8At_writeBytes v (b :: rest) 0 (by simp) (by decide)

/-- A selector other than those of the nests names none (R180). -/
theorem nestOf_other {v : Byte} (h1 : v ≠ 1) (h2 : v ≠ 2) : nestOf v.toNat = none := by
  have e1 : v.toNat ≠ 1 := fun h => h1 (BitVec.eq_of_toNat_eq h)
  have e2 : v.toNat ≠ 2 := fun h => h2 (BitVec.eq_of_toNat_eq h)
  rw [nestOf, if_neg e1, if_neg e2]

/-- The requests that begin with a nest selector refuse a wrong one before they look at anything else. -/
theorem takeOf_badSelector {r : Request}
    (hr : r = .loadUnit ∨ r = .releaseNest ∨ r = .startNest ∨ r = .abortNest ∨ r = .readNest ∨ r = .readPoints)
    (p : PortId) {q : Vector Byte 64} (hq : nestOf (u8At q.toList 0) = none) (s : State) :
    takeOf r p q s = s.refuse p .badParam 0 := by
  rcases hr with rfl | rfl | rfl | rfl | rfl | rfl <;>
    simp only [takeOf, takeLoadUnit, takeReleaseNest, takeStartNest, takeAbortNest, takeReadNest, takeReadPoints, hq]

/-- Settles O4: the port answers the first two itself; the block's first check refuses the third. -/
theorem portsRefuseWhatNobodyCanTake : Obligations.PortsRefuseWhatNobodyCanTake := by
  refine ⟨fun r p params t s hs hp => exec_wrongPort hp params t hs,
    fun p code params s hs hcode => ⟨exec_unknownRequest_ready hcode params hs, by cases p <;> rfl⟩, ?_⟩
  intro r p v rest s hs hp h1 h2 hr
  have hne : r ≠ .abandon := by rcases hr with rfl | rfl | rfl | rfl | rfl | rfl <;> decide
  have hsel : nestOf (u8At (writeBytes (s.port p).params 0 (v :: rest)).toList 0) = none := by
    rw [u8At_writeBytes_head, nestOf_other h1 h2]
  rw [exec_atOnce r hne p hp _ s hs, takeOf_badSelector hr p hsel, State.refuse, begun_answer]

/-! ### A request taken later (R170) -/

@[simp] theorem begun_held (p : PortId) (r : Request) (params : List Byte) (b : Bool) (s : State) :
    (s.begun p r params b).held = s.held := by
  cases p <;> rfl

/-- The request that waits, once it is taken, is the one that has begun taken. -/
theorem begun_takeRunning (p : PortId) (r : Request) (params : List Byte) (s : State) :
    (s.begun p r params false).takeRunning p =
      takeOf r p (writeBytes (s.port p).params 0 params) (s.begun p r params true) := by
  cases p <;> rfl

theorem exec_later {r : Request} (hr : r ≠ .abandon) {p : PortId} (hp : onPort p r = true) (params : List Byte) {s : State}
    (h : s.ready p) : exec (commandOf r p params .later) s = .next (s.begun p r params false) := by
  rw [exec_commandOf r, unlessHeld_live h.1, State.hostRequest, transact_whole h.2.2,
    writeRequest_later r hr p hp params s h.2.1]

theorem exec_requestTaken {s : State} (h : s.held = false) (p : PortId) : exec (.requestTaken p) s = .next (s.takeRunning p) :=
  unlessHeld_live h

/-- Settles O6: both takings run the block's operation on the state in which the request has begun. -/
theorem laterTakingEqualsTakingAtOnce : Obligations.LaterTakingEqualsTakingAtOnce := by
  refine ⟨fun r p params s hr hs hp => ⟨exec_later hr hp params hs, by cases p <;> rfl, _, ?_, exec_atOnce r hr p hp params s hs⟩,
    fun p s h => ?_⟩
  · rw [exec_requestTaken (by rw [begun_held, hs.1]), begun_takeRunning]
  · have hnone : s.takeRunning p = s := by rw [State.takeRunning, h]
    change unlessHeld (State.takeRunning p) s = _
    rw [unlessHeld, hnone, ite_self]

/-! ### ABANDON (R17, R172) -/

/-- ABANDON is the port's own: it acts on the window that its write leaves. -/
theorem exec_abandon {p : PortId} (params : List Byte) {s : State} (h : s.listens p) :
    exec (.abandon p params) s = .next ((s.modPort p (Port.written p params)).abandonRequest p) := by
  obtain ⟨hheld, hlost⟩ := h
  change unlessHeld (State.hostRequest p params (requestCode .abandon) .later) s = _
  rw [unlessHeld_live hheld, State.hostRequest, transact_whole hlost, State.writeRequest, State.writeCode, if_pos rfl]

@[simp] theorem Port.written_running (p : PortId) (params : List Byte) (q : Port) :
    (q.written p params).running = q.running := by
  cases p <;> rfl

theorem abandonRequest_ready {p : PortId} {s : State} (h : (s.port p).slot ≠ .running) :
    s.abandonRequest p = s.modPort p fun q => { q with slot := .idle } := by
  unfold State.abandonRequest
  cases hslot : (s.port p).slot <;> first | exact absurd hslot h | (cases (s.port p).running <;> rfl)

theorem abandonRequest_untaken {p : PortId} {r : RunningRequest} {s : State} (hslot : (s.port p).slot = .running)
    (hrun : (s.port p).running = some r) (hr : r.taken = false) : s.abandonRequest p = s.endAbandoned p [] .idle := by
  simp only [State.abandonRequest, hslot, hrun, hr, Bool.false_eq_true, if_false]

/-- ABANDON of a request that its block has taken on the Station Port. -/
theorem exec_abandon_taken {r : Request} {ps : Vector Byte 64} {s : State} (hs : s.listens .station)
    (hslot : s.station.slot = .running) (hrun : s.station.running = some ⟨r, ps, true⟩) :
    exec (.abandon .station []) s = .next
      (match r with
      | .planClose => s.abandonClose .station
      | .chainCheck => s.abandonCheck .station
      | .markerStart => s.abandonMarker .station
      | _ => s.endAbandoned .station [] .idle) := by
  have hnil : s.modPort .station (Port.written .station []) = s := rfl
  rw [exec_abandon [] hs, hnil, State.abandonRequest]
  simp only [State.port, hslot, hrun, if_true]
  cases r <;> rfl

/-- Settles O8: the cases of `State.abandonRequest`. -/
theorem abandonClearsWithdrawsOrReopens : Obligations.AbandonClearsWithdrawsOrReopens := by
  refine ⟨fun p params s hs => ?_, fun p params r s hs hslot hrun hr => ?_, fun ps s hs hslot hrun hl => ?_⟩
  · rw [exec_abandon params ⟨hs.1, hs.2.2⟩, abandonRequest_ready (by simpa using hs.2.1), State.modPort_modPort]
  · rw [exec_abandon params hs, abandonRequest_untaken (r := r) (by simpa using hslot) (by simpa using hrun) hr,
      State.endAbandoned, State.modPort_modPort]
    cases p <;> rfl
  · rw [exec_abandon_taken hs hslot hrun]
    have hbody : (loaderBody s.loader.receiveAgain).length = 16 := by
      simp only [loaderBody, Loader.receiveAgain]
      cases s.loader.staged <;> cases s.loader.active <;> simp [lePlanId, byte, flag]
    simp only [State.abandonClose, State.endAbandoned, State.modPort, State.modLoader, Port.answered, hbody]
    rfl

end Sys2Proof.Machine
end

section
/-! PROOF. Resets (R186 to R189) and the port windows (R167 to R169, R188): a hold, a release, the transactions it interrupts, and what
reads and writes of the window give. -/

namespace Sys2Proof.Machine
open Sys2Proof

/-! ### The mark of a lost transaction (R188) -/

/-- From `s` to `t` the part stays held or not, and each port keeps the mark of a lost transaction. -/
def State.KeepsLost (s t : State) : Prop := t.hold = s.hold ∧ ∀ p, (t.port p).lost = (s.port p).lost

namespace State.KeepsLost
variable {s t u : State}

theorem refl (s : State) : s.KeepsLost s := ⟨rfl, fun _ => rfl⟩

theorem trans (h : s.KeepsLost t) (h' : t.KeepsLost u) : s.KeepsLost u :=
  ⟨h'.1.trans h.1, fun p => (h'.2 p).trans (h.2 p)⟩

theorem of_same (h : s.SameRequests t) (hhold : t.hold = s.hold) : s.KeepsLost t := ⟨hhold, fun p => (h p).2.2⟩

theorem of_eq (hs : t.station = s.station) (hl : t.line = s.line) (hhold : t.hold = s.hold) : s.KeepsLost t :=
  of_same (SameRequests.of_eq hs hl) hhold

theorem modPort (p : PortId) (f : Port → Port) (hf : ∀ q, (f q).lost = q.lost) (s : State) : s.KeepsLost (s.modPort p f) :=
  ⟨by simp, fun r => by cases p <;> cases r <;> simp [State.port, State.modPort, hf]⟩

theorem answer (h : s.KeepsLost t) (p : PortId) (st : Status) (sub : Nat) (body : List Byte) : s.KeepsLost (t.answer p st sub body) :=
  h.trans (modPort p (Port.answered st sub body st.slot) (fun _ => rfl) t)

theorem latchBoth (e : Event) (s : State) : s.KeepsLost (s.latchBoth e) := of_same (SameRequests.latchBoth e s) rfl

theorem activate (s : State) : s.KeepsLost s.activate := by
  cases hst : s.loader.staged with
  | none => rw [activate_unstaged hst]; exact refl s
  | some p =>
    have hreq : s.SameRequests (s.replacedBy p) := by
      refine (SameRequests.withdraw s).trans (SameRequests.trans (SameRequests.of_eq ?_ ?_)
        ((OnlyEvents.remapMarker _).sameRequests.trans (SameRequests.latchBoth _ _)))
      all_goals simp
    rw [activate_staged hst, State.settleMarkerStart]
    refine (of_same hreq (by simp [State.replacedBy])).trans ?_
    split
    · exact ((refl _).answer .station .ok 0 _).trans (modPort .station (Port.latch .requestDone) (fun _ => rfl) _)
    · exact refl _

theorem settleActivation (s : State) : s.KeepsLost s.settleActivation := by
  unfold State.settleActivation
  split
  · exact activate s
  · exact refl s

theorem abortAll (ns : List NestId) (s : State) : s.KeepsLost (s.abortAll ns) := by
  have hfold (l : List NestId) (s : State) : s.KeepsLost (l.foldl (fun s n => s.abortOne n) s) := by
    induction l generalizing s with
    | nil => exact refl s
    | cons n l ih => exact (of_eq (by simp) (by simp) (by simp) : s.KeepsLost (s.abortOne n)).trans (ih _)
  have hgrant (t : State) : t.KeepsLost t.grantHead := of_eq (by simp) (by simp) (by simp)
  exact (hfold _ s).trans (hgrant _)

theorem releaseUntested (n : NestId) (s : State) : s.KeepsLost (s.releaseUntested n) :=
  of_same ((OnlyEvents.giveBack n s).sameRequests.trans (SameRequests.modNest n _ _)) (by simp)

theorem acceptStart (n : NestId) (s : State) : s.KeepsLost (s.acceptStart n) := 
  of_same (SameRequests.acceptStart n s) (by unfold State.acceptStart; dsimp only; split <;> simp)

theorem lineStart (n : NestId) (s : State) : s.KeepsLost (s.lineStart n) := by
  unfold State.lineStart
  split
  · exact (of_same (SameRequests.modNest n _ s) (by simp)).trans (latchBoth _ _)
  · exact (acceptStart n s).trans (of_same (SameRequests.modNest n _ _) (by simp))

theorem lineAbort (ns : List NestId) (s : State) : s.KeepsLost (s.lineAbort ns) := by
  unfold State.lineAbort
  split
  · exact (abortAll ns s).trans (settleActivation _)
  · exact refl s

theorem presenceLoss (n : NestId) (s : State) : s.KeepsLost (s.presenceLoss n) := by
  unfold State.presenceLoss
  split
  · exact refl s
  · exact releaseUntested n s
  · exact (abortAll _ s).trans ((releaseUntested n _).trans (settleActivation _))
  · exact (abortAll _ s).trans ((releaseUntested n _).trans (settleActivation _))
  · exact (abortAll _ s).trans ((releaseUntested n _).trans (settleActivation _))
  · exact of_eq (by simp [State.dropWaiting]) (by simp [State.dropWaiting]) (by simp [State.dropWaiting])
  · exact of_same (SameRequests.modNest n _ s) (by simp)

theorem edge (f : InputFunction) (level : Bool) (s : State) : s.KeepsLost (s.edge f level) := by
  unfold State.edge
  split
  · exact presenceLoss _ s
  · exact lineAbort _ s
  · exact lineAbort _ s
  · exact lineAbort _ s
  · exact lineStart _ s
  all_goals exact refl s

theorem startBus (s : State) : s.KeepsLost s.startBus := of_same (OnlyEvents.startBus s).sameRequests (by simp)

/-- An end of the request without an answer late, and a withdrawal: the marks stand. -/
theorem endAbandoned (p : PortId) (body : List Byte) (slot : SlotState) (s : State) : s.KeepsLost (s.endAbandoned p body slot) :=
  modPort p _ (by intro; rfl) s

/-! #### The requests -/

theorem takeOf_reads {r : Request} (hr : readsOnly r = true) (p : PortId) (q : Vector Byte 64) (s : State) :
    s.KeepsLost (takeOf r p q s) := by
  have hok (t : State) (body : List Byte) (n : Nat) (h : s.KeepsLost t) : s.KeepsLost ((t.ok p body).spendUnstated n) :=
    h.answer p _ _ _
  have hanswer (t : State) (st : Status) (sub : Nat) (body : List Byte) (h : s.KeepsLost t) : s.KeepsLost (t.answer p st sub body) :=
    h.answer p _ _ _
  cases r <;> try cases hr
  all_goals
    simp only [takeOf, takeReadNest, takeReadPoints, takeReadAccounts, takeReadShift, takeReadMarker, takeReadUnitTable,
      takeIdentify, takeReadEvents, takeSetMask]
  case readEvents => exact (hanswer _ _ _ _ (refl s)).trans (modPort p _ (by intro; rfl) _)
  case setMask => exact hanswer _ _ _ _ (modPort p _ (by intro; rfl) s)
  all_goals
    repeat' split
    all_goals first | exact hok _ _ _ (refl s) | exact hanswer _ _ _ _ (refl s)

theorem takeOf (r : Request) (p : PortId) (q : Vector Byte 64) (s : State) : s.KeepsLost (takeOf r p q s) := by
  by_cases hr : readsOnly r = true
  · exact takeOf_reads hr p q s
  have same {t : State} (h : t.station = s.station ∧ t.line = s.line ∧ t.hold = s.hold) (st : Status) (sub : Nat) (body : List Byte) :
      s.KeepsLost (t.answer p st sub body) := (of_eq h.1 h.2.1 h.2.2).answer p _ _ _
  have refused (st : Status) (sub : Nat) (body : List Byte) : s.KeepsLost (s.answer p st sub body) := (refl s).answer p _ _ _
  cases r <;> first | exact absurd rfl hr | skip
  all_goals simp only [Machine.takeOf]
  case planOpen =>
    unfold takePlanOpen
    dsimp only
    repeat' split
    all_goals first | exact refused _ _ _ | exact same (by exact ⟨rfl, rfl, rfl⟩) _ _ _
  case planData =>
    unfold takePlanData
    dsimp only
    repeat' split
    all_goals first | exact refused _ _ _ | exact same (by exact ⟨rfl, rfl, rfl⟩) _ _ _
  case planClose =>
    unfold takePlanClose
    split
    · exact of_eq rfl rfl rfl
    all_goals exact refused _ _ _
  case planActivate =>
    unfold takePlanActivate
    split
    · split
      · exact same (by exact ⟨rfl, rfl, rfl⟩) _ _ _
      · exact (activate s).answer p _ _ _
    all_goals exact refused _ _ _
  case planRevoke =>
    unfold takePlanRevoke
    split
    · exact same (by exact ⟨rfl, rfl, rfl⟩) _ _ _
    · exact same (by exact ⟨rfl, rfl, rfl⟩) _ _ _
    all_goals exact refused _ _ _
  case calibrate =>
    unfold takeCalibrate
    dsimp only
    refine (KeepsLost.trans ?_ (of_same (SameRequests.withdraw _) rfl)).answer p _ _ _
    split <;> exact of_eq rfl rfl rfl
  case chainCheck => exact of_eq (by simp [takeChainCheck]) (by simp [takeChainCheck]) (by simp [takeChainCheck])
  case serialBase =>
    unfold takeSerialBase
    dsimp only
    split
    · exact refused _ _ _
    · exact same (by exact ⟨rfl, rfl, rfl⟩) _ _ _
  case closeShift => exact same (by exact ⟨rfl, rfl, rfl⟩) _ _ _
  case markerStart =>
    unfold takeMarkerStart
    split
    · exact refused _ _ _
    · split
      · exact refused _ _ _
      · exact (of_eq rfl rfl rfl : s.KeepsLost (s.modMarker _)).trans (startBus _)
  case stationReset =>
    have hends (t : State) : t.KeepsLost t.endLineRequest := by
      unfold State.endLineRequest
      split
      · split
        · exact refl t
        · exact ((refl t).answer .line .abandoned 0 []).trans (modPort .line (Port.latch .requestDone) (fun _ => rfl) _)
      · exact refl t
    have hmark (t : State) : t.KeepsLost t.markUnverified := ⟨rfl, fun r => by cases r <;> rfl⟩
    have hblocks : s.KeepsLost s.resetBlocks := of_eq rfl rfl rfl
    exact (((hblocks.trans (hends _)).trans (latchBoth .reset _)).trans (hmark _)).answer p _ _ _
  case loadUnit =>
    have hload (t : State) (n : NestId) (f : Nest → Nest) (h : s.KeepsLost t) : s.KeepsLost (t.modNest n f) :=
      h.trans (of_same (SameRequests.modNest n f t) (by simp))
    unfold takeLoadUnit State.loadNew State.loadRetest State.loadReference
    dsimp only
    repeat' split
    all_goals first
      | exact refused _ _ _
      | exact same (by exact ⟨rfl, rfl, rfl⟩) _ _ _
      | exact (hload _ _ _ (by exact of_eq rfl rfl rfl)).answer p _ _ _
  case releaseNest =>
    unfold takeReleaseNest
    repeat' split
    all_goals first
      | exact refused _ _ _
      | exact (releaseUntested _ s).answer p _ _ _
      | exact (of_same (SameRequests.modNest _ _ s) (by simp)).answer p _ _ _
  case lineEvent =>
    have hedge (f : InputFunction) (v w : Bool) : s.KeepsLost (({ s with lines := s.lines.setVirtual f v } : State).edge f w) :=
      (of_eq rfl rfl rfl : s.KeepsLost { s with lines := s.lines.setVirtual f v }).trans (edge f w _)
    unfold takeLineEvent
    dsimp only
    repeat' split
    all_goals first
      | exact refused _ _ _
      | exact (lineStart _ s).answer p _ _ _
      | exact same (by exact ⟨rfl, rfl, rfl⟩) _ _ _
      | exact (hedge _ _ _).answer p _ _ _
  case startNest =>
    unfold takeStartNest
    repeat' split
    all_goals first | exact refused _ _ _ | exact (acceptStart _ s).answer p _ _ _
  case abortNest =>
    unfold takeAbortNest
    repeat' split
    all_goals first | exact refused _ _ _ | exact ((abortAll _ s).trans (settleActivation _)).answer p _ _ _
  case reprint =>
    unfold takeReprint
    dsimp only
    repeat' split
    all_goals first
      | exact refused _ _ _
      | exact (of_same (SameRequests.enqueue _ s) (by simp)).answer p _ _ _
  case abandon => exact refl s

/-! #### The port -/

theorem takeRunning (p : PortId) (s : State) : s.KeepsLost (s.takeRunning p) := by
  unfold State.takeRunning
  split
  · split
    · exact refl s
    · exact (modPort p Port.markTaken (fun _ => rfl) s).trans (takeOf _ p _ _)
  · exact refl s

theorem startRequest (p : PortId) (code : Byte) (t : Taking) (s : State) : s.KeepsLost (s.startRequest p code t) := by
  have hstart : s.KeepsLost (s.modPort p (Port.start code)) := modPort p (Port.start code) (fun _ => rfl) s
  unfold State.startRequest State.judgeCode
  split
  · exact modPort p (Port.latch .collision) (fun _ => rfl) s
  · split
    · exact hstart.answer p _ _ _
    next r _ =>
      split
      · have hcarry := hstart.trans (modPort p (Port.carry r) (fun _ => rfl) _)
        cases t with
        | atOnce => exact hcarry.trans (takeRunning p _)
        | later => exact hcarry
      · exact hstart.answer p _ _ _

theorem abandonRequest (p : PortId) (s : State) : s.KeepsLost (s.abandonRequest p) := by
  have hidle : s.KeepsLost (s.modPort p fun q => { q with slot := .idle }) := modPort p _ (by intro; rfl) s
  have hend (t : State) (body : List Byte) (slot : SlotState) (h : s.KeepsLost t) : s.KeepsLost (t.endAbandoned p body slot) :=
    h.trans (endAbandoned p body slot t)
  refine abandonRequest_kept (P := s.KeepsLost) (fun _ => hidle) (fun _ => hend s _ _ (refl s)) (fun _ => ?_) (fun _ => ?_) (fun _ => ?_)
  · exact hend _ _ _ (of_eq rfl rfl rfl)
  · unfold State.abandonCheck
    split
    · refine KeepsLost.trans ?_ (settleActivation _)
      refine KeepsLost.trans (hend _ _ _ ?_) (of_eq (State.grantHead_station _) (State.grantHead_line _) (State.grantHead_hold _))
      exact of_eq (by simp) (by simp) (by simp)
    · exact hend _ _ _ (of_eq rfl rfl rfl)
  · have hmarker (f : Marker → Marker) : s.KeepsLost (s.modMarker f) := of_eq rfl rfl rfl
    unfold State.abandonMarker
    dsimp only
    refine hend _ _ _ (KeepsLost.trans ?_ (startBus _))
    split
    · exact (hmarker _).trans (of_same (SameRequests.rematchHead _) (by simp))
    · exact hmarker _

theorem writeCode (p : PortId) (code : Byte) (t : Taking) (s : State) : s.KeepsLost (s.writeCode p code t) := by
  unfold State.writeCode
  split
  · exact abandonRequest p s
  · exact startRequest p code t s

theorem writeRequest (p : PortId) (params : List Byte) (code : Byte) (t : Taking) (s : State) :
    s.KeepsLost (s.writeRequest p params code t) :=
  (modPort p (Port.written p params) (fun q => by cases p <;> rfl) s).trans (writeCode p code t _)

theorem writeWindow (p : PortId) (start : Nat) (data : List Byte) (s : State) : s.KeepsLost (s.writeWindow p start data) := by
  have hput : s.KeepsLost (s.modPort p fun q => (q.putParams (start - 0x40) (paramBytes start data)).readFrom p start data.length) :=
    modPort p _ (fun q => by cases p <;> rfl) s
  unfold State.writeWindow
  dsimp only
  split
  · exact hput.trans (writeCode p _ _ _)
  · exact hput

end State.KeepsLost
end Sys2Proof.Machine
end

section
/-! PROOF. Resets and reads: what a release gives, what a hold stops, the transactions that a hold interrupts (R186 to R188), and the
window that a write fills and a read shows (R167 to R169). -/

namespace Sys2Proof.Machine
open Sys2Proof

/-! ### The release (R187) -/

theorem withPins_reset (v : Vector Line 8) :
    Lines.reset.withPins v = { Lines.reset with line := v.map fun x => { Line.reset with pin := x.pin } } := by
  have hline : (Vector.replicate 8 Line.reset).zipWith (fun x y => { x with pin := y.pin }) v =
      v.map fun x => { Line.reset with pin := x.pin } := by
    ext i hi
    all_goals simp
  simp only [Lines.withPins, Lines.reset, hline]

/-- The state after the release of the last cause, written out (R187; assumption logs 10, 38 and 42). -/
theorem released_eq (a : BitVec 2) (b : ReleasePins) (s : State) :
    s.released a b = { State.powerOn ⟨a, b.ambient⟩ with
      station := { Port.reset with lost := b.stationInside }
      line := { Port.reset with lost := b.lineInside }
      lines := { Lines.reset with line := s.lines.line.map (fun x => { Line.reset with pin := x.pin }) }
      capture := { Capture.reset with attempt := s.capture.attempt }
      freeCount := s.freeCount, pending := s.pending } := by
  have h := withPins_reset s.lines.line
  simp only [State.released, State.powerOn, h]

theorem exec_resetRelease {c : HoldCause} {s : State} (hc : s.hold.has c = true) (a : BitVec 2) (b : ReleasePins) :
    exec (.resetRelease c a b) s = .next
      (if ({ s with hold := s.hold.set c false } : State).held then { s with hold := s.hold.set c false }
       else ({ s with hold := s.hold.set c false } : State).released a b) := by
  change execResetRelease c a b s = _
  rw [execResetRelease, if_pos hc]

theorem held_eq_false_iff (s : State) : s.held = false ↔ s.hold = ⟨false, false⟩ := by
  rcases h : s.hold with ⟨_ | _, _ | _⟩ <;> simp [State.held, h]

/-- A port that masks every event asserts no attention (R177). -/
theorem attention_masked {p : PortId} {s : State} (h : (s.port p).mask = 0xFFFFFFFF) : s.attention p = false := by
  simp [State.attention, h]

/-- Settles O2: the whole state a release gives, of which the clauses are fields. -/
theorem releaseGivesPowerOnValues : Obligations.ReleaseGivesPowerOnValues := by
  refine ⟨fun c a b s hc hlast => ?_, fun c a b s hc hlast => ?_⟩
  · have hfree : ({ s with hold := s.hold.set c false } : State).held = false := (held_eq_false_iff _).mpr hlast
    rw [exec_resetRelease hc, if_neg (by simp [hfree]), released_eq]
    refine ⟨_, rfl, rfl, rfl, rfl, ?_, rfl, rfl, rfl, rfl, rfl, rfl, ?_, ?_, rfl, rfl, rfl, rfl, rfl, rfl, rfl, rfl, rfl,
      rfl, rfl, rfl, rfl, rfl, rfl, fun n => rfl, rfl⟩
    · intro p
      cases p <;> exact ⟨rfl, rfl, rfl, attention_masked rfl, rfl, rfl, rfl, rfl, rfl⟩
    · intro i
      simp [Line.reset]
    · intro n
      cases n <;> exact ⟨rfl, rfl, rfl⟩
  · rw [exec_resetRelease hc, if_pos]
    rw [← Bool.not_eq_false, held_eq_false_iff]
    exact hlast

/-! ### The hold (R186) -/

theorem exec_resetHold (c : HoldCause) (s : State) : exec (.resetHold c) s = .next
    (if s.held then { s with hold := s.hold.set c true } else ({ s with hold := s.hold.set c true } : State).stopWork) := rfl

/-- A part that a cause holds is held. -/
theorem held_set (c : HoldCause) (h : Hold) : ((h.set c true).supply || (h.set c true).pin) = true := by
  cases c <;> simp [Hold.set]

/-- While the part is held, no command but a hold, a release and a change of a pin level acts (R186). -/
theorem exec_held {i : Instr} {s : State} (hs : s.held = true) (hhold : ∀ c, i ≠ .resetHold c)
    (hrelease : ∀ c a b, i ≠ .resetRelease c a b) (hpin : ∀ l v, i ≠ .linePinChange l v) : exec i s = .next s := by
  cases i
  case resetHold c => exact absurd rfl (hhold c)
  case resetRelease c a b => exact absurd rfl (hrelease c a b)
  case linePinChange l v => exact absurd rfl (hpin l v)
  all_goals exact congrArg Host.Outcome.next (if_pos hs)

/-- The writes of a port: a request, a code that names none, and other bytes all act through one transaction (R188). -/
theorem exec_write {p : PortId} {i : Instr}
    (hi : (∃ r params t, i = commandOf r p params t) ∨ (∃ code params, i = .unknownRequest p code params) ∨
      (∃ access start data fate, i = .parameterAreaWrite p access start data fate)) :
    ∃ f : State → State, (∀ s : State, s.KeepsLost (f s)) ∧ ∀ s, exec i s = unlessHeld (State.transact p f) s := by
  rcases hi with ⟨r, params, t, rfl⟩ | ⟨code, params, rfl⟩ | ⟨access, start, data, fate, rfl⟩
  · exact ⟨_, State.KeepsLost.writeRequest p params _ t, exec_commandOf r p params t⟩
  · exact ⟨_, State.KeepsLost.writeRequest p params code .later, exec_unknownRequest p code params⟩
  · refine ⟨fun s => if writeApplies p access fate then s.writeWindow p start.toNat data else s, fun s => ?_, fun s => rfl⟩
    dsimp only
    split
    · exact State.KeepsLost.writeWindow p _ data s
    · exact State.KeepsLost.refl s

theorem attends_endLost {p : PortId} {s t : State} (hheld : s.held = false) (h : (s.modPort p Port.endLost).KeepsLost t) :
    t.attends p = true := by
  have hlost : (t.port p).lost = false := by rw [h.2 p]; cases p <;> rfl
  have hhold : t.held = false := by rw [held_eq_false_iff, h.1, State.modPort_hold, ← held_eq_false_iff, hheld]
  simp [State.attends, hlost, hhold]

/-- A write or a read of a live part is what it is once an interrupted transaction is over, and the port attends after it (R188). -/
theorem exec_write_endLost {p : PortId} {i : Instr} {s : State} (hs : s.held = false)
    (hi : (∃ r params t, i = commandOf r p params t) ∨ (∃ code params, i = .unknownRequest p code params) ∨
      (∃ access start data fate, i = .parameterAreaWrite p access start data fate)) :
    exec i s = exec i (s.modPort p Port.endLost) ∧ ∀ t, exec i s = .next t → t.attends p = true := by
  obtain ⟨f, hf, hexec⟩ := exec_write hi
  have hs' : (s.modPort p Port.endLost).held = false := by simpa using hs
  rw [hexec, hexec, unlessHeld_live hs, unlessHeld_live hs']
  refine ⟨by rw [transact_after], fun t ht => ?_⟩
  cases ht
  exact attends_endLost hs (hf _)

/-- The place where a read of the Line Port begins (R169). -/
def State.readStart (offset : Option Byte) (s : State) : Nat := (offset.map (·.toNat)).getD s.line.readOffset

theorem lineRead_live {s : State} (hs : s.held = false) (offset : Option Byte) (n : Nat) :
    s.lineRead offset n = some (s.windowBytes .line (s.readStart offset) n,
      s.modPort .line fun q => (q.readFrom .line (s.readStart offset) n).endLost) := by
  unfold State.lineRead
  rw [if_neg (by simp [hs])]
  cases offset <;> rfl

/-- Settles O3: the fields of `stopWork`; the commands that reach no held part; and the one transaction that every write makes. -/
theorem holdStopsThePart : Obligations.HoldStopsThePart := by
  refine ⟨fun c s hs => ?_, fun c s hs => ?_, fun i s hs h1 h2 h3 => exec_held hs h1 h2 h3, fun p access start data s hs => ?_,
    fun p i s hs hi => exec_write_endLost hs hi, fun p s h => by simp [State.attends, h], fun access o start n s hs => ?_⟩
  · have hheld : ({ s with hold := s.hold.set c true } : State).stopWork.held = true := held_set c s.hold
    rw [exec_resetHold, if_neg (by simp [hs])]
    refine ⟨_, rfl, hheld, fun p => by simp [State.attention, hheld], fun i => by simp [State.lineDrive, hheld], rfl, rfl,
      by simp [State.amplifier, hheld], by simp [State.loopback, hheld], rfl, rfl, fun a o n => by simp [State.stationRead, hheld],
      fun o n => by simp [State.lineRead, hheld], fun p => by simp [State.attends, hheld], fun i => by simp [State.stopWork], rfl,
      ?_, rfl, rfl, rfl, rfl, rfl, rfl, rfl, rfl⟩
    change (if s.loader.state = .checking then LoaderState.receiving else s.loader.state) ≠ .checking
    split
    · decide
    · assumption
  · rw [exec_resetHold, if_pos hs]
  · change unlessHeld (State.hostWrite p access start.toNat data .interrupted) s = _
    rw [unlessHeld_live hs]
    rfl
  · refine ⟨⟨_, _, by rw [State.stationRead, if_neg (by simp [hs])], ?_⟩, ⟨_, _, lineRead_live hs o n, ?_⟩⟩
    · exact attends_endLost hs (State.KeepsLost.refl _)
    · simp [State.attends, State.port, State.modPort, Port.endLost]
      exact hs

/-! ### Writes of the parameter area (R167 to R169) -/

theorem exec_parameterAreaWrite {p : PortId} {s : State} (hs : s.held = false) (access start : Byte) (data : List Byte)
    (fate : WriteEnd) : exec (.parameterAreaWrite p access start data fate) s = .next (s.hostWrite p access start.toNat data fate) :=
  unlessHeld_live hs

theorem exec_parameterAreaWrite_none {p : PortId} {s : State} (hs : (s.port p).lost = false) {access : Byte} {fate : WriteEnd}
    (h : writeApplies p access fate = false) (start : Byte) (data : List Byte) :
    exec (.parameterAreaWrite p access start data fate) s = .next s := by
  have hwrite : s.hostWrite p access start.toNat data fate = s := by
    rw [State.hostWrite, transact_whole hs, h]
    rfl
  change unlessHeld (State.hostWrite p access start.toNat data fate) s = _
  rw [unlessHeld, hwrite, ite_self]

/-- A write that is applied and begins in the parameter area fills it, and starts no request (R167). -/
theorem exec_parameterAreaWrite_params {p : PortId} {s : State} (hs : s.listens p) {access start : Byte} (data : List Byte)
    (happ : writeApplies p access .whole = true) (hstart : 0x40 ≤ start.toNat) :
    exec (.parameterAreaWrite p access start data .whole) s =
      .next (s.modPort p fun q => (q.putParams (start.toNat - 0x40) data).readFrom p start.toNat data.length) := by
  have hbytes : paramBytes start.toNat data = data := by
    rw [paramBytes, show 0x40 - start.toNat = 0 by omega, List.drop_zero]
  have hcode : codeByte start.toNat data = none := if_neg (by omega)
  rw [exec_parameterAreaWrite hs.1, State.hostWrite, transact_whole hs.2, if_pos happ, State.writeWindow, hbytes, hcode]

/-! ### Reads of the window (R167, R168, R180) -/

theorem statusByte_toNat (p : PortId) (s : State) : (s.statusByte p).toNat =
    (match (s.port p).slot with | .idle => 0 | .running => 1 | .done => 2 | .refused => 3) +
      4 * (s.attention p).toNat + 8 * (if (s.port p).events = 0 then 0 else 1) := by
  rw [State.statusByte]
  by_cases he : (s.port p).events = 0#16 <;> cases s.attention p <;> cases (s.port p).slot <;> simp [he, slotCode]

theorem windowBytes_getElem? {p : PortId} {start n k : Nat} {s : State} {b : Byte}
    (h : (s.windowBytes p start n)[k]? = some b) : b = s.windowByte p (start + k) := by
  rw [State.windowBytes, List.getElem?_map] at h
  obtain ⟨j, hj, rfl⟩ := Option.map_eq_some_iff.mp h
  rw [List.getElem?_eq_some_iff] at hj
  obtain ⟨hlt, rfl⟩ := hj
  simp

/-- The bytes that a read gives are those the window shows. -/
theorem windowBytes_shows (p : PortId) (start n : Nat) (s : State) : s.Shows p start (s.windowBytes p start n) where
  status b h0 hb := by
    subst h0
    obtain rfl := windowBytes_getElem? hb
    exact statusByte_toNat p s
  code k b hb hk := by
    obtain rfl := windowBytes_getElem? hb
    simp [State.windowByte, hk]
  sequence k b hb hk := by
    obtain rfl := windowBytes_getElem? hb
    simp [State.windowByte, hk]
  params k b j hb hk := by
    obtain rfl := windowBytes_getElem? hb
    have hj := j.isLt
    have h1 : 0x40 + j.val ≠ 1 ∧ 0x40 + j.val ≠ 2 ∧ 0x40 + j.val < 0x80 := by omega
    simp [State.windowByte, hk, h1]
  reply k b j hb hk := by
    obtain rfl := windowBytes_getElem? hb
    have hj := j.isLt
    have h1 : 0x80 + j.val ≠ 1 ∧ 0x80 + j.val ≠ 2 ∧ ¬ 0x80 + j.val < 0x80 ∧ 0x80 + j.val < 0xC0 := by omega
    simp [State.windowByte, hk, h1]
  others k b hb hk := by
    obtain rfl := windowBytes_getElem? hb
    unfold State.windowByte
    dsimp only
    split_ifs <;> first | omega | rfl

@[simp] theorem windowBytes_length (p : PortId) (start n : Nat) (s : State) : (s.windowBytes p start n).length = n := by
  simp [State.windowBytes]

/-- Settles O7: the window after a write in the parameter area, and the bytes of a read. -/
theorem parameterAreaWriteFillsTheArea : Obligations.ParameterAreaWriteFillsTheArea := by
  refine ⟨fun p access start data s hs happ hlo hhi => ?_, fun p access start data s hs => ?_, fun access start data k s hs hne => ?_,
    fun r t params s u hs hlen hu => ?_, fun start n s hs => ?_, fun access start n s hs hne => ?_, fun offset start n s hs hstart => ?_⟩
  · refine ⟨_, exec_parameterAreaWrite_params hs data happ hlo, fun j hj => ?_, ?_, ?_⟩
    · have hparams : ((s.modPort p fun q => (q.putParams (start.toNat - 0x40) data).readFrom p start.toNat data.length).port p).params =
          writeBytes (s.port p).params (start.toNat - 0x40) data := by cases p <;> rfl
      simp only [hparams, writeBytes_get _ _ _ _ hj]
    · cases p
      · rfl
      · change min 256 (start.toNat + data.length) = start.toNat + data.length
        omega
    · cases p <;> rfl
  · exact exec_parameterAreaWrite_none hs rfl start data
  · have happ : writeApplies .station access k = false := by
      rw [writeApplies, decide_eq_false hne, Bool.and_false]
    exact exec_parameterAreaWrite_none (p := .station) hs happ start data
  · rw [exec_parameterAreaWrite_params hs params rfl (by decide)] at hu
    cases hu
    have hlost (f : Port → Port) (hf : ∀ q, (f q).lost = q.lost) : ((s.modPort .station f).port .station).lost = false :=
      (hf s.station).trans hs.2
    rw [exec_commandOf, exec_commandOf, unlessHeld_live hs.1, unlessHeld_live (by simpa using hs.1), State.hostRequest,
      State.hostRequest, transact_whole hs.2, transact_whole (hlost _ (by intro; rfl))]
    rfl
  · exact ⟨_, by rw [State.stationRead, if_neg (by simp [hs]), if_pos rfl]; rfl, windowBytes_length .station start n s,
      windowBytes_shows .station start n s⟩
  · rw [State.stationRead, if_neg (by simp [hs]), if_neg hne]
    rfl
  · obtain rfl : start = s.readStart offset := by rw [hstart]; cases offset <;> rfl
    exact ⟨_, lineRead_live hs offset n, windowBytes_length .line _ n s, windowBytes_shows .line _ n s⟩

/-! ### The state after reset -/

theorem powerOn_nest (x : Straps) (n : NestId) : (State.powerOn x).nest n = Nest.reset := by cases n <;> rfl

theorem powerOn_half (x : Straps) (h : HalfId) : (State.powerOn x).half h = Half.reset := by cases h <;> rfl

theorem powerOn_safe (x : Straps) : (State.powerOn x).Safe where
  lists := ⟨Nat.zero_le _, Nat.zero_le _, Nat.zero_le _, Nat.zero_le _⟩
  labels := rfl
  verification := ⟨le_rfl, fun _ => ⟨rfl, rfl⟩⟩
  chain :=
    { measuring := fun n => by rw [powerOn_nest]; simp [Nest.reset, State.powerOn, Chain.reset]
      queued := fun n => by rw [powerOn_nest]; rfl
      free := fun _ => rfl
      generator := fun n h => by cases h
      waits := fun n => by rw [powerOn_nest]; rfl
      check := rfl
      checking := fun h => by cases h
      requests := fun p r h => by cases p <;> cases h
      closing := fun h => by cases h }
  records :=
    { skipped := fun n h => by rw [powerOn_nest] at h; cases h
      unruled := fun n _ => by rw [powerOn_nest]; rfl
      pass := fun n h => by rw [powerOn_nest] at h; cases h }
  engine :=
    { idle := fun _ => rfl
      busy := fun h hh => by cases hh
      behind := fun h hh => by cases hh
      once := List.nodup_nil
      holds := fun h => by rw [powerOn_half]; simp [Half.reset, State.powerOn, Engine.reset] }
  units :=
    { issued := rfl
      kinds := fun n h => by rw [powerOn_nest] at h; cases h
      serial := fun n h => by rw [powerOn_nest] at h; cases h
      held := fun n h => by rw [powerOn_nest] at h; cases h
      list := List.nodup_nil
      apart := fun n h => by rw [powerOn_nest] at h; cases h
      nests := fun h => absurd rfl h
      below := fun c h => by cases h }

/-- Settles O56: every list is empty and every claimant absent. -/
theorem resetIsSafe : Obligations.ResetIsSafe := ⟨powerOn_safe _, powerOn_safe⟩

end Sys2Proof.Machine
end

section
/-! PROOF. The plan requests (R9 to R22) and the end of the checks (R16): each is its block's operation on the state in which the
request has begun. -/

namespace Sys2Proof.Machine
open Sys2Proof

/-! ### Requests taken at once -/

/-- A request taken at once gives what its block's operation gives (R170). -/
theorem exec_taken {r : Request} (hr : r ≠ .abandon) {p : PortId} (hp : onPort p r = true) {params : List Byte} {s u : State}
    (h : s.ready p) (hu : takeOf r p (writeBytes (s.port p).params 0 params) (s.begun p r params true) = u) :
    exec (commandOf r p params .atOnce) s = .next u := by
  rw [exec_atOnce r hr p hp params s h, hu]

theorem begun_modLoader (p : PortId) (r : Request) (params : List Byte) (b : Bool) (f : Loader → Loader) (s : State) :
    (s.begun p r params b).modLoader f = (s.modLoader f).begun p r params b := by
  cases p <;> rfl

@[simp] theorem begun_loader (p : PortId) (r : Request) (params : List Byte) (b : Bool) (s : State) :
    (s.begun p r params b).loader = s.loader := by
  cases p <;> rfl

@[simp] theorem begun_planInUse (p : PortId) (r : Request) (params : List Byte) (b : Bool) (s : State) :
    (s.begun p r params b).planInUse = s.planInUse := by
  cases p <;> rfl

theorem begun_planReply (r : Request) (p : PortId) (params : List Byte) (b : Bool) (st : Status) (sub : Nat) (more : List Byte)
    (s : State) : (s.begun p r params b).planReply p st sub more = s.replied p r params st sub (loaderBody s.loader ++ more) := by
  rw [State.planReply, begun_answer, begun_loader]

theorem begun_planState (r : Request) (p : PortId) (params : List Byte) (b : Bool) (s : State) :
    (s.begun p r params b).planState p = s.replied p r params .state (loaderStateCode s.loader.state) (loaderBody s.loader) := by
  rw [State.planState, begun_planReply, begun_loader, List.append_nil]

/-! ### Fields of the parameters (R167, R180) -/

theorem u16At_writeBytes (v : Vector Byte 64) (bs : List Byte) (i : Nat) (hi : i + 2 ≤ bs.length) (h : i + 2 ≤ 64) :
    u16At (writeBytes v 0 bs).toList i = u16At bs i := by
  simp (disch := omega) only [u16At, u8At_writeBytes]

theorem u8At_append_right (l m : List Byte) (i : Nat) : u8At (l ++ m) (l.length + i) = u8At m i := by
  simp [u8At, List.getD_eq_getElem?_getD, List.getElem?_append_right]

theorem u8At_append_left (l m : List Byte) {i : Nat} (h : i < l.length) : u8At (l ++ m) i = u8At l i := by
  simp [u8At, List.getD_eq_getElem?_getD, List.getElem?_append_left h]

theorem u8At_byte {n : Nat} (h : n < 256) : u8At (byte n) 0 = n := by
  rw [byte, u8At_le n Nat.zero_lt_one]
  omega

theorem u16At_le {n : Nat} (h : n < 65536) : u16At (le 2 n) 0 = n := by
  simp (disch := omega) only [u16At, u8At_le]
  omega

@[simp] theorem byte_length (n : Nat) : (byte n).length = 1 := le_length 1 n

/-! ### PLAN OPEN (R10) -/

/-- PLAN OPEN finds the size and the timeout it was written with. -/
theorem planOpen_params (v : Vector Byte 64) {size timeout : Nat} (hsize : size < 65536) (htimeout : timeout < 256) :
    u16At (writeBytes v 0 (le 2 size ++ byte timeout)).toList 0 = size ∧
      u8At (writeBytes v 0 (le 2 size ++ byte timeout)).toList 2 = timeout := by
  have hlen : (le 2 size ++ byte timeout).length = 3 := by simp
  constructor
  · rw [u16At_writeBytes _ _ _ (by omega) (by omega)]
    simp (disch := simp) only [u16At, u8At_append_left]
    exact u16At_le hsize
  · rw [u8At_writeBytes _ _ _ (by omega) (by omega)]
    exact (u8At_append_right (le 2 size) (byte timeout) 0).trans (u8At_byte htimeout)

/-- Settles O11: the branches of `takePlanOpen`, on the size and the timeout as written. -/
theorem planOpenOpensATransfer : Obligations.PlanOpenOpensATransfer := by
  refine ⟨fun size timeout s hs h1 h2 h3 h4 h5 hst => ?_, fun size timeout s hs hsize ht hbad => ?_,
    fun size timeout s hs h1 h2 h3 ht hbad => ?_, fun size timeout s hs h1 h2 h3 h4 h5 hst => ?_⟩
  all_goals
    refine exec_taken (r := .planOpen) (by decide) rfl hs ?_
    obtain ⟨hq1, hq2⟩ := planOpen_params (s.port .station).params (size := size) (timeout := timeout) (by omega) (by omega)
    simp only [takeOf, takePlanOpen, hq1, hq2]
  · rw [if_neg (by omega), if_neg (by omega)]
    rcases hst with h | h | h
    all_goals
      simp only [begun_loader, h, begun_modLoader, begun_planReply, List.append_nil]
      rfl
  · rw [if_pos (by omega), begun_planReply, List.append_nil]
  · rw [if_neg (by omega), if_pos (by omega), begun_planReply, List.append_nil]
  · rw [if_neg (by omega), if_neg (by omega)]
    rcases hst with h | h <;> simp only [begun_loader, h, begun_planState]

/-! ### PLAN DATA (R11) -/

/-- PLAN DATA finds the count it was written with. -/
theorem planData_count (v : Vector Byte 64) {count : Nat} (h : count < 256) (bs : List Byte) :
    u8At (writeBytes v 0 (byte count ++ bs)).toList 0 = count := by
  rw [u8At_writeBytes _ _ _ (by simp) (by omega), u8At_append_left _ _ (by simp), u8At_byte h]

/-- PLAN DATA finds the bytes it was written with. -/
theorem planData_bytes (v : Vector Byte 64) (bs : List Byte) (h : bs.length ≤ 56) :
    ((writeBytes v 0 (byte bs.length ++ bs)).toList.drop 1).take bs.length = bs := by
  apply List.ext_getElem
  · simp; omega
  · intro k hk hk'
    rw [List.getElem_take, List.getElem_drop, Vector.getElem_toList, writeBytes_get _ _ _ _ (by omega), if_pos (by simp; omega)]
    simp [byte, le, Nat.add_comm 1 k, hk']

/-- Settles O12: the branches of `takePlanData`, on the count and the bytes as written. -/
theorem planDataStoresWhatFits : Obligations.PlanDataStoresWhatFits := by
  refine ⟨fun bs s hs h1 h2 hst => ⟨_, exec_taken (r := .planData) (by decide) rfl hs rfl, ?_⟩, fun bs s hs h1 h2 hst => ?_,
    fun count bs s hs hlt hbad => ?_⟩
  · have hrange : ¬(bs.length < 1 ∨ 56 < bs.length) := by omega
    have hmin : min (s.loader.declared - s.loader.writePtr) bs.length = min bs.length (s.loader.declared - s.loader.writePtr) :=
      Nat.min_comm _ _
    have hlt : (min bs.length (s.loader.declared - s.loader.writePtr) < bs.length) ↔
        s.loader.declared - s.loader.writePtr < bs.length := by omega
    simp only [takeOf, takePlanData, planData_count _ (show bs.length < 256 by omega), if_neg hrange, begun_loader, hst,
      planData_bytes _ bs h2, begun_modLoader, begun_planReply]
    constructor
    · simp only [State.replied, State.modPort_loader, State.modLoader, Loader.store, List.length_take, hmin, decide_eq_decide.mpr hlt]
      rw [← hst]
    · simp only [State.replied, State.modPort_loader, State.modLoader, Loader.store, List.length_take, hmin, Nat.add_sub_cancel_left]
  · have hrange : ¬(bs.length < 1 ∨ 56 < bs.length) := by omega
    refine exec_taken (r := .planData) (by decide) rfl hs ?_
    simp only [takeOf, takePlanData, planData_count _ (show bs.length < 256 by omega), if_neg hrange, begun_loader,
      ← begun_planState .planData .station (byte bs.length ++ bs) true]
    cases h : s.loader.state <;> first | exact absurd h hst | rfl
  · refine exec_taken (r := .planData) (by decide) rfl hs ?_
    simp only [takeOf, takePlanData, planData_count _ hlt, if_pos hbad, begun_planReply, List.append_nil]

/-! ### PLAN CLOSE, the burst timer (R12, R13) -/

/-- Settles O13: the branches of `takePlanClose` and of the timer's expiry. -/
theorem closeAndBurstExpiryEndATransfer : Obligations.CloseAndBurstExpiryEndATransfer := by
  refine ⟨fun s hs hst => exec_taken (r := .planClose) (by decide) rfl hs ?_, fun s hs hst => exec_taken (r := .planClose) (by decide) rfl hs ?_,
    fun s hs hst hrun => ?_, fun s hst => ?_⟩
  · simp only [takeOf, takePlanClose, begun_loader, hst]
    rfl
  · simp only [takeOf, takePlanClose, begun_loader, ← begun_planState .planClose .station [] true]
    cases h : s.loader.state <;> first | exact absurd h hst | rfl
  · refine (unlessHeld_live hs).trans ?_
    rw [if_pos ⟨hst, hrun⟩]
    rfl
  · have hidle {a : State} : (if s.loader.state = .receiving ∧ s.loader.burstRunning = true then a else s) = s :=
      if_neg fun h => hst h.1
    change unlessHeld _ s = _
    rw [unlessHeld, hidle, ite_self]

/-! ### PLAN ACTIVATE and PLAN REVOKE (R18, R22) -/

/-- Settles O16: the branches of `takePlanActivate` that do not activate. -/
theorem planActivateWaitsWhileInUse : Obligations.PlanActivateWaitsWhileInUse := by
  refine ⟨fun s hs hst huse => exec_taken (r := .planActivate) (by decide) rfl hs ?_,
    fun s hs hst => exec_taken (r := .planActivate) (by decide) rfl hs ?_⟩
  · simp only [takeOf, takePlanActivate, begun_loader, hst, begun_planInUse, huse, if_true, begun_modLoader, begun_planReply]
    rfl
  · simp only [takeOf, takePlanActivate, begun_loader, ← begun_planState .planActivate .station [] true]
    cases h : s.loader.state <;> first | exact absurd h hst | rfl

/-- Settles O18: the branches of `takePlanRevoke`. -/
theorem planRevokeDiscardsTheStagedPlan : Obligations.PlanRevokeDiscardsTheStagedPlan := by
  refine ⟨fun s hs hst => ⟨_, exec_taken (r := .planRevoke) (by decide) rfl hs rfl, ?_⟩,
    fun s hs hst => exec_taken (r := .planRevoke) (by decide) rfl hs ?_⟩
  · rcases hst with h | h
    all_goals
      simp only [takeOf, takePlanRevoke, begun_loader, h, begun_modLoader, begun_planReply, List.append_nil]
      exact ⟨rfl, rfl⟩
  · rcases hst with h | h <;> simp only [takeOf, takePlanRevoke, begun_loader, h, begun_planState]

end Sys2Proof.Machine
end

section
/-! PROOF. The checks of PLAN CLOSE (R13 to R16): the directory's first unsound entry, the walk over the sections, and the result. -/

namespace Sys2Proof.Machine
open Sys2Proof

/-! ### The directory (R14) -/

theorem firstUnsound_of_sound {S : Nat → Section} {size d k m : Nat}
    (h : ∀ j, k ≤ j → j < k + m → (S j).sound size d ((List.range j).map S) = true) :
    firstUnsound size d ((List.range k).map S) ((List.range' k m).map S) = none := by
  induction m generalizing k with
  | zero => rfl
  | succ m ih =>
    have hnext := ih (k := k + 1) fun j hj hj' => h j (by omega) (by omega)
    rw [List.range_succ, List.map_append] at hnext
    rw [List.range'_succ, List.map_cons, firstUnsound, if_pos (h k le_rfl (by omega))]
    exact hnext

theorem firstUnsound_of_unsound {S : Nat → Section} {size d k m i : Nat} (hk : k ≤ i) (hi : i < k + m)
    (h : ∀ j, k ≤ j → j < i → (S j).sound size d ((List.range j).map S) = true)
    (hbad : ¬ (S i).sound size d ((List.range i).map S) = true) :
    firstUnsound size d ((List.range k).map S) ((List.range' k m).map S) = some i := by
  induction m generalizing k with
  | zero => omega
  | succ m ih =>
    rw [List.range'_succ, List.map_cons, firstUnsound]
    by_cases e : k = i
    · subst e
      rw [if_neg hbad, List.length_map, List.length_range]
    · have hnext := ih (k := k + 1) (by omega) (by omega) fun j hj hj' => h j (by omega) hj'
      rw [List.range_succ, List.map_append] at hnext
      rw [if_pos (h k le_rfl (by omega))]
      exact hnext

/-- Entries that break no condition of check 5 are found sound by it, in order (R14). -/
theorem sound_of_entriesSound {image : List Byte} {j : Nat} (h : ∀ i, i ≤ j → EntrySound image i) :
    (sectionAt image j).sound image.length (16 + 6 * u16At image 2) ((List.range j).map (sectionAt image)) = true :=
  sound_of_entrySound (h j le_rfl) fun i hi => (h i (by omega)).length

/-- The outcome of check 5 once the count of entries is in range (R14). -/
theorem checkStructure_of_count {image : List Byte} (h1 : 1 ≤ u16At image 2) (h7 : u16At image 2 ≤ 7) :
    checkStructure image =
      match firstUnsound image.length (16 + 6 * u16At image 2) [] ((List.range (u16At image 2)).map (sectionAt image)) with
      | some i => .bad i none
      | none =>
        match [1, 2, 3, 4, 5].find? (fun t => ((List.range (u16At image 2)).map (sectionAt image)).all fun e => e.type ≠ t) with
        | some t => .bad 255 (some t)
        | none => .sound ((List.range (u16At image 2)).map (sectionAt image)) := by
  have hcount : ¬(u16At image 2 = 0 ∨ 7 < u16At image 2) := by omega
  exact if_neg hcount

/-- Type `t` is missing from the directory (R14). -/
theorem missing_iff (image : List Byte) (t : Nat) :
    (((List.range (u16At image 2)).map (sectionAt image)).all fun e => e.type ≠ t) = true ↔
      ∀ i, i < u16At image 2 → (sectionAt image i).type ≠ t := by
  simp

/-- Of the required types, one that is missing while those below it stand is found (R14). -/
theorem find_required {P : Nat → Bool} {t : Nat} (h1 : 1 ≤ t) (h5 : t ≤ 5) (hbefore : ∀ u, 1 ≤ u → u < t → P u = false)
    (ht : P t = true) : [1, 2, 3, 4, 5].find? P = some t := by
  rw [show [1, 2, 3, 4, 5] = List.range' 1 (t - 1) ++ t :: List.range' (t + 1) (5 - t) by interval_cases t <;> rfl,
    List.find?_append, List.find?_eq_none.mpr, Option.none_or, List.find?_cons_of_pos ht]
  intro u hu
  obtain ⟨hlo, hhi⟩ := List.mem_range'_1.mp hu
  simp [hbefore u hlo (by omega)]

/-- A sound directory is found sound (R14). -/
theorem checkStructure_of_sound {image : List Byte} (h : StructureSound image) :
    checkStructure image = .sound ((List.range (u16At image 2)).map (sectionAt image)) := by
  have hfirst := firstUnsound_of_sound (S := sectionAt image) (size := image.length) (d := 16 + 6 * u16At image 2) (k := 0)
    (m := u16At image 2) fun j _ hj => sound_of_entriesSound fun i hi => h.entries i (by omega)
  have hfind : [1, 2, 3, 4, 5].find? (fun t => ((List.range (u16At image 2)).map (sectionAt image)).all fun e => e.type ≠ t) = none := by
    rw [List.find?_eq_none]
    intro t ht hmiss
    obtain ⟨i, hi, htype⟩ := h.present t (by simp at ht; omega) (by simp at ht; omega)
    exact (missing_iff image t).mp hmiss i hi htype
  rw [← List.range_eq_range', List.range_zero, List.map_nil] at hfirst
  rw [checkStructure_of_count h.count.1 h.count.2, hfirst]
  dsimp only
  rw [hfind]

/-- The first entry that breaks a condition is found (R14). -/
theorem checkStructure_of_unsound {image : List Byte} {i : Nat} (h1 : 1 ≤ u16At image 2) (h7 : u16At image 2 ≤ 7)
    (hi : i < u16At image 2) (hbefore : ∀ j, j < i → EntrySound image j) (hbad : ¬ EntrySound image i) :
    checkStructure image = .bad i none := by
  have hfirst := firstUnsound_of_unsound (S := sectionAt image) (size := image.length) (d := 16 + 6 * u16At image 2)
    (Nat.zero_le i) (show i < 0 + u16At image 2 by omega)
    (fun j _ hj => sound_of_entriesSound fun k hk => hbefore k (by omega)) (fun h => hbad (entrySound_of_sound h))
  rw [← List.range_eq_range', List.range_zero, List.map_nil] at hfirst
  rw [checkStructure_of_count h1 h7, hfirst]

/-- The first missing type is found in a directory whose entries are sound (R14). -/
theorem checkStructure_of_missing {image : List Byte} {t : Nat} (h1 : 1 ≤ u16At image 2) (h7 : u16At image 2 ≤ 7)
    (hentries : ∀ i, i < u16At image 2 → EntrySound image i) (ht1 : 1 ≤ t) (ht5 : t ≤ 5)
    (hpresent : ∀ u, 1 ≤ u → u < t → ∃ i, i < u16At image 2 ∧ (sectionAt image i).type = u)
    (hmissing : ∀ i, i < u16At image 2 → (sectionAt image i).type ≠ t) : checkStructure image = .bad 255 (some t) := by
  have hfirst := firstUnsound_of_sound (S := sectionAt image) (size := image.length) (d := 16 + 6 * u16At image 2) (k := 0)
    (m := u16At image 2) fun j _ hj => sound_of_entriesSound fun i hi => hentries i (by omega)
  have hfind := find_required (P := fun t => ((List.range (u16At image 2)).map (sectionAt image)).all fun e => e.type ≠ t) ht1 ht5
    (fun u hu1 hu2 => by
      rw [← Bool.not_eq_true, missing_iff]
      intro h
      obtain ⟨i, hi, htype⟩ := hpresent u hu1 hu2
      exact h i hi htype)
    ((missing_iff image t).mpr hmissing)
  rw [← List.range_eq_range', List.range_zero, List.map_nil] at hfirst
  rw [checkStructure_of_count h1 h7, hfirst]
  dsimp only
  rw [hfind]

/-! ### The walk over the sections (R15) -/

/-- The first `k` sections of a directory have been read into `p`, each kind at most once (R15). -/
structure Parts.ReadTo (image : List Byte) (k : Nat) (p : Parts) : Prop where
  sweep    : ∀ a, a < k → (sectionAt image a).type = 1 →
    p.sweep = some (sweepFields ((sectionAt image a).bytes image), expandFrom 0 0 (sweepFields ((sectionAt image a).bytes image)).segments)
  noSweep  : (∀ a, a < k → (sectionAt image a).type ≠ 1) → p.sweep = none
  limits   : ∀ l, l < k → (sectionAt image l).type = 2 → p.limitsAt = l ∧
    ∃ cs, p.limits = some cs ∧ parseLimits ((sectionAt image l).bytes image) = some cs
  noLimits : (∀ l, l < k → (sectionAt image l).type ≠ 2) → p.limits = none
  bins     : ∀ a, a < k → (sectionAt image a).type = 3 → p.bins.isSome = true
  guard    : ∀ a, a < k → (sectionAt image a).type = 4 → p.guard.isSome = true
  policy   : ∀ a, a < k → (sectionAt image a).type = 5 → p.policy.isSome = true

theorem Parts.readTo_start (image : List Byte) : Parts.start.ReadTo image 0 where
  sweep _ h := absurd h (Nat.not_lt_zero _)
  noSweep _ := rfl
  limits _ h := absurd h (Nat.not_lt_zero _)
  noLimits _ := rfl
  bins _ h := absurd h (Nat.not_lt_zero _)
  guard _ h := absurd h (Nat.not_lt_zero _)
  policy _ h := absurd h (Nat.not_lt_zero _)

namespace Parts.ReadTo
variable {image : List Byte} {k : Nat} {p q : Parts}

/-- One more section read, of a type that no section before it has (R14, R15). -/
theorem read (h : p.ReadTo image k) (hs : EntrySound image k) (hq : p.read image k (sectionAt image k) = some q) :
    q.ReadTo image (k + 1) := by
  have hother {t a : Nat} (hk : (sectionAt image k).type = t) (ha : a < k + 1) (hat : (sectionAt image a).type = t) : a = k := by
    by_contra hne
    exact hs.single a (by omega) (hat.trans hk.symm)
  have hbefore {t a : Nat} (hk : (sectionAt image k).type ≠ t) (ha : a < k + 1) (hat : (sectionAt image a).type = t) : a < k := by
    by_contra hne
    exact hk (by rwa [show a = k by omega] at hat)
  have hnone {t : Nat} (ha : ∀ a, a < k + 1 → (sectionAt image a).type ≠ t) : ∀ a, a < k → (sectionAt image a).type ≠ t :=
    fun a hk => ha a (by omega)
  unfold Parts.read at hq
  dsimp only at hq
  split at hq
  next ht =>
    simp only [Option.bind_eq_bind, Option.bind_eq_some_iff] at hq
    obtain ⟨w, hw, pts, hpts, hq⟩ := hq
    split at hq
    next hfit =>
      cases hq
      obtain ⟨-, rfl, rfl⟩ := (sweep_read _ w pts).mp ⟨hw, hpts, hfit⟩
      exact
        { sweep := fun a ha hat => by obtain rfl := hother ht ha hat; rfl
          noSweep := fun hno => absurd ht (hno k (by omega))
          limits := fun l hl hlt => h.limits l (hbefore (by omega) hl hlt) hlt
          noLimits := fun hno => h.noLimits (hnone hno)
          bins := fun a ha hat => h.bins a (hbefore (by omega) ha hat) hat
          guard := fun a ha hat => h.guard a (hbefore (by omega) ha hat) hat
          policy := fun a ha hat => h.policy a (hbefore (by omega) ha hat) hat }
    · cases hq
  next h1 =>
    have hsweep : ∀ a, a < k + 1 → (sectionAt image a).type = 1 → p.sweep = _ := fun a ha hat => h.sweep a (hbefore h1 ha hat) hat
    split at hq
    next ht =>
      simp only [Option.bind_eq_bind, Option.bind_eq_some_iff, Option.pure_def, Option.some.injEq] at hq
      obtain ⟨cs, hcs, rfl⟩ := hq
      exact
        { sweep := hsweep
          noSweep := fun hno => h.noSweep (hnone hno)
          limits := fun l hl hlt => by obtain rfl := hother ht hl hlt; exact ⟨rfl, cs, rfl, hcs⟩
          noLimits := fun hno => absurd ht (hno k (by omega))
          bins := fun a ha hat => h.bins a (hbefore (by omega) ha hat) hat
          guard := fun a ha hat => h.guard a (hbefore (by omega) ha hat) hat
          policy := fun a ha hat => h.policy a (hbefore (by omega) ha hat) hat }
    next h2 =>
      have hlimits : ∀ l, l < k + 1 → (sectionAt image l).type = 2 → _ := fun l hl hlt => h.limits l (hbefore h2 hl hlt) hlt
      split at hq
      next ht =>
        simp only [Option.bind_eq_bind, Option.bind_eq_some_iff, Option.pure_def, Option.some.injEq] at hq
        obtain ⟨b, -, rfl⟩ := hq
        exact ⟨hsweep, fun hno => h.noSweep (hnone hno), hlimits, fun hno => h.noLimits (hnone hno), fun _ _ _ => rfl,
          fun a ha hat => h.guard a (hbefore (by omega) ha hat) hat, fun a ha hat => h.policy a (hbefore (by omega) ha hat) hat⟩
      next h3 =>
        have hbins : ∀ a, a < k + 1 → (sectionAt image a).type = 3 → _ := fun a ha hat => h.bins a (hbefore h3 ha hat) hat
        split at hq
        next ht =>
          simp only [Option.bind_eq_bind, Option.bind_eq_some_iff, Option.pure_def, Option.some.injEq] at hq
          obtain ⟨g, -, rfl⟩ := hq
          exact ⟨hsweep, fun hno => h.noSweep (hnone hno), hlimits, fun hno => h.noLimits (hnone hno), hbins, fun _ _ _ => rfl,
            fun a ha hat => h.policy a (hbefore (by omega) ha hat) hat⟩
        next h4 =>
          have hguard : ∀ a, a < k + 1 → (sectionAt image a).type = 4 → _ := fun a ha hat => h.guard a (hbefore h4 ha hat) hat
          split at hq
          next ht =>
            simp only [Option.bind_eq_bind, Option.bind_eq_some_iff, Option.pure_def, Option.some.injEq] at hq
            obtain ⟨g, -, rfl⟩ := hq
            exact ⟨hsweep, fun hno => h.noSweep (hnone hno), hlimits, fun hno => h.noLimits (hnone hno), hbins, hguard, fun _ _ _ => rfl⟩
          next h5 =>
            have hpolicy : ∀ a, a < k + 1 → (sectionAt image a).type = 5 → _ :=
              fun a ha hat => h.policy a (hbefore h5 ha hat) hat
            split at hq <;>
              simp only [Option.bind_eq_bind, Option.bind_eq_some_iff, Option.pure_def, Option.some.injEq] at hq <;>
              obtain ⟨g, -, rfl⟩ := hq <;>
              exact ⟨hsweep, fun hno => h.noSweep (hnone hno), hlimits, fun hno => h.noLimits (hnone hno), hbins, hguard, hpolicy⟩

/-- After `k` sections a REL curve stands without a reference point exactly when two of them say so (R4, R15). -/
theorem relWithoutReference_iff (h : p.ReadTo image k) :
    p.relWithoutReference = true ↔ ∃ a l, a < k ∧ l < k ∧ RelAlone image a l := by
  constructor
  · intro hrel
    by_cases hs : ∀ a, a < k → (sectionAt image a).type ≠ 1
    · simp [Parts.relWithoutReference, h.noSweep hs] at hrel
    by_cases hl : ∀ l, l < k → (sectionAt image l).type ≠ 2
    · rw [Parts.relWithoutReference, h.noLimits hl] at hrel
      split at hrel <;> simp_all
    push Not at hs hl
    obtain ⟨a, ha, hat⟩ := hs
    obtain ⟨l, hlk, hlt⟩ := hl
    obtain ⟨-, cs, hcs, hparse⟩ := h.limits l hlk hlt
    simp only [Parts.relWithoutReference, h.sweep a ha hat, hcs, Bool.and_eq_true, decide_eq_true_eq] at hrel
    refine ⟨a, l, ha, hlk, hat, hlt, ?_, (parseLimits_rel hparse).mp (by simpa using hrel.2)⟩
    have href := hrel.1
    by_contra hne
    simp [sweepFields, hne] at href
  · rintro ⟨a, l, ha, hl, hr⟩
    obtain ⟨-, cs, hcs, hparse⟩ := h.limits l hl hr.limits
    have hany := (parseLimits_rel hparse).mpr hr.rel
    simp only [Parts.relWithoutReference, h.sweep a ha hr.sweep, hcs, Bool.and_eq_true, decide_eq_true_eq]
    exact ⟨by simp [sweepFields, hr.absent], by simpa using hany⟩

end Parts.ReadTo

/-- The entries from `k` on with their places, as the walk reads them (R15). -/
def entriesFrom (image : List Byte) (k m : Nat) : List (Section × Nat) := (List.range' k m).map fun i => (sectionAt image i, i)

theorem zipIdx_sections (image : List Byte) (n : Nat) :
    ((List.range n).map (sectionAt image)).zipIdx = entriesFrom image 0 n := by
  apply List.ext_getElem
  · simp [entriesFrom]
  · intro i h1 h2
    simp [entriesFrom]

/-- One section of the walk that meets its own ranges is read (R15). -/
theorem readSections_step {image : List Byte} {k m : Nat} {p : Parts} (h : p.ReadTo image k) (hs : EntrySound image k)
    (hm : SectionMeets image k) : ∃ q : Parts, q.ReadTo image (k + 1) ∧ readSections image (entriesFrom image k (m + 1)) p =
      if q.relWithoutReference then .error q.limitsAt else readSections image (entriesFrom image (k + 1) m) q := by
  obtain ⟨q, hq⟩ := Option.isSome_iff_exists.mp ((Parts.read_isSome image k k p hs.type).mpr hm)
  refine ⟨q, h.read hs hq, ?_⟩
  rw [entriesFrom, List.range'_succ, List.map_cons, readSections, hq]
  rfl

/-- The walk ends at the first section whose content breaks its own conditions (R15). -/
theorem readSections_of_broken {image : List Byte} {k m i : Nat} {p : Parts} (h : p.ReadTo image k)
    (hs : ∀ j, j < k + m → EntrySound image j) (hk : k ≤ i) (hi : i < k + m)
    (hmeets : ∀ j, k ≤ j → j < i → SectionMeets image j) (hbad : ¬ SectionMeets image i)
    (hrel : ∀ a l, a < i → l < i → ¬ RelAlone image a l) : readSections image (entriesFrom image k m) p = .error i := by
  induction m generalizing k p with
  | zero => omega
  | succ m ih =>
    by_cases e : k = i
    · subst e
      have hnone : p.read image k (sectionAt image k) = none := by
        rw [← Option.not_isSome_iff_eq_none, Parts.read_isSome image k k p (hs k (by omega)).type]
        exact hbad
      rw [entriesFrom, List.range'_succ, List.map_cons, readSections, hnone]
    · obtain ⟨q, hq, hread⟩ := readSections_step (m := m) h (hs k (by omega)) (hmeets k le_rfl (by omega))
      have hno : ¬ q.relWithoutReference = true := by
        rw [hq.relWithoutReference_iff]
        rintro ⟨a, l, ha, hl, hr⟩
        exact hrel a l (by omega) (by omega) hr
      rw [hread, if_neg hno]
      exact ih hq (fun j hj => hs j (by omega)) (by omega) (by omega) fun j hj hj' => hmeets j (by omega) hj'

/-- The walk ends at LIMITS once both sections say that a REL curve stands without a reference point (R4, R15). -/
theorem readSections_of_relAlone {image : List Byte} {k m a l : Nat} {p : Parts} (h : p.ReadTo image k)
    (hs : ∀ j, j < k + m → EntrySound image j) (hk : k ≤ a ∨ k ≤ l) (ha : a < k + m) (hl : l < k + m)
    (hmeets : ∀ j, k ≤ j → j ≤ a ∨ j ≤ l → SectionMeets image j) (hrel : RelAlone image a l) :
    readSections image (entriesFrom image k m) p = .error l := by
  induction m generalizing k p with
  | zero => omega
  | succ m ih =>
    obtain ⟨q, hq, hread⟩ := readSections_step (m := m) h (hs k (by omega)) (hmeets k le_rfl (by omega))
    rw [hread]
    by_cases e : a < k + 1 ∧ l < k + 1
    · rw [if_pos (hq.relWithoutReference_iff.mpr ⟨a, l, e.1, e.2, hrel⟩), (hq.limits l e.2 hrel.limits).1]
    · have hno : ¬ q.relWithoutReference = true := by
        rw [hq.relWithoutReference_iff]
        rintro ⟨a', l', ha', hl', hr⟩
        have hsame {x y : Nat} (hx : x < k + (m + 1)) (hy : y < k + (m + 1))
            (hxy : (sectionAt image x).type = (sectionAt image y).type) : x = y := by
          rcases lt_trichotomy x y with hlt | heq | hgt
          · exact absurd hxy ((hs y hy).single x hlt)
          · exact heq
          · exact absurd hxy.symm ((hs x hx).single y hgt)
        obtain rfl := hsame (by omega) ha (hr.sweep.trans hrel.sweep.symm)
        obtain rfl := hsame (by omega) hl (hr.limits.trans hrel.limits.symm)
        exact e ⟨ha', hl'⟩
      rw [if_neg hno]
      exact ih hq (fun j hj => hs j (by omega)) (by omega) (by omega) (by omega) fun j hj => hmeets j (by omega)

/-- The walk over sections that break nothing reads them all (R15). -/
theorem readSections_of_meets {image : List Byte} {k m : Nat} {p : Parts} (h : p.ReadTo image k)
    (hs : ∀ j, j < k + m → EntrySound image j) (hmeets : ∀ j, k ≤ j → j < k + m → SectionMeets image j)
    (hrel : ∀ a l, a < k + m → l < k + m → ¬ RelAlone image a l) :
    ∃ q : Parts, readSections image (entriesFrom image k m) p = .ok q ∧ q.ReadTo image (k + m) := by
  induction m generalizing k p with
  | zero => exact ⟨p, rfl, h⟩
  | succ m ih =>
    obtain ⟨q, hq, hread⟩ := readSections_step (m := m) h (hs k (by omega)) (hmeets k le_rfl (by omega))
    have hno : ¬ q.relWithoutReference = true := by
      rw [hq.relWithoutReference_iff]
      rintro ⟨a, l, ha, hl, hr⟩
      exact hrel a l (by omega) (by omega) hr
    rw [hread, if_neg hno, show k + (m + 1) = k + 1 + m by omega]
    exact ih hq (fun j hj => hs j (by omega)) (fun j hj hj' => hmeets j (by omega) (by omega))
      fun a l ha hl => hrel a l (by omega) (by omega)

/-! ### The six checks (R13) -/

/-- The result of the checks of a whole image is that of checks 5 and 6 (R13). -/
theorem checkImage_whole {image : List Byte} {writePtr declared : Nat} {overrun : Bool} (h : ImageWhole image writePtr declared overrun) :
    checkImage image writePtr declared overrun =
      checkSections image ⟨1, none, none, some (imageCrc image), some (headerCrc image), some (headerId image), none⟩ := by
  obtain ⟨⟨rfl, hsize⟩, rfl, hversion, hcrc⟩ := h
  simp [checkImage, hsize, hversion, hcrc]

theorem checkSections_bad {image : List Byte} {i : Nat} {m : Option Nat} (h : checkStructure image = .bad i m) (c : CheckResult) :
    checkSections image c = { c with status := 5, sectionIdx := some i, missing := m } := by
  rw [checkSections, h]

/-- Check 6 of an image whose directory is sound is the walk over its sections (R15). -/
theorem checkSections_sound {image : List Byte} (h : StructureSound image) (c : CheckResult) :
    checkSections image c = match readSections image (entriesFrom image 0 (u16At image 2)) Parts.start with
      | .error i => { c with status := 6, sectionIdx := some i }
      | .ok parts => { c with status := 0, plan := parts.toPlan (headerId image) } := by
  rw [checkSections, checkStructure_of_sound h]
  dsimp only
  rw [zipIdx_sections] <;> rfl

/-- Every part required stands after the walk, so there is a plan (R2, R14). -/
theorem toPlan_of_readTo {image : List Byte} (h : StructureSound image) {q : Parts} (hq : q.ReadTo image (u16At image 2))
    (id : BitVec 32) : ∃ p, q.toPlan id = some p ∧ p.content.id = id ∧ ∀ a, a < u16At image 2 → (sectionAt image a).type = 1 →
      p.points.length = sweepPointCount ((sectionAt image a).bytes image) := by
  obtain ⟨a1, h1, t1⟩ := h.present 1 (by omega) (by omega)
  obtain ⟨a2, h2, t2⟩ := h.present 2 (by omega) (by omega)
  obtain ⟨a3, h3, t3⟩ := h.present 3 (by omega) (by omega)
  obtain ⟨a4, h4, t4⟩ := h.present 4 (by omega) (by omega)
  obtain ⟨a5, h5, t5⟩ := h.present 5 (by omega) (by omega)
  obtain ⟨-, cs, hcs, -⟩ := hq.limits a2 h2 t2
  obtain ⟨b, hb⟩ := Option.isSome_iff_exists.mp (hq.bins a3 h3 t3)
  obtain ⟨g, hg⟩ := Option.isSome_iff_exists.mp (hq.guard a4 h4 t4)
  obtain ⟨o, ho⟩ := Option.isSome_iff_exists.mp (hq.policy a5 h5 t5)
  refine ⟨_, by simp only [Parts.toPlan, hq.sweep a1 h1 t1, hcs, hb, hg, ho]; rfl, rfl, fun a ha hat => ?_⟩
  have hpts := (hq.sweep a1 h1 t1).symm.trans (hq.sweep a ha hat)
  simp only [Option.some.injEq, Prod.mk.injEq] at hpts
  rw [← sweepPointCount_eq, ← expandFrom_length 0 0]
  exact congrArg List.length hpts.2

/-- No section of the walk leaves more than 128 points (R3). -/
theorem readSections_points {image : List Byte} {l : List (Section × Nat)} {p q : Parts}
    (h : ∀ w pts, p.sweep = some (w, pts) → pts.length ≤ 128) (hq : readSections image l p = .ok q) :
    ∀ w pts, q.sweep = some (w, pts) → pts.length ≤ 128 := by
  induction l generalizing p with
  | nil =>
    cases hq
    exact h
  | cons x l ih =>
    obtain ⟨e, i⟩ := x
    rw [readSections] at hq
    split at hq
    · cases hq
    next r hr =>
      split at hq
      · cases hq
      refine ih ?_ hq
      unfold Parts.read at hr
      dsimp only at hr
      split at hr
      · simp only [Option.bind_eq_bind, Option.bind_eq_some_iff] at hr
        obtain ⟨w, hw, pts, hpts, hr⟩ := hr
        split at hr
        · cases hr
          rintro w' pts' heq
          cases heq
          obtain ⟨hsum, rfl⟩ := (expandSweep_eq_some w pts).mp hpts
          rwa [expandFrom_length]
        · cases hr
      · have hkeep : r.sweep = p.sweep := by
          split_ifs at hr <;> simp only [Option.bind_eq_bind, Option.bind_eq_some_iff, Option.pure_def, Option.some.injEq] at hr <;>
            obtain ⟨_, -, rfl⟩ := hr <;> rfl
        rwa [hkeep]

/-- What a plan that comes out of check 6 is (R3, R13). -/
theorem checkSections_plan {image : List Byte} {c : CheckResult} {p : StagedPlan} (hc : c.plan = none)
    (h : (checkSections image c).plan = some p) :
    (checkSections image c).status = 0 ∧ p.content.id = headerId image ∧ p.points.length ≤ 128 := by
  unfold checkSections at h ⊢
  split at h
  · rw [hc] at h; cases h
  next sections _ =>
    cases hparts : readSections image sections.zipIdx Parts.start with
    | error i =>
      rw [hparts] at h
      rw [hc] at h; cases h
    | ok parts =>
      have hpts := readSections_points (p := Parts.start) (fun w pts h => by cases h) hparts
      rw [hparts] at h
      refine ⟨rfl, ?_⟩
      simp only [Parts.toPlan, Option.bind_eq_bind, Option.bind_eq_some_iff, Option.pure_def] at h
      obtain ⟨⟨w, pts⟩, hs, _, -, _, -, _, -, _, -, h⟩ := h
      cases h
      exact ⟨rfl, hpts w pts hs⟩

/-- A plan comes out of the checks of a whole image alone (R13). -/
theorem imageWhole_of_plan {image : List Byte} {writePtr declared : Nat} {overrun : Bool} {p : StagedPlan}
    (h : (checkImage image writePtr declared overrun).plan = some p) : ImageWhole image writePtr declared overrun := by
  unfold checkImage at h
  dsimp only at h
  split_ifs at h
  next hsize hover hversion hcrc =>
    push Not at hsize hversion hcrc
    exact ⟨hsize, by simpa using hover, hversion, hcrc⟩

/-- Settles O15: the four failures before check 5, then check 5 by the directory and check 6 by the walk. -/
theorem passedImageIsWhole : Obligations.PassedImageIsWhole := by
  refine ⟨fun image writePtr declared overrun p h => ?_, fun image writePtr declared overrun => ⟨fun h => ?_, fun hptr hsize => ⟨?_, ?_, ?_⟩⟩,
    fun image writePtr declared overrun hw => ⟨fun h => ?_, fun i h1 h7 hi hbefore hbad => ?_, fun t h1 h7 hs ht1 ht5 hp hm => ?_⟩,
    fun image writePtr declared overrun hw hs => ⟨fun i hi hmeets hbad hrel => ?_, fun a l ha hl hmeets hrel => ?_, fun hmeets hrel => ?_⟩⟩
  · have hw := imageWhole_of_plan h
    rw [checkImage_whole hw] at h ⊢
    obtain ⟨hstatus, hid, hlen⟩ := checkSections_plan rfl h
    exact ⟨hw.sized.1, hw.sized.2, hw.kept, hw.version, hw.crc, hid, hlen, hstatus⟩
  · simp only [checkImage, if_pos h]
  · rintro rfl
    simp [checkImage, hptr, hsize]
  · rintro rfl hversion
    simp [checkImage, hptr, hsize, hversion]
  · rintro rfl hversion hcrc
    simp [checkImage, hptr, hsize, hversion, hcrc, resultOf]
  · rw [checkImage_whole hw, checkSections_bad (i := 255) (m := none)]
    · rfl
    · rw [checkStructure, if_pos h]
  · rw [checkImage_whole hw, checkSections_bad (checkStructure_of_unsound h1 h7 hi hbefore hbad)]
    rfl
  · rw [checkImage_whole hw, checkSections_bad (checkStructure_of_missing h1 h7 hs ht1 ht5 hp hm)]
    rfl
  · rw [checkImage_whole hw, checkSections_sound hs,
      readSections_of_broken (Parts.readTo_start image) (fun j hj => hs.entries j (by omega)) (Nat.zero_le i) (by omega)
        (fun j _ hj => hmeets j hj) hbad hrel]
    rfl
  · rw [checkImage_whole hw, checkSections_sound hs,
      readSections_of_relAlone (Parts.readTo_start image) (fun j hj => hs.entries j (by omega)) (.inl (Nat.zero_le a)) (by omega)
        (by omega) (fun j _ hj => hmeets j hj) hrel]
    rfl
  · obtain ⟨q, hread, hq⟩ := readSections_of_meets (m := u16At image 2) (Parts.readTo_start image)
      (fun j hj => hs.entries j (by omega)) (fun j _ hj => hmeets j (by omega)) (fun a l ha hl => hrel a l (by omega) (by omega))
    rw [Nat.zero_add] at hq
    obtain ⟨p, hp, hid, hpts⟩ := toPlan_of_readTo hs hq (headerId image)
    refine ⟨p, ?_, hid, hpts⟩
    rw [checkImage_whole hw, checkSections_sound hs, hread]
    simp only [hp, resultOf]

end Sys2Proof.Machine
end

section
/-! PROOF. The end of the checks (R16) and its reply, field by field (R185). -/

namespace Sys2Proof.Machine
open Sys2Proof

/-! ### Fields of a body (R180) -/

/-- A byte of a body stands in the piece that its place falls in. -/
theorem u8At_append (l m : List Byte) (i : Nat) :
    u8At (l ++ m) i = if i < l.length then u8At l i else u8At m (i - l.length) := by
  split
  next h => exact u8At_append_left l m h
  next h => rw [← u8At_append_right l m (i - l.length), Nat.add_sub_cancel' (by omega)]

theorem u32At_le_bitVec (v : BitVec 32) : u32At (le 4 v.toNat) 0 = v.toNat := u32At_le v.isLt

@[simp] theorem lePlanId_length (v : Option (BitVec 32)) : (lePlanId v).length = 5 := by
  cases v <;> simp [lePlanId]

@[simp] theorem leWordOrFFFF_length (v : Option Nat) : (leWordOrFFFF v).length = 2 := le_length 2 _

@[simp] theorem byteOrFF_length (v : Option Nat) : (byteOrFF v).length = 1 := byte_length _

@[simp] theorem flag_length (b : Bool) : (flag b).length = 1 := byte_length _

@[simp] theorem unstated_length (s : State) (i n : Nat) : (s.unstated i n).length = n := by simp [State.unstated]

@[simp] theorem crcBytes_length (s : State) (i : Nat) (v : Option (BitVec 32)) : (s.crcBytes i v).length = 5 := by
  cases v <;> simp [State.crcBytes]

/-- The presence byte of a field that may be absent. -/
theorem u8At_crcBytes (s : State) (i : Nat) (v : Option (BitVec 32)) : u8At (s.crcBytes i v) 0 = v.isSome.toNat := by
  cases v <;> simp [State.crcBytes, u8At_append, u8At_byte]

theorem u8At_lePlanId (v : Option (BitVec 32)) : u8At (lePlanId v) 0 = v.isSome.toNat := by
  cases v <;> simp [lePlanId, u8At_append, u8At_byte]

theorem u8At_lePlanId_value (v : Option (BitVec 32)) (k : Nat) :
    u8At (lePlanId v) (1 + k) = u8At (le 4 ((v.map (·.toNat)).getD 0)) k := by
  cases v <;> exact u8At_append_right (byte _) _ k

/-! ### The check result (R16, R185) -/

/-- The fields of a check result fit their places in the reply (R182, R185). -/
structure CheckResult.Fits (r : CheckResult) : Prop where
  status  : r.status ≤ 6
  place   : r.sectionIdx.getD 0 ≤ 255
  missing : r.missing.getD 0 ≤ 5
  points  : (r.plan.map (·.points.length)).getD 0 ≤ 128

theorem firstUnsound_le {size d i : Nat} {l m : List Section} (h : firstUnsound size d l m = some i) : i ≤ l.length + m.length := by
  induction m generalizing l with
  | nil => cases h
  | cons e m ih =>
    rw [firstUnsound] at h
    split at h
    · have := ih h
      simp at this ⊢
      omega
    · cases h
      simp

theorem checkStructure_bad_le {image : List Byte} {i : Nat} {m : Option Nat} (h : checkStructure image = .bad i m) :
    i ≤ 255 ∧ m.getD 0 ≤ 5 := by
  unfold checkStructure at h
  dsimp only at h
  split at h
  · cases h
    exact ⟨le_rfl, Nat.zero_le _⟩
  · split at h
    next i' hi =>
      cases h
      have := firstUnsound_le hi
      simp at this
      exact ⟨by omega, Nat.zero_le _⟩
    · split at h
      next t ht =>
        cases h
        have := List.mem_of_find?_eq_some ht
        simp at this
        simp only [Option.getD_some]
        omega
      · cases h

/-- The walk names the place of one of its entries, or the place of LIMITS (R15). -/
theorem readSections_error_le {image : List Byte} {l : List (Section × Nat)} {p : Parts} {i n : Nat} (hl : ∀ x ∈ l, x.2 ≤ n)
    (hp : p.limitsAt ≤ n) (h : readSections image l p = .error i) : i ≤ n := by
  induction l generalizing p with
  | nil => cases h
  | cons x l ih =>
    obtain ⟨e, k⟩ := x
    have hk : k ≤ n := hl (e, k) (by simp)
    rw [readSections] at h
    split at h
    · cases h
      exact hk
    next r hr =>
      have hat : r.limitsAt ≤ n := by
        unfold Parts.read at hr
        dsimp only at hr
        split_ifs at hr <;> simp only [Option.bind_eq_bind, Option.bind_eq_some_iff, Option.pure_def, Option.some.injEq] at hr
        · obtain ⟨w, -, pts, -, hr⟩ := hr
          split at hr <;> cases hr
          exact hp
        · obtain ⟨_, -, rfl⟩ := hr
          exact hk
        all_goals
          obtain ⟨_, -, rfl⟩ := hr
          exact hp
      split at h
      · cases h
        exact hat
      · exact ih (fun x hx => hl x (by simp [hx])) hat h

theorem checkStructure_sound_length {image : List Byte} {l : List Section} (h : checkStructure image = .sound l) : l.length ≤ 7 := by
  unfold checkStructure at h
  dsimp only at h
  split at h
  · cases h
  · split at h
    · cases h
    · split at h
      · cases h
      · cases h
        simp
        omega

theorem checkSections_fits {image : List Byte} {c : CheckResult} (hc : c.Fits) (hplan : c.plan = none) : (checkSections image c).Fits := by
  have hpoints : ((checkSections image c).plan.map (·.points.length)).getD 0 ≤ 128 := by
    cases h : (checkSections image c).plan with
    | none => simp
    | some p => exact (checkSections_plan hplan h).2.2
  unfold checkSections at hpoints ⊢
  split
  next i m h =>
    obtain ⟨hi, hm⟩ := checkStructure_bad_le h
    exact ⟨by simp, hi, hm, by simp [hplan]⟩
  next l h =>
    rw [h] at hpoints
    dsimp only at hpoints ⊢
    split
    next i hread =>
      have hi : i ≤ 7 := by
        refine readSections_error_le (fun x hx => ?_) (Nat.zero_le _) hread
        have := List.snd_lt_of_mem_zipIdx hx
        have := checkStructure_sound_length h
        omega
      exact ⟨by simp, by simp only [Option.getD_some]; omega, hc.missing, by simp [hplan]⟩
    next parts hread =>
      rw [hread] at hpoints
      exact ⟨by simp, hc.place, hc.missing, hpoints⟩

/-- What the checks of PLAN CLOSE give fits the reply (R16, R182). -/
theorem checkImage_fits (image : List Byte) (writePtr declared : Nat) (overrun : Bool) :
    (checkImage image writePtr declared overrun).Fits := by
  unfold checkImage
  dsimp only
  split_ifs
  · exact ⟨by simp, by simp, by simp, by simp⟩
  · exact ⟨by simp, by simp, by simp, by simp⟩
  · exact ⟨by simp, by simp, by simp, by simp⟩
  · exact ⟨by simp, by simp, by simp, by simp⟩
  · exact checkSections_fits ⟨by simp, by simp, by simp, by simp⟩ rfl

/-- The twenty bytes of a check result, field by field (R185). -/
theorem checkBody_fields (s : State) {r : CheckResult} (hr : r.Fits) :
    (s.checkBody r).length = 20 ∧ u8At (s.checkBody r) 0 = r.status ∧ u16At (s.checkBody r) 1 = r.sectionIdx.getD 0xFFFF ∧
      u8At (s.checkBody r) 3 = r.missing.getD 0 ∧ u8At (s.checkBody r) 4 = r.computed.isSome.toNat ∧
      (∀ v, r.computed = some v → u32At (s.checkBody r) 5 = v.toNat) ∧ u8At (s.checkBody r) 9 = r.header.isSome.toNat ∧
      (∀ v, r.header = some v → u32At (s.checkBody r) 10 = v.toNat) ∧ u8At (s.checkBody r) 14 = r.planId.isSome.toNat ∧
      u32At (s.checkBody r) 15 = (r.planId.map (·.toNat)).getD 0 ∧
      u8At (s.checkBody r) 19 = (r.plan.map (·.points.length)).getD 0xFF := by
  obtain ⟨hst, hplace, hmiss, hpts⟩ := hr
  have hsec : r.sectionIdx.getD 0xFFFF < 65536 := by
    cases h : r.sectionIdx <;> simp [h] at hplace ⊢
    omega
  have hcount : (r.plan.map (·.points.length)).getD 0xFF < 256 := by
    cases h : r.plan <;> simp [h] at hpts ⊢
    omega
  have hid : (r.planId.map (·.toNat)).getD 0 < 2 ^ 32 := by
    cases h : r.planId with
    | none => simp
    | some v => exact v.isLt
  refine ⟨by simp [State.checkBody], ?_, ?_, ?_, ?_, fun v hv => ?_, ?_, fun v hv => ?_, ?_, ?_, ?_⟩ <;>
    simp only [State.checkBody, u16At, u32At, u8At_append, List.length_append, byte_length, leWordOrFFFF_length, crcBytes_length,
      lePlanId_length, Nat.reduceAdd, Nat.reduceLT, Nat.reduceSub, if_true, if_false, Nat.lt_irrefl]
  · exact u8At_byte (by omega)
  · exact u16At_le hsec
  · exact u8At_byte (by omega)
  · exact u8At_crcBytes s 0 _
  · rw [hv]
    exact u32At_le_bitVec v
  · exact u8At_crcBytes s 4 _
  · rw [hv]
    exact u32At_le_bitVec v
  · exact u8At_lePlanId _
  · rw [u8At_lePlanId_value _ 0, u8At_lePlanId_value _ 1, u8At_lePlanId_value _ 2, u8At_lePlanId_value _ 3]
    exact u32At_le hid
  · exact u8At_byte hcount

/-! ### CHECKS_COMPLETE (R16) -/

/-- The end of a long request of the Station Port (R170, R174). -/
theorem answerLate_station (body : List Byte) (s : State) : s.answerLate .station .ok 0 body = { s with
    station := { s.station with
      slot := .done, running := none, events := s.station.events ||| 0x4000
      reply := writeBytes s.station.reply 0 (replyHeader s.station.lastCode s.station.sequence .ok 0 body.length ++ body) } } := by
  simp only [State.answerLate, State.answer, State.latchOn, State.modPort, Port.answered, Port.latch, Status.slot, Status.succeeds,
    if_true, eventBit]
  rfl

theorem checkResult_fits (s : State) : s.checkResult.Fits := checkImage_fits _ _ _ _

/-- The state in which the checks have ended with result `r`, the loader being `l` and event `e` latched (R16, R174). -/
def State.checksEnded (l : Loader) (e : BitVec 16) (r : CheckResult) (s : State) : State :=
  { s with
    loader := l, line := { s.line with events := s.line.events ||| e }, freeCount := s.freeCount + checkUnstated
    station := { s.station with
      events := s.station.events ||| (0x4000 ||| e), slot := .done, running := none
      reply := writeBytes s.station.reply 0 (replyHeader s.station.lastCode s.station.sequence .ok 0
        (loaderBody l ++ s.checkBody r).length ++ (loaderBody l ++ s.checkBody r)) } }

theorem endChecks_eq_checksEnded (r : CheckResult) (s : State) : s.endChecks r =
    match r.plan with
    | some plan => s.checksEnded { s.loader with state := .staged, staged := some plan } 0x0004 r
    | none => s.checksEnded { s.loader with state := .receiving, burstRunning := true } 0x0008 r := by
  have hbody (f : Loader → Loader) (e : Event) : ((s.modLoader f).latchBoth e).checkBody r = s.checkBody r :=
    checkBody_congr rfl r
  unfold State.endChecks
  cases r.plan with
  | some plan =>
    dsimp only
    rw [hbody, answerLate_station, State.checksEnded, BitVec.or_comm 0x4000, ← BitVec.or_assoc]
    rfl
  | none =>
    dsimp only
    rw [hbody, answerLate_station, State.checksEnded, BitVec.or_comm 0x4000, ← BitVec.or_assoc]
    rfl

/-- What the end of the checks leaves, whatever the loader and the event (R16). -/
theorem checksEnded_frame (l : Loader) (e : BitVec 16) (r : CheckResult) (s : State) :
    let t := s.checksEnded l e r
    t.station.slot = .done ∧ t.station.sequence = s.station.sequence ∧
      t.station.reply = writeBytes s.station.reply 0 (replyHeader s.station.lastCode s.station.sequence .ok 0
        (loaderBody t.loader ++ s.checkBody r).length ++ (loaderBody t.loader ++ s.checkBody r)) ∧
      t = { s with
        loader := t.loader, line := { s.line with events := t.line.events }, freeCount := s.freeCount + checkUnstated
        station := { s.station with
          events := t.station.events, slot := .done, running := none, reply := t.station.reply } } := by
  simp only [State.checksEnded, and_self]

/-- Settles O14: the two ends of the checks, and the fields of the reply. -/
theorem checksCompleteStagesOrRejects : Obligations.ChecksCompleteStagesOrRejects := by
  intro s hs hst
  have hexec : exec .checksComplete s = .next (s.endChecks s.checkResult) := by
    change execChecksComplete s = _
    rw [execChecksComplete, unlessHeld_live hs]
    simp only [hst]
  have hr := checkResult_fits s
  generalize s.checkResult = r at hexec hr ⊢
  rw [endChecks_eq_checksEnded] at hexec
  cases hplan : r.plan with
  | some plan =>
    rw [hplan] at hexec
    obtain ⟨hslot, hseq, hreply, hframe⟩ := checksEnded_frame { s.loader with state := .staged, staged := some plan } 0x0004 r s
    exact ⟨_, hexec, fun p hp => by cases hp; exact ⟨rfl, rfl, rfl⟩, (fun h => by cases h), hslot, hseq, hreply,
      fun r' body e hb => by subst e hb; exact checkBody_fields s hr, hframe⟩
  | none =>
    rw [hplan] at hexec
    obtain ⟨hslot, hseq, hreply, hframe⟩ := checksEnded_frame { s.loader with state := .receiving, burstRunning := true } 0x0008 r s
    exact ⟨_, hexec, (fun p hp => by cases hp), fun _ => ⟨rfl, rfl, rfl⟩, hslot, hseq, hreply,
      fun r' body e hb => by subst e hb; exact checkBody_fields s hr, hframe⟩

end Sys2Proof.Machine
end

section
/-! PROOF. The station computer's requests (R38, R74 to R76, R141, R177, R179). -/

namespace Sys2Proof.Machine
open Sys2Proof

/-! ### A request that has begun (R170)

What a block does to the part apart from the ports stands beside the window of the request. -/

section
variable (p : PortId) (r : Request) (params : List Byte) (b : Bool) (s : State)

theorem begun_modCapture (f : Capture → Capture) : (s.begun p r params b).modCapture f = (s.modCapture f).begun p r params b := by
  cases p <;> rfl

theorem begun_withdraw : (s.begun p r params b).withdraw = s.withdraw.begun p r params b := by
  cases p <;> rfl

theorem begun_count (f : Counts → Counts) : (s.begun p r params b).count f = (s.count f).begun p r params b := by
  cases p <;> rfl

theorem begun_modNest (n : NestId) (f : Nest → Nest) : (s.begun p r params b).modNest n f = (s.modNest n f).begun p r params b := by
  cases p <;> cases n <;> rfl

theorem begun_closeShift (c : CloseReason) : (s.begun p r params b).closeShift c = (s.closeShift c).begun p r params b := by
  cases p <;> rfl

theorem begun_shiftRecord (c : CloseReason) : (s.begun p r params b).shiftRecord c = s.shiftRecord c := by
  cases p <;> rfl

@[simp] theorem begun_nestHoldsChain : (s.begun p r params b).nestHoldsChain = s.nestHoldsChain := by
  cases p <;> rfl

@[simp] theorem begun_nest (n : NestId) : (s.begun p r params b).nest n = s.nest n := by
  cases p <;> cases n <;> rfl

@[simp] theorem begun_units : (s.begun p r params b).units = s.units := by
  cases p <;> rfl

@[simp] theorem begun_chain : (s.begun p r params b).chain = s.chain := by
  cases p <;> rfl

@[simp] theorem begun_accounts : (s.begun p r params b).accounts = s.accounts := by
  cases p <;> rfl

@[simp] theorem begun_marker : (s.begun p r params b).marker = s.marker := by
  cases p <;> rfl

@[simp] theorem begun_plan : (s.begun p r params b).plan = s.plan := by
  cases p <;> rfl

@[simp] theorem begun_candidate : (s.begun p r params b).candidate = s.candidate := by
  cases p <;> rfl

@[simp] theorem begun_startRefusal (n : NestId) : (s.begun p r params b).startRefusal n = s.startRefusal n := by
  cases p <;> cases n <;> rfl

end

/-! ### CALIBRATE (R74 to R76) -/

theorem clampOffset_eq_max_min (v : Int) : clampOffset v = max 5000 (min v 16000) := by
  unfold clampOffset clampTo
  split
  · omega
  · split <;> omega

@[simp] theorem leSigned_length (v : Int) : (leSigned v).length = 2 := le_length 2 _

/-- A signed field holds the value written to it, if it has the room (R180). -/
theorem s16At_leSigned {v : Int} (hlo : -32768 ≤ v) (hhi : v ≤ 32767) : s16At (leSigned v) 0 = v := by
  rw [s16At, leSigned, u16At_le (BitVec.isLt _), BitVec.ofNat_toNat, BitVec.setWidth_eq, BitVec.toInt_ofInt]
  exact Int.bmod_eq_of_le (by omega) (by omega)

theorem s16At_append_left (l m : List Byte) {i : Nat} (h : i + 1 < l.length) : s16At (l ++ m) i = s16At l i := by
  simp only [s16At, u16At, u8At_append_left l m h, u8At_append_left l m (Nat.lt_of_succ_lt h)]

theorem s16At_append_right (l m : List Byte) (i : Nat) : s16At (l ++ m) (l.length + i) = s16At m i := by
  simp only [s16At, u16At, Nat.add_assoc, u8At_append_right]

theorem s16At_writeBytes (v : Vector Byte 64) (bs : List Byte) (i : Nat) (hi : i + 2 ≤ bs.length) (h : i + 2 ≤ 64) :
    s16At (writeBytes v 0 bs).toList i = s16At bs i := by
  rw [s16At, u16At_writeBytes v bs i hi h, s16At]

/-- CALIBRATE finds the three offsets it was written with. -/
theorem calibrate_params (v : Vector Byte 64) {a b m : Int} (ha : -32768 ≤ a) (ha' : a ≤ 32767) (hb : -32768 ≤ b) (hb' : b ≤ 32767)
    (hm : -32768 ≤ m) (hm' : m ≤ 32767) :
    s16At (writeBytes v 0 (leSigned a ++ leSigned b ++ leSigned m)).toList 0 = a ∧
      s16At (writeBytes v 0 (leSigned a ++ leSigned b ++ leSigned m)).toList 2 = b ∧
      s16At (writeBytes v 0 (leSigned a ++ leSigned b ++ leSigned m)).toList 4 = m := by
  have hlen : (leSigned a ++ leSigned b ++ leSigned m).length = 6 := by simp
  refine ⟨?_, ?_, ?_⟩ <;> rw [s16At_writeBytes _ _ _ (by omega) (by omega)]
  · rw [s16At_append_left _ _ (by simp), s16At_append_left _ _ (by simp), s16At_leSigned ha ha']
  · rw [s16At_append_left _ _ (by simp)]
    exact (s16At_append_right (leSigned a) _ 0).trans (s16At_leSigned hb hb')
  · exact (s16At_append_right (leSigned a ++ leSigned b) _ 0).trans (s16At_leSigned hm hm')

/-- The status stands in the third byte of the reply area (R180). -/
theorem replied_status (p : PortId) (code : Byte) (params : List Byte) (st : Status) (sub : Nat) (body : List Byte) (q : Port) :
    (Port.replied p code params st sub body q).reply[2] = BitVec.ofNat 8 (statusCode st) := by
  simp only [Port.replied]
  rw [writeBytes_get _ _ _ _ (by decide), if_pos ⟨Nat.zero_le _, by simp [replyHeader]⟩]
  rfl

/-- A reply and a mark set on the same port stand beside each other. -/
theorem replied_withdraw (r : Request) (params : List Byte) (st : Status) (sub : Nat) (body : List Byte) (s : State) :
    s.withdraw.replied .station r params st sub body = { s with
      units := { s.units with remaining := 0, qualifiedA := false, qualifiedB := false }
      station := { Port.replied .station (requestCode r) params st sub body s.station with unverified := true }
      line := { s.line with unverified := true } } := by
  simp only [State.replied, State.withdraw, State.markUnverified, State.modPort, Port.replied]
  rfl

/-- The active record in the CALIBRATE reply, with its presence byte (R185). -/
theorem activeCalibration_bytes (c : Option Calibration) :
    flag c.isSome ++ (match c with | some c => calibrationBytes c | none => List.replicate 6 0) =
      match c with
      | some x => ([1] : List Byte) ++ leSigned x.micA ++ leSigned x.micB ++ leSigned x.ambient
      | none => [0, 0, 0, 0, 0, 0, 0] := by
  cases c <;> simp only [calibrationBytes, flag, byte, le, Option.isSome] <;> rfl

/-- The state in which CALIBRATE has been answered, its record stored by `f` (R74, R76, R129). -/
theorem calibrated_frame (f : Capture → Capture) (params : List Byte) {st : Status} (hst : st.slot = .done) (body : List Byte) (s : State) :
    let t := (s.modCapture f).withdraw.replied .station .calibrate params st 0 body
    t.capture = f s.capture ∧ t.station.reply[2] = BitVec.ofNat 8 (statusCode st) ∧
      t.station = { Port.replied .station (requestCode .calibrate) params st 0 body s.station with unverified := true } ∧
      t.units = { s.units with remaining := 0, qualifiedA := false, qualifiedB := false } ∧
      t.station.unverified = true ∧ t.station.events = s.station.events ∧ t.station.slot = .done ∧
      t = { s with capture := t.capture, units := t.units, station := t.station, line := { s.line with unverified := true } } := by
  have hstatus := replied_status .station (requestCode .calibrate) params st 0 body s.station
  simp only [replied_withdraw, State.modCapture, hstatus, true_and, and_true]
  exact ⟨rfl, hst⟩

/-- The capture unit after a calibration record `r` has been stored, pending while a nest holds the chain (R74). -/
def Capture.calibrated (pend : Bool) (r : Calibration) (c : Capture) : Capture :=
  if pend then { c with pending := some r } else { c with active := some r, pending := none }

/-- The body of the CALIBRATE reply: the record, its placement, and the active record (R185). -/
def calibrateBody (r : Calibration) (c : Capture) : List Byte :=
  leSigned r.micA ++ leSigned r.micB ++ leSigned r.ambient ++
    (match c.pending with | some _ => ([2] : List Byte) | none => [1]) ++
    (match c.active with
      | some x => ([1] : List Byte) ++ leSigned x.micA ++ leSigned x.micB ++ leSigned x.ambient
      | none => [0, 0, 0, 0, 0, 0, 0])

/-- CALIBRATE taken in the state in which it has begun, `r` being the clamped record (R74 to R76). -/
theorem takeCalibrate_begun {q : Vector Byte 64} {a b m : Int} (ha : s16At q.toList 0 = a) (hb : s16At q.toList 2 = b)
    (hm : s16At q.toList 4 = m) {r : Calibration} (hr : (⟨clampOffset a, clampOffset b, clampOffset m⟩ : Calibration) = r)
    (params : List Byte) (s : State) :
    takeCalibrate .station q (s.begun .station .calibrate params true) =
      (s.modCapture (Capture.calibrated s.nestHoldsChain r)).withdraw.replied .station .calibrate params
        (if r = ⟨a, b, m⟩ then .ok else .clamped) 0 (calibrateBody r (s.capture.calibrated s.nestHoldsChain r)) := by
  have hactive := activeCalibration_bytes s.capture.active
  have hstored := activeCalibration_bytes (some r)
  simp only [takeCalibrate, ha, hb, hm, hr, begun_nestHoldsChain]
  cases s.nestHoldsChain <;>
    simp only [if_true, if_false, Bool.false_eq_true, begun_modCapture, begun_withdraw, begun_answer]
  · refine congrArg (State.replied .station .calibrate params _ 0 · _) ?_
    simp only [calibrateBody, Capture.calibrated, Bool.false_eq_true, if_false, List.append_assoc]
    exact congrArg (fun l => calibrationBytes r ++ ([1] ++ l)) hstored
  · refine congrArg (State.replied .station .calibrate params _ 0 · _) ?_
    simp only [calibrateBody, Capture.calibrated, if_true, List.append_assoc]
    exact congrArg (fun l => calibrationBytes r ++ ([2] ++ l)) hactive

/-- Settles O19: the record stored, and its reply. -/
theorem calibrateStoresTheRecord : Obligations.CalibrateStoresTheRecord := by
  intro a b m s hs ha ha' hb hb' hm hm'
  obtain ⟨hqa, hqb, hqm⟩ := calibrate_params (s.port .station).params ha ha' hb hb' hm hm'
  have htake := exec_taken (r := .calibrate) (by decide) rfl hs (takeCalibrate_begun hqa hqb hqm rfl _ s)
  simp only [clampOffset_eq_max_min] at htake
  generalize (⟨max 5000 (min a 16000), max 5000 (min b 16000), max 5000 (min m 16000)⟩ : Calibration) = r at htake ⊢
  have hcode : BitVec.ofNat 8 (statusCode (if r = ⟨a, b, m⟩ then .ok else .clamped)) = if r = ⟨a, b, m⟩ then (0 : Byte) else 17 := by
    split <;> rfl
  have hslot : (if r = ⟨a, b, m⟩ then Status.ok else .clamped).slot = .done := by split <;> rfl
  obtain ⟨hcap, hreply, hstation, hunits, hmark, hevents, hdone, hframe⟩ :=
    calibrated_frame (Capture.calibrated s.nestHoldsChain r) (leSigned a ++ leSigned b ++ leSigned m) hslot
      (calibrateBody r (s.capture.calibrated s.nestHoldsChain r)) s
  refine ⟨_, htake, ⟨r, rfl, fun h => ?_, fun h => ?_, hreply.trans hcode, ?_⟩, hunits, hmark, hevents, hdone, hframe⟩
  · rw [hcap, Capture.calibrated, if_pos h]
  · rw [hcap, Capture.calibrated, if_neg (by simp [h])]
  · rw [hcap]
    exact hstation

/-! ### CHAIN CHECK (R38, R39) -/

theorem begun_grant (p : PortId) (r : Request) (params : List Byte) (b : Bool) (c : Claimant) (s : State) :
    (s.begun p r params b).grant c = (s.grant c).begun p r params b := by
  cases c with
  | check => cases p <;> rfl
  | nest n =>
    rw [grant_nest, grant_nest]
    cases p <;> cases n <;> rfl

theorem begun_grantHead (p : PortId) (r : Request) (params : List Byte) (b : Bool) (s : State) :
    (s.begun p r params b).grantHead = s.grantHead.begun p r params b := by
  have hqueue (f : Chain → Chain) : (s.begun p r params b).modChain f = (s.modChain f).begun p r params b := by
    cases p <;> rfl
  unfold State.grantHead
  rw [begun_chain]
  split
  · rw [hqueue, begun_grant]
  · rfl

theorem begun_joinQueue (p : PortId) (r : Request) (params : List Byte) (b : Bool) (c : Claimant) (s : State) :
    (s.begun p r params b).joinQueue c = (s.joinQueue c).begun p r params b := by
  rw [State.joinQueue, State.joinQueue, ← begun_grantHead]
  cases p <;> rfl

/-- The head of the queue of a free chain is granted (R36). -/
theorem grantHead_eq {c : Claimant} {rest : List Claimant} {s : State} (hfree : s.chain.holder = none)
    (hqueue : s.chain.queue = c :: rest) : s.grantHead = (s.modChain fun x => { x with queue := rest }).grant c := by
  unfold State.grantHead
  rw [hfree, hqueue]

/-- A claimant that finds the chain free and nobody waiting is granted at once (R36). -/
theorem joinQueue_free {c : Claimant} {s : State} (hfree : s.chain.holder = none) (hqueue : s.chain.queue = []) :
    s.joinQueue c = s.grant c := by
  have hback : (s.modChain fun x => { x with queue := x.queue ++ [c] }).modChain (fun x => { x with queue := [] }) = s := by
    simp only [State.modChain, ← hqueue]
  have hhead := grantHead_eq (c := c) (rest := []) (s := s.modChain fun x => { x with queue := x.queue ++ [c] }) hfree
    (by simp [State.modChain, hqueue])
  rw [State.joinQueue, hhead, hback]

/-- A claimant that finds the chain held waits at the tail of the queue (R36). -/
theorem joinQueue_held {c d : Claimant} {s : State} (h : s.chain.holder = some d) :
    s.joinQueue c = s.modChain fun x => { x with queue := x.queue ++ [c] } := by
  rw [State.joinQueue, grantHead_idle]
  exact .inl (by simp [State.modChain, h])

/-- What a grant to a CHAIN CHECK does (R39, R50, R67, R75). -/
theorem grant_check (s : State) : s.grant .check = { s with
    chain := { s.chain with holder := some .check, checkTag := s.chain.checkTag + 1, checkA := none, checkB := none, checkFaded := false }
    capture := { s.capture with active := s.capture.pending.or s.capture.active, pending := none, attempt := 1 }
    gen := { s.gen with
      mode := .settle, acc := 0, inc := 89478485, amp := 838861, ramp := 0, cursor := 0, samples := 0, wraps := 0
      stopMark := false, claimant := some .check, tag := s.chain.checkTag + 1, postWrap := false, windowPlayed := 0 } } := by
  simp only [State.grant, adoptPending_eq]
  rfl

/-- Settles O20: a CHAIN CHECK joins the queue, and is granted where it finds the chain free. -/
theorem chainCheckIsGrantedOrQueued : Obligations.ChainCheckIsGrantedOrQueued := by
  have htake (s : State) (hs : s.ready .station) : exec (.chainCheck .station [] .atOnce) s =
      .next (State.begun .station .chainCheck [] true (s.joinQueue .check)) :=
    exec_taken (r := .chainCheck) (by decide) rfl hs (begun_joinQueue .station .chainCheck [] true .check s)
  refine ⟨fun s hs hfree hqueue => ?_, fun c s hs hheld => ?_⟩
  · have hlive : (State.begun .station .chainCheck [] true (s.grant .check)).held = false := by
      rw [begun_held, State.held, State.grant_hold]
      exact hs.1
    refine ⟨_, htake s hs, ?_⟩
    rw [joinQueue_free hfree hqueue]
    obtain ⟨hamp, hloop⟩ := switch_of_holder .check _ hlive (by rw [begun_chain, grant_check])
    refine ⟨?_, by simpa using hloop, hamp, ?_⟩
    · rw [begun_chain, grant_check]
    · rw [grant_check]
      exact ⟨rfl, rfl, rfl, rfl, rfl⟩
  · rw [htake s hs, joinQueue_held hheld]
    rfl

/-! ### CLOSE SHIFT (R141, R143) -/

/-- Settles O22: the record is the one that `State.closeShift` makes. -/
theorem closeShiftMakesARecord : Obligations.CloseShiftMakesARecord := by
  intro s hs
  have htake : takeCloseShift .station (writeBytes (s.port .station).params 0 []) (s.begun .station .closeShift [] true) =
      (s.closeShift .requested).replied .station .closeShift [] .ok 0
        (le 2 (s.shiftRecord .requested).number ++ leYield (s.shiftRecord .requested).firstYield ++
          leYield (s.shiftRecord .requested).finalYield ++ le 2 (s.closeShift .requested).accounts.shift) := by
    simp only [takeCloseShift, begun_closeShift, begun_shiftRecord, begun_accounts, State.ok, begun_answer]
  refine ⟨s.shiftRecord .requested, _, exec_taken (r := .closeShift) (by decide) rfl hs htake, rfl, rfl, rfl, rfl, rfl, rfl, ?_, ?_⟩
  · rw [State.replied, State.modPort_accounts]
    simp only [State.closeShift, keepLast, nextShift, List.length_append, List.length_singleton]
  · rw [State.replied, State.modPort_accounts]
    rfl

/-! ### SET MASK and IDENTIFY (R177, R179) -/

/-- Attention is asserted while a latched event is not masked (R177). -/
theorem attention_iff {p : PortId} {s : State} (hs : s.held = false) : s.attention p = true ↔
    ∃ i, i < 16 ∧ (s.port p).events.getLsbD i = true ∧ (s.port p).mask.getLsbD i = false := by
  simp only [State.attention, hs, Bool.not_false, Bool.true_and, bne_iff_ne, ne_eq]
  constructor
  · intro h
    by_contra hno
    push Not at hno
    refine h (BitVec.eq_of_getLsbD_eq fun i hi => ?_)
    by_cases h16 : i < 16
    · cases he : (s.port p).events.getLsbD i
      · simp [he]
      · have := hno i h16 he
        simp_all
    · have hge : 16 ≤ i := by omega
      simp [BitVec.getLsbD_of_ge _ i hge]
  · rintro ⟨i, hi, he, hm⟩ h
    have hbit := congrArg (·.getLsbD i) h
    have hi' : i < 32 := by omega
    rw [BitVec.getLsbD_eq_getElem hi'] at hm
    simp [he, hm, hi'] at hbit

/-- SET MASK finds the mask it was written with. -/
theorem setMask_param (v : Vector Byte 64) (m : BitVec 32) : BitVec.ofNat 32 (u32At (writeBytes v 0 (le 4 m.toNat)).toList 0) = m := by
  rw [u32At_writeBytes _ _ 0 (le_length 4 _).ge (by omega), u32At_le_bitVec, BitVec.ofNat_toNat, BitVec.setWidth_eq]

/-- The address byte of IDENTIFY: 58h plus the straps (R169, R179). -/
theorem lineAddress_byte (s : State) : byte s.lineAddress = [0x58 + s.straps.address.setWidth 8] := by
  have h : BitVec.ofNat 8 s.lineAddress = 0x58 + s.straps.address.setWidth 8 := by
    apply BitVec.eq_of_toNat_eq
    simp only [State.lineAddress, Config.lineAddressBase]
    bv_omega
  rw [byte, le, h]
  rfl

/-- The body of the IDENTIFY reply (R179, R185). -/
def identifyBody (p : PortId) (s : State) : List Byte :=
  le 2 Config.partNumber ++ byte Config.siliconRevision ++ byte (match p with | .station => 1 | .line => 2) ++
    byte s.lineAddress ++ flag s.straps.ambient ++ byte (loaderStateCode s.loader.state) ++
    lePlanId (s.loader.active.map (·.content.id)) ++ lePlanId (s.loader.staged.map (·.content.id)) ++
    flag s.capture.active.isSome ++ flag s.capture.pending.isSome ++ le 2 s.accounts.shift

theorem flag_eq (b : Bool) : flag b = [if b then 1 else 0] := by cases b <;> rfl

theorem flag_isSome {α : Type} (o : Option α) [Decidable (o = none)] : flag o.isSome = [if o = none then 0 else 1] := by
  cases o <;> simp [flag, byte, le]

theorem lePlanId_map {α : Type} (o : Option α) (f : α → BitVec 32) :
    lePlanId (o.map f) = match o with | some a => 1 :: le 4 (f a).toNat | none => [0, 0, 0, 0, 0] := by
  cases o <;> rfl

/-- The bytes of IDENTIFY one by one (R179). -/
theorem identifyBody_eq (p : PortId) (s : State) : identifyBody p s =
    [0x20, 0x46, 1, (match p with | .station => 1 | .line => 2), 0x58 + s.straps.address.setWidth 8,
      (if s.straps.ambient then 1 else 0),
      (match s.loader.state with | .idle => 0 | .receiving => 1 | .checking => 2 | .staged => 3 | .pending => 4)] ++
      (match s.loader.active with | some a => 1 :: le 4 a.content.id.toNat | none => [0, 0, 0, 0, 0]) ++
      (match s.loader.staged with | some x => 1 :: le 4 x.content.id.toNat | none => [0, 0, 0, 0, 0]) ++
      [(if s.capture.active = none then 0 else 1), (if s.capture.pending = none then 0 else 1)] ++ le 2 s.accounts.shift := by
  have hstate : byte (loaderStateCode s.loader.state) =
      [match s.loader.state with | .idle => 0 | .receiving => 1 | .checking => 2 | .staged => 3 | .pending => 4] := by
    cases s.loader.state <;> rfl
  have hpart : le 2 Config.partNumber = [0x20, 0x46] := by decide
  have hrevision : byte Config.siliconRevision = [1] := by decide
  have hport : byte (match p with | .station => 1 | .line => 2) = [match p with | .station => 1 | .line => 2] := by
    cases p <;> rfl
  unfold identifyBody
  rw [hpart, hrevision, hport, lineAddress_byte, hstate, flag_eq, flag_isSome, flag_isSome, lePlanId_map, lePlanId_map]
  simp only [List.append_assoc, List.cons_append, List.nil_append] <;>
    cases s.loader.active <;> cases s.loader.staged <;> rfl

/-- Settles O37: the mask as written, and the bytes of IDENTIFY one by one. -/
theorem setMaskAndIdentify : Obligations.SetMaskAndIdentify := by
  refine ⟨fun p m s hs => ?_, fun p s hs => exec_taken (r := .identify) (by decide) (by cases p <;> rfl) hs ?_⟩
  · have htake : takeSetMask p (writeBytes (s.port p).params 0 (le 4 m.toNat)) (s.begun p .setMask (le 4 m.toNat) true) =
        State.modPort p (fun q => { q with mask := m })
          (State.replied p .setMask (le 4 m.toNat) .ok 0 (le 4 (s.port p).mask.toNat) s) := by
      rw [takeSetMask, setMask_param, begun_mask, ← begun_answer .setMask p _ true]
      cases p <;> simp only [State.ok, State.answer, State.modPort, Port.answered, State.begun]
    refine ⟨_, exec_taken (r := .setMask) (by decide) (by cases p <;> rfl) hs htake, rfl, ?_⟩
    rw [attention_iff]
    · cases p <;> rfl
    · simpa [State.replied] using hs.1
  · have hbegun : takeIdentify p (writeBytes (s.port p).params 0 []) (s.begun p .identify [] true) =
        (s.begun p .identify [] true).answer p .ok 0 (identifyBody p s) := by
      cases p <;> rfl
    refine hbegun.trans ?_
    rw [begun_answer]
    exact congrArg (State.replied p .identify [] .ok 0 · s) (identifyBody_eq p s)

end Sys2Proof.Machine
end

section
/-! PROOF. Loading a nest (R26, R116 to R121) and the checks of a START (R27). -/

namespace Sys2Proof.Machine
open Sys2Proof

/-! ### The nest selector and the fields of LOAD UNIT (R26, R180) -/

/-- A request that begins with the selector of nest `n` finds that nest. -/
theorem nestOf_selector (v : Vector Byte 64) (n : NestId) (rest : List Byte) :
    nestOf (u8At (writeBytes v 0 (selector n :: rest)).toList 0) = some n := by
  rw [u8At_writeBytes_head]
  cases n <;> rfl

theorem loadUnit_kind (v : Vector Byte 64) (n : NestId) (k : Byte) (more : List Byte) :
    u8At (writeBytes v 0 (selector n :: k :: more)).toList 1 = k.toNat :=
  u8At_writeBytes _ _ 1 (by simp) (by decide)

theorem loadUnit_serial (v : Vector Byte 64) (n : NestId) (k : Byte) {serial : Nat} (h : serial < 2 ^ 32) :
    u32At (writeBytes v 0 (selector n :: k :: le 4 serial)).toList 2 = serial := by
  rw [u32At_writeBytes _ _ 2 (by simp) (by decide)]
  exact u32At_le h

/-! ### The serial counter (R116) -/

/-- The values passed over are in use, and the counter goes upward until it runs out (R116). -/
theorem passOver_between (l : List Nat) (k v : Nat) :
    passOver l k v = 0 ∨ (v ≤ passOver l k v ∧ ∀ w, v ≤ w → w < passOver l k v → w ∈ l) := by
  induction k generalizing v with
  | zero => exact .inr ⟨le_rfl, fun w h h' => absurd h (by simp [passOver] at h'; omega)⟩
  | succ k ih =>
    by_cases hv : v ≠ 0 ∧ v ∈ l
    · rw [passOver, if_pos hv]
      by_cases hlast : v = 16777215
      · rw [nextSerial, if_pos hlast]
        exact .inl (passOver_zero l k)
      · rw [nextSerial, if_neg hlast]
        rcases ih (v + 1) with h0 | ⟨hle, hmem⟩
        · exact .inl h0
        · refine .inr ⟨by omega, fun w hw hw' => ?_⟩
          rcases Nat.eq_or_lt_of_le hw with rfl | hlt
          · exact hv.2
          · exact hmem w hlt hw'
    · rw [passOver, if_neg hv]
      exact .inr ⟨le_rfl, fun w h h' => absurd h (by omega)⟩

theorem passOver_le (l : List Nat) (k : Nat) {v : Nat} (hv : v ≤ 16777215) : passOver l k v ≤ 16777215 := by
  induction k generalizing v with
  | zero => exact hv
  | succ k ih =>
    rw [passOver]
    split
    · apply ih
      unfold nextSerial
      split <;> omega
    · exact hv

/-- The counter runs out over values that are all in use (R116). -/
theorem passOver_eq_zero (l : List Nat) (k : Nat) {v : Nat} (h : passOver l k v = 0) :
    v = 0 ∨ ∀ w, v ≤ w → w ≤ 16777215 → w ∈ l := by
  induction k generalizing v with
  | zero => exact .inl h
  | succ k ih =>
    rw [passOver] at h
    split at h
    next hv =>
      refine .inr fun w hw hw' => ?_
      rcases Nat.eq_or_lt_of_le hw with rfl | hlt
      · exact hv.2
      · rw [nextSerial, if_neg (by omega)] at h
        rcases ih h with h0 | hall
        · omega
        · exact hall w hlt hw'
    · exact .inl h

/-- There is no candidate exactly when the counter is 0 or all values from it on are in use (R116). -/
theorem candidate_eq_zero_iff {s : State} (hs : s.units.serialCounter ≤ 16777215) : s.candidate = 0 ↔
    s.units.serialCounter = 0 ∨ ∀ v, s.units.serialCounter ≤ v → v ≤ 16777215 → v ∈ s.serialsInUse := by
  constructor
  · exact passOver_eq_zero _ _
  · rintro (h | hall)
    · rw [State.candidate, h, passOver_zero]
    · by_contra hne
      refine candidate_free s hne (hall _ ?_ (passOver_le _ _ hs))
      exact (passOver_between _ _ _).resolve_left hne |>.1

theorem mem_serialsInUse_iff (v : Nat) (s : State) : v ∈ s.serialsInUse ↔ (∃ n, (s.nest n).serial = some v) ∨
    (∃ n e, s.units.held n = some e ∧ e.serial = v) ∨ ∃ e ∈ s.units.retest, e.serial = v := by
  have hnest : (∃ n, (s.nest n).serial = some v) ↔ s.nestA.serial = some v ∨ s.nestB.serial = some v :=
    ⟨fun ⟨n, h⟩ => by cases n <;> [exact .inl h; exact .inr h], fun h => h.elim (⟨.a, ·⟩) (⟨.b, ·⟩)⟩
  have hheld : (∃ n e, s.units.held n = some e ∧ e.serial = v) ↔
      (∃ e, s.units.heldA = some e ∧ e.serial = v) ∨ ∃ e, s.units.heldB = some e ∧ e.serial = v :=
    ⟨fun ⟨n, h⟩ => by cases n <;> [exact .inl h; exact .inr h], fun h => h.elim (⟨.a, ·⟩) (⟨.b, ·⟩)⟩
  rw [hnest, hheld]
  simp [State.serialsInUse, or_assoc]

/-! ### LOAD UNIT (R26) -/

section
variable {q : Vector Byte 64} {n : NestId} {s : State} (p : PortId)

/-- A load of a kind and a serial that are in range, into an EMPTY nest (R26). -/
theorem takeLoadUnit_empty (hn : nestOf (u8At q.toList 0) = some n) {k : Nat} (hk : u8At q.toList 1 = k) (hk1 : 1 ≤ k) (hk3 : k ≤ 3)
    (hserial : k = 2 → 1 ≤ u32At q.toList 2 ∧ u32At q.toList 2 ≤ 16777215) (hs : (s.nest n).state = .empty) :
    takeLoadUnit p q s =
      if k = 1 then s.loadNew p n else if k = 2 then s.loadRetest p n (u32At q.toList 2) else s.loadReference p n := by
  simp only [takeLoadUnit, hn, hk]
  rw [if_neg (by omega), if_neg (by omega), if_neg (by simp [hs])]

theorem takeLoadUnit_notEmpty (hn : nestOf (u8At q.toList 0) = some n) {k : Nat} (hk : u8At q.toList 1 = k) (hk1 : 1 ≤ k)
    (hk3 : k ≤ 3) (hserial : k = 2 → 1 ≤ u32At q.toList 2 ∧ u32At q.toList 2 ≤ 16777215) (hs : (s.nest n).state ≠ .empty) :
    takeLoadUnit p q s = s.refuse p .state (nestStateCode (s.nest n).state) := by
  simp only [takeLoadUnit, hn, hk]
  rw [if_neg (by omega), if_neg (by omega), if_pos hs]

theorem takeLoadUnit_badKind (hn : nestOf (u8At q.toList 0) = some n) (hk : u8At q.toList 1 < 1 ∨ 3 < u8At q.toList 1) :
    takeLoadUnit p q s = s.refuse p .badParam 1 := by
  simp only [takeLoadUnit, hn]
  rw [if_pos hk]

theorem takeLoadUnit_badSerial (hn : nestOf (u8At q.toList 0) = some n) (hk : u8At q.toList 1 = 2)
    (hserial : u32At q.toList 2 < 1 ∨ 16777215 < u32At q.toList 2) : takeLoadUnit p q s = s.refuse p .badParam 2 := by
  simp only [takeLoadUnit, hn, hk]
  rw [if_neg (by omega), if_pos ⟨trivial, hserial⟩]

end

/-! ### What an answer of a port leaves unchanged -/

section
variable (p : PortId) (r : Request) (params : List Byte) (st : Status) (sub : Nat) (body : List Byte) (s : State)

theorem replied_congr {s t : State} (h : s = t) : State.replied p r params st sub body s = State.replied p r params st sub body t :=
  congrArg _ h

theorem replied_units : (State.replied p r params st sub body s).units = s.units := by cases p <;> rfl

theorem replied_accounts : (State.replied p r params st sub body s).accounts = s.accounts := by cases p <;> rfl

theorem replied_nest (n : NestId) : (State.replied p r params st sub body s).nest n = s.nest n := by cases p <;> cases n <;> rfl

theorem replied_marker : (State.replied p r params st sub body s).marker = s.marker := by cases p <;> rfl

theorem replied_events (q : PortId) : ((State.replied p r params st sub body s).port q).events = (s.port q).events := by
  cases p <;> cases q <;> rfl

end

/-- A request of a port that refuses it with an empty body, nothing else changing. -/
theorem begun_refuse (p : PortId) (r : Request) (params : List Byte) (b : Bool) (st : Status) (sub : Nat) (s : State) :
    (s.begun p r params b).refuse p st sub = s.replied p r params st sub [] := begun_answer r p params b st sub [] s

theorem begun_ok (p : PortId) (r : Request) (params : List Byte) (b : Bool) (body : List Byte) (s : State) :
    (s.begun p r params b).ok p body = s.replied p r params .ok 0 body := begun_answer r p params b .ok 0 body s

/-- Settles O25: the two branches of `State.loadNew`, and what the search for a serial passes over. -/
theorem newLoadIssuesASerial : Obligations.NewLoadIssuesASerial := by
  have htake (n : NestId) (s : State) (he : (s.nest n).state = .empty) :
      takeLoadUnit .line (writeBytes (s.port .line).params 0 [selector n, 1]) (s.begun .line .loadUnit [selector n, 1] true) =
        (s.begun .line .loadUnit [selector n, 1] true).loadNew .line n := by
    rw [takeLoadUnit_empty .line (nestOf_selector _ n _) (loadUnit_kind _ n 1 []) (by decide) (by decide) (by intro h; cases h)
      (by rw [begun_nest]; exact he)]
    rfl
  refine ⟨fun n s hs he hc => ?_, fun n s hs he hc => ?_, fun s hc => ⟨candidate_free s hc, ?_⟩,
    fun s hs => ⟨passOver_le _ _ hs, candidate_eq_zero_iff hs⟩, mem_serialsInUse_iff⟩
  · refine exec_taken (r := .loadUnit) (by decide) rfl hs ((htake n s he).trans ?_)
    simp only [State.loadNew, begun_candidate, if_neg hc, begun_modUnits, begun_count, begun_modNest, begun_ok]
    cases n <;> rfl
  · refine exec_taken (r := .loadUnit) (by decide) rfl hs ((htake n s he).trans ?_)
    simp only [State.loadNew, begun_candidate, hc, if_true, begun_modUnits, begun_refuse]
    rfl
  · exact (passOver_between _ _ _).resolve_left hc

theorem find_serial_eq_none {l : List RetestEntry} {v : Nat} (h : ∀ e ∈ l, e.serial ≠ v) :
    l.find? (fun x => decide (x.serial = v)) = none := by
  rw [List.find?_eq_none]
  intro e he
  simpa using h e he

/-- A RETEST load changes nothing of the Unit Table but the list and the held entries (R119). -/
theorem modUnits_takeEntry (n : NestId) (v : Nat) (e : RetestEntry) (s : State) :
    (s.modUnits fun u => (u.takeEntry v).setHeld n (some e)) =
      { s with units := { s.units with
          retest := (s.modUnits fun u => (u.takeEntry v).setHeld n (some e)).units.retest
          listSequence := (s.modUnits fun u => (u.takeEntry v).setHeld n (some e)).units.listSequence
          heldA := (s.modUnits fun u => (u.takeEntry v).setHeld n (some e)).units.heldA
          heldB := (s.modUnits fun u => (u.takeEntry v).setHeld n (some e)).units.heldB } } := by
  cases n <;> rfl

/-- A RETEST load of a serial in range into an EMPTY nest (R119). -/
theorem exec_loadRetest {n : NestId} {v : Nat} {s t : State} (hs : s.ready .line) (he : (s.nest n).state = .empty) (h1 : 1 ≤ v)
    (h2 : v ≤ 16777215) (ht : (s.begun .line .loadUnit ([selector n, 2] ++ le 4 v) true).loadRetest .line n v = t) :
    exec (.loadUnit .line ([selector n, 2] ++ le 4 v) .atOnce) s = .next t := by
  have hserial : u32At (writeBytes (s.port .line).params 0 (selector n :: 2 :: le 4 v)).toList 2 = v :=
    loadUnit_serial _ n 2 (by omega)
  have hload := takeLoadUnit_empty (q := writeBytes (s.port .line).params 0 (selector n :: 2 :: le 4 v))
    (s := s.begun .line .loadUnit (selector n :: 2 :: le 4 v) true) .line (nestOf_selector _ n _) (loadUnit_kind _ n 2 _)
    (by decide) (by decide) (fun _ => hserial.symm ▸ ⟨h1, h2⟩) (by rw [begun_nest]; exact he)
  exact exec_taken (r := .loadUnit) (by decide) rfl hs (hload.trans (hserial.symm ▸ ht))

/-- A load whose kind and serial are in range, into a nest that is not EMPTY (R26). -/
theorem exec_loadUnit_notEmpty {n : NestId} {k : Byte} {v : Nat} {s : State} (hs : s.ready .line) (he : (s.nest n).state ≠ .empty)
    (hk : k = 1 ∨ k = 3 ∨ (k = 2 ∧ 1 ≤ v ∧ v ≤ 16777215)) :
    exec (.loadUnit .line ([selector n, k] ++ le 4 v) .atOnce) s = .next (State.replied .line .loadUnit
      ([selector n, k] ++ le 4 v) .state (nestStateCode (s.nest n).state) [] s) := by
  have hrange : 1 ≤ k.toNat ∧ k.toNat ≤ 3 := by rcases hk with rfl | rfl | ⟨rfl, -⟩ <;> decide
  have hinRange (h2 : k.toNat = 2) : 1 ≤ u32At (writeBytes (s.port .line).params 0 (selector n :: k :: le 4 v)).toList 2 ∧
      u32At (writeBytes (s.port .line).params 0 (selector n :: k :: le 4 v)).toList 2 ≤ 16777215 := by
    have hv : 1 ≤ v ∧ v ≤ 16777215 := by
      rcases hk with rfl | rfl | hk
      · cases h2
      · cases h2
      · exact hk.2
    rw [loadUnit_serial _ n k (by omega)]
    exact hv
  have hload := takeLoadUnit_notEmpty (s := s.begun .line .loadUnit (selector n :: k :: le 4 v) true) .line
    (nestOf_selector _ n _) (loadUnit_kind (s.port .line).params n k _) hrange.1 hrange.2 hinRange (by rw [begun_nest]; exact he)
  rw [begun_nest, begun_refuse] at hload
  exact exec_taken (r := .loadUnit) (by decide) rfl hs hload

theorem exec_loadUnit_badKind {n : NestId} {k : Byte} {more : List Byte} {s : State} (hs : s.ready .line) (h1 : k ≠ 1) (h2 : k ≠ 2)
    (h3 : k ≠ 3) : exec (.loadUnit .line ([selector n, k] ++ more) .atOnce) s =
      .next (State.replied .line .loadUnit ([selector n, k] ++ more) .badParam 1 [] s) := by
  have hrange : k.toNat < 1 ∨ 3 < k.toNat := by
    have e1 : k.toNat ≠ 1 := fun h => h1 (BitVec.eq_of_toNat_eq h)
    have e2 : k.toNat ≠ 2 := fun h => h2 (BitVec.eq_of_toNat_eq h)
    have e3 : k.toNat ≠ 3 := fun h => h3 (BitVec.eq_of_toNat_eq h)
    omega
  have hload := takeLoadUnit_badKind (q := writeBytes (s.port .line).params 0 (selector n :: k :: more))
    (s := s.begun .line .loadUnit (selector n :: k :: more) true) .line (nestOf_selector _ n _)
    ((loadUnit_kind (s.port .line).params n k more).symm ▸ hrange)
  rw [begun_refuse] at hload
  exact exec_taken (r := .loadUnit) (by decide) rfl hs hload

theorem exec_loadUnit_badSerial {n : NestId} {v : Nat} {s : State} (hs : s.ready .line) (hv : v < 2 ^ 32)
    (hbad : v = 0 ∨ 16777215 < v) : exec (.loadUnit .line ([selector n, 2] ++ le 4 v) .atOnce) s =
      .next (State.replied .line .loadUnit ([selector n, 2] ++ le 4 v) .badParam 2 [] s) := by
  have hload := takeLoadUnit_badSerial (q := writeBytes (s.port .line).params 0 (selector n :: 2 :: le 4 v))
    (s := s.begun .line .loadUnit (selector n :: 2 :: le 4 v) true) .line (nestOf_selector _ n _) (loadUnit_kind _ n 2 _)
    (by rw [loadUnit_serial _ n 2 hv]; omega)
  rw [begun_refuse] at hload
  exact exec_taken (r := .loadUnit) (by decide) rfl hs hload

/-- Settles O26: the branches of `takeLoadUnit`, on the kind and the serial as written. -/
theorem retestAndReferenceLoads : Obligations.RetestAndReferenceLoads := by
  refine ⟨fun n e s hs he h1 h2 hfind hother => ?_, fun n v s hs he h1 h2 hother => ?_, fun n v s hs he h1 h2 hother hno => ?_,
    fun n s hs he => ?_, fun n k v s hs he hk => exec_loadUnit_notEmpty hs he hk,
    fun n k more s hs h1 h2 h3 => exec_loadUnit_badKind hs h1 h2 h3, fun n v s hs hv hbad => exec_loadUnit_badSerial hs hv hbad⟩
  · refine ⟨_, exec_loadRetest hs he h1 h2 rfl, ?_⟩
    simp only [State.loadRetest, begun_nest, if_neg hother, begun_units, hfind, begun_modUnits, begun_modNest, begun_ok,
      replied_units, State.modNest_units, loadBody, leSerial, Option.getD_some]
    refine ⟨?_, ?_, ?_, ?_, replied_congr _ _ _ _ _ _ (congrArg (State.modNest n _) (modUnits_takeEntry n e.serial e s))⟩ <;>
      cases n <;> rfl
  · refine exec_loadRetest hs he h1 h2 ?_
    simp only [State.loadRetest, begun_nest, if_pos hother, begun_refuse]
  · refine exec_loadRetest hs he h1 h2 ?_
    simp only [State.loadRetest, begun_nest, if_neg hother, begun_units, find_serial_eq_none hno, begun_refuse]
  · have hload := takeLoadUnit_empty (q := writeBytes (s.port .line).params 0 [selector n, 3])
      (s := s.begun .line .loadUnit [selector n, 3] true) .line (nestOf_selector _ n _) (loadUnit_kind _ n 3 [])
      (by decide) (by decide) (by intro h; cases h) (by rw [begun_nest]; exact he)
    refine exec_taken (r := .loadUnit) (by decide) rfl hs (hload.trans ?_)
    change State.loadReference .line n _ = _
    rw [State.loadReference, begun_modNest, begun_ok]
    cases n <;> rfl

/-! ### The checks of a START (R27) -/

/-- Settles O29: the checks of `State.startRefusal` in their order. -/
theorem startChecksInOrder : Obligations.StartChecksInOrder := by
  refine ⟨fun p n r s hs hr => ?_, fun n s h1 => ?_, fun n s h1 h2 => ?_, fun n s h1 h2 h3 => ?_, fun n s h1 h2 h3 h4 => ?_,
    fun n s h1 h2 h3 h4 => ?_, fun n s h1 h2 h3 h4 h5 h6 h7 h8 => ?_⟩
  · refine exec_taken (r := .startNest) (by decide) (by cases p <;> rfl) hs ?_
    simp only [takeOf, takeStartNest, nestOf_selector, begun_startRefusal, hr, begun_refuse]
  · simp [State.startRefusal, h1]
  · simp [State.startRefusal, h1, h2]
  · simp [State.startRefusal, h1, h2, h3]
  · simp [State.startRefusal, h1, h2, h3, h4]
  · refine ⟨fun h5 => ?_, fun h5 => ⟨fun h6 => ?_, fun h6 => ⟨fun h7 => ?_, fun h7 h8 => ?_⟩⟩⟩
    · simp [State.startRefusal, h1, h2, h3, h4, Lines.notPermissive, h5]
      cases n <;> rfl
    · simp [State.startRefusal, h1, h2, h3, h4, Lines.notPermissive, h5, h6]
      cases n <;> rfl
    · simp [State.startRefusal, h1, h2, h3, h4, Lines.notPermissive, h5, h6, h7, inputCode]
    · simp [State.startRefusal, h1, h2, h3, h4, Lines.notPermissive, h5, h6, h7, h8, inputCode]
  · refine ⟨fun h9 h10 h11 => ?_, fun h9 => ?_⟩
    · simp [State.startRefusal, h1, h2, h3, h4, Lines.notPermissive, h5, h6, h7, h8, h9, h10, State.verified, h11]
    · have hok : ¬((s.nest n).kind = some .production ∧ s.windowLength ≠ 0 ∧ s.verified = false) := by
        rintro ⟨hkind, hlen, hzero⟩
        rw [State.verified, decide_eq_false_iff_not] at hzero
        rcases h9 with h | h | h
        · exact h hkind
        · exact hlen h
        · omega
      simp [State.startRefusal, h1, h2, h3, h4, Lines.notPermissive, h5, h6, h7, h8]
      simpa using hok

end Sys2Proof.Machine
end

section
/-! PROOF. RELEASE NEST (R31, R123, R133, R138, R139). -/

namespace Sys2Proof.Machine
open Sys2Proof

/-! ### An untested release beside the request that asked for it -/

section
variable (p : PortId) (r : Request) (params : List Byte) (b : Bool) (s : State)

theorem begun_latchBoth (e : Event) : (s.begun p r params b).latchBoth e = (s.latchBoth e).begun p r params b := by
  cases p <;> rfl

@[simp] theorem begun_yieldAlarm : (s.begun p r params b).yieldAlarm = s.yieldAlarm := by
  cases p <;> rfl

theorem begun_addRing (e : RingEntry) : (s.begun p r params b).addRing e = (s.addRing e).begun p r params b := by
  have hadd : ({ s.begun p r params b with accounts := { (s.begun p r params b).accounts with
        ring := keepLast 64 ((s.begun p r params b).accounts.ring ++ [e]), ringSeq := (s.begun p r params b).accounts.ringSeq + 1 } }
          : State) = State.begun p r params b { s with accounts := { s.accounts with
        ring := keepLast 64 (s.accounts.ring ++ [e]), ringSeq := s.accounts.ringSeq + 1 } } := by
    cases p <;> rfl
  simp only [State.addRing, hadd, begun_yieldAlarm, begun_latchBoth]
  split <;> rfl

theorem begun_expire (v : Nat) : (s.begun p r params b).expire v = (s.expire v).begun p r params b := by
  rw [State.expire, begun_count, begun_addRing, State.expire]

theorem begun_evictIfFull : (s.begun p r params b).evictIfFull = s.evictIfFull.begun p r params b := by
  simp only [State.evictIfFull, begun_units, begun_modUnits, begun_expire]
  split
  · rfl
  · split <;> rfl

theorem begun_insertRetest (e : RetestEntry) : (s.begun p r params b).insertRetest e = (s.insertRetest e).begun p r params b := by
  rw [State.insertRetest, begun_evictIfFull, begun_modUnits, State.insertRetest]

theorem begun_mayReturn (e : RetestEntry) : (s.begun p r params b).mayReturn e = s.mayReturn e := by
  rw [State.mayReturn, begun_plan, State.mayReturn]

theorem begun_giveBack (n : NestId) : (s.begun p r params b).giveBack n = (s.giveBack n).begun p r params b := by
  simp only [State.giveBack, begun_nest, begun_units, begun_count, begun_modUnits, begun_mayReturn, begun_insertRetest, begun_expire]
  split
  · rfl
  · split
    · rfl
    · split
      · rfl
      · split <;> rfl

end

/-! ### What an untested release changes -/

/-- From `s` to `t` the retest list, the held entries, the accounts and the latched events alone have changed. -/
def State.OnlyLedger (s t : State) : Prop :=
  t = { s with
    units := { s.units with
      retest := t.units.retest, listSequence := t.units.listSequence, heldA := t.units.heldA, heldB := t.units.heldB }
    accounts := t.accounts
    station := { s.station with events := t.station.events }, line := { s.line with events := t.line.events } }

namespace State.OnlyLedger

theorem trans {s t u : State} (h : s.OnlyLedger t) (h' : t.OnlyLedger u) : s.OnlyLedger u := by
  unfold State.OnlyLedger at h h' ⊢
  rw [h] at h'
  exact h'

theorem refl (s : State) : s.OnlyLedger s := rfl

theorem addRing (e : RingEntry) (s : State) : s.OnlyLedger (s.addRing e) := by
  unfold State.addRing
  dsimp only
  split <;> rfl

theorem expire (v : Nat) (s : State) : s.OnlyLedger (s.expire v) :=
  trans (t := s.count (Counts.addExpired 1)) rfl (addRing _ _)

theorem insertRetest (e : RetestEntry) (s : State) : s.OnlyLedger (s.insertRetest e) := by
  refine trans (t := s.evictIfFull) ?_ rfl
  unfold State.evictIfFull
  split
  · exact refl s
  · split
    · exact refl s
    · exact trans (t := s.modUnits fun u => UnitTable.bump { u with retest := _ }) rfl (expire _ _)

theorem setHeld (n : NestId) (e : Option RetestEntry) (s : State) : s.OnlyLedger (s.modUnits (UnitTable.setHeld n e)) := by
  cases n <;> rfl

end State.OnlyLedger

theorem replied_line_station (r : Request) (params : List Byte) (st : Status) (sub : Nat) (body : List Byte) (s : State) :
    (State.replied .line r params st sub body s).station = s.station := rfl

theorem replied_line_events (r : Request) (params : List Byte) (st : Status) (sub : Nat) (body : List Byte) (s : State) :
    (State.replied .line r params st sub body s).line.events = s.line.events := rfl

theorem yieldAlarm_congr {s t : State} (hp : t.plan = s.plan) (ha : t.accounts = s.accounts) : t.yieldAlarm = s.yieldAlarm := by
  unfold State.yieldAlarm State.alarmLimit State.ringFirstPass
  rw [hp, ha]

theorem addRing_plan (e : RingEntry) (s : State) : (s.addRing e).plan = s.plan := by
  simp only [State.plan, State.addRing_loader]

theorem replied_yieldAlarm (p : PortId) (r : Request) (params : List Byte) (st : Status) (sub : Nat) (body : List Byte) (s : State) :
    (State.replied p r params st sub body s).yieldAlarm = s.yieldAlarm := by
  cases p <;> rfl

theorem modNest_yieldAlarm (n : NestId) (f : Nest → Nest) (s : State) : (s.modNest n f).yieldAlarm = s.yieldAlarm := by
  cases n <;> rfl

theorem latchBoth_events (e : Event) (s : State) (q : PortId) :
    ((s.latchBoth e).port q).events = (s.port q).events ||| (1#16 <<< eventBit e) := by
  cases q <;> rfl

/-- A completion entry latches YIELD_LOW where the alarm condition becomes true (R139). -/
theorem addRing_events (e : RingEntry) (s : State) (q : PortId) : ((s.addRing e).port q).events =
    (s.port q).events ||| (if s.yieldAlarm = false ∧ (s.addRing e).yieldAlarm = true then 0x0800 else 0) := by
  have halarm : (s.addRing e).yieldAlarm = ({ s with accounts := { s.accounts with
      ring := keepLast 64 (s.accounts.ring ++ [e]), ringSeq := s.accounts.ringSeq + 1 } } : State).yieldAlarm :=
    yieldAlarm_congr (addRing_plan e s) (addRing_accounts e s)
  rw [halarm, State.addRing]
  by_cases hlow : s.yieldAlarm = false ∧ ({ s with accounts := { s.accounts with
      ring := keepLast 64 (s.accounts.ring ++ [e]), ringSeq := s.accounts.ringSeq + 1 } } : State).yieldAlarm = true
  · rw [if_pos hlow, if_pos (by rw [hlow.1, hlow.2]; rfl), latchBoth_events]
    cases q <;> rfl
  · rw [if_neg hlow, if_neg (by simpa using hlow)]
    cases q <;> simp <;> rfl

theorem count_yieldAlarm (f : Counts → Counts) (s : State) : (s.count f).yieldAlarm = s.yieldAlarm := rfl

theorem expire_accounts (v : Nat) (s : State) : (s.expire v).accounts = { s.accounts with
    counts := { s.accounts.counts with expired := s.accounts.counts.expired + 1 }
    ring := keepLast 64 (s.accounts.ring ++ [⟨v, .expired⟩]), ringSeq := s.accounts.ringSeq + 1 } := by
  rw [State.expire, addRing_accounts]
  rfl

theorem expire_events (v : Nat) (s : State) (q : PortId) : ((s.expire v).port q).events =
    (s.port q).events ||| (if s.yieldAlarm = false ∧ (s.expire v).yieldAlarm = true then 0x0800 else 0) := by
  rw [State.expire, addRing_events, count_yieldAlarm]
  cases q <;> rfl

/-- The accounts, the plan and the latched events of `t` are those of `s`. -/
structure SameLedger (s t : State) : Prop where
  accounts : t.accounts = s.accounts
  plan     : t.plan = s.plan
  events   : ∀ q, (t.port q).events = (s.port q).events

namespace SameLedger

theorem refl (s : State) : SameLedger s s := ⟨rfl, rfl, fun _ => rfl⟩

theorem trans {s t u : State} (h : SameLedger s t) (h' : SameLedger t u) : SameLedger s u :=
  ⟨h'.accounts.trans h.accounts, h'.plan.trans h.plan, fun q => (h'.events q).trans (h.events q)⟩

theorem modUnits (f : UnitTable → UnitTable) (s : State) : SameLedger s (s.modUnits f) :=
  ⟨rfl, rfl, fun q => by cases q <;> rfl⟩

theorem yieldAlarm {s t : State} (h : SameLedger s t) : t.yieldAlarm = s.yieldAlarm := yieldAlarm_congr h.plan h.accounts

end SameLedger

/-- An expiry counts once, joins the ring and is judged by the alarm (R133, R138, R139). -/
theorem ledger_expire {s x t : State} {v : Nat} (hx : SameLedger s x) (ht : SameLedger (x.expire v) t) :
    t.accounts = { s.accounts with
      counts := { s.accounts.counts with expired := s.accounts.counts.expired + 1 }
      ring := keepLast 64 (s.accounts.ring ++ [⟨v, .expired⟩]), ringSeq := s.accounts.ringSeq + 1 } ∧
    ∀ q, (t.port q).events =
      (s.port q).events ||| (if s.yieldAlarm = false ∧ t.yieldAlarm = true then 0x0800 else 0) := by
  refine ⟨?_, fun q => ?_⟩
  · rw [ht.accounts, expire_accounts, hx.accounts]
  · rw [ht.events, expire_events, hx.events, ht.yieldAlarm, hx.yieldAlarm]

/-! ### Where the unit goes (R123) -/

section
variable {n : NestId} {e : RetestEntry} {c : PlanContent} {s : State}

/-- The held entry of a LOADED retest unit returns to the list or expires (R123). -/
theorem giveBack_held (hkind : (s.nest n).kind = some .production) (hattempt : (s.nest n).attempt ≠ some 1)
    (hheld : s.units.held n = some e) (hplan : s.plan = some c) : s.giveBack n =
      if e.attempts < c.policy.maxAttempts then (s.modUnits (UnitTable.setHeld n none)).insertRetest e
      else (s.modUnits (UnitTable.setHeld n none)).expire e.serial := by
  have hmay : (s.modUnits (UnitTable.setHeld n none)).mayReturn e = decide (e.attempts < c.policy.maxAttempts) := by
    have hp : (s.modUnits (UnitTable.setHeld n none)).plan = s.plan := rfl
    rw [State.mayReturn, hp, hplan]
  simp only [State.giveBack, if_neg (not_not_intro hkind), if_neg hattempt, hheld, hmay, decide_eq_true_eq]

theorem insertRetest_free (hlen : s.units.retest.length < 32) :
    s.insertRetest e = s.modUnits fun u => UnitTable.bump { u with retest := u.retest ++ [e] } := by
  rw [State.insertRetest, State.evictIfFull, if_pos hlen]

theorem insertRetest_full {old : RetestEntry} {rest : List RetestEntry} (hlist : s.units.retest = old :: rest)
    (hlen : 31 ≤ rest.length) : s.insertRetest e =
      ((s.modUnits fun u => UnitTable.bump { u with retest := rest }).expire old.serial).modUnits
        fun u => UnitTable.bump { u with retest := u.retest ++ [e] } := by
  have hfull : ¬s.units.retest.length < 32 := by rw [hlist, List.length_cons]; omega
  rw [State.insertRetest, State.evictIfFull, if_neg hfull, hlist]

end

theorem insertRetest_held (e : RetestEntry) (s : State) (m : NestId) : (s.insertRetest e).units.held m = s.units.held m := by
  have hevict : s.evictIfFull.units.held m = s.units.held m := by
    unfold State.evictIfFull
    split
    · rfl
    · split
      · rfl
      · rw [State.expire_units]
        cases m <;> rfl
  rw [← hevict, State.insertRetest]
  cases m <;> rfl

/-- Neither way touches the held entry of the other nest (R123). -/
theorem giveBack_heldEntries {n : NestId} {e : RetestEntry} {k : Nat} {s t : State}
    (h : t = if e.attempts < k then (s.modUnits (UnitTable.setHeld n none)).insertRetest e
      else (s.modUnits (UnitTable.setHeld n none)).expire e.serial) (m : NestId) :
    t.units.held m = (s.units.setHeld n none).held m := by
  rw [h]
  split
  · rw [insertRetest_held]
    rfl
  · rw [State.expire_units]
    rfl

theorem setHeld_same (n : NestId) (x : Option RetestEntry) (u : UnitTable) : (u.setHeld n x).held n = x := by cases n <;> rfl

theorem setHeld_other (n : NestId) (x : Option RetestEntry) (u : UnitTable) :
    (u.setHeld n x).held (otherNest n) = u.held (otherNest n) := by cases n <;> rfl

/-- A LOADED nest is released (R31). -/
theorem exec_releaseNest {n : NestId} {s : State} (hs : s.ready .line) (hl : (s.nest n).state = .loaded) :
    exec (.releaseNest .line [selector n] .atOnce) s =
      .next (State.replied .line .releaseNest [selector n] .ok 0 [] ((s.giveBack n).modNest n Nest.emptied)) := by
  refine exec_taken (r := .releaseNest) (by decide) rfl hs ?_
  simp only [takeOf, takeReleaseNest, nestOf_selector, begun_nest, hl, State.releaseUntested, begun_giveBack, begun_modNest, begun_ok]

/-- Settles O27: `State.giveBack` for each unit, and what the list and the ring do with a retest unit. -/
theorem releaseNestEmptiesTheNest : Obligations.ReleaseNestEmptiesTheNest := by
  refine ⟨fun n s hs h => ?_, fun n s hs hl hkind hattempt => ?_, fun n e c s hs hl hkind hattempt hheld hplan => ?_,
    fun n s hs hl hd => ?_⟩
  · rcases h with hd | ⟨hl, hkind⟩
    · refine exec_taken (r := .releaseNest) (by decide) rfl hs ?_
      simp only [takeOf, takeReleaseNest, nestOf_selector, begun_nest, hd, begun_modNest, begun_ok]
      rfl
    · have hnone : s.giveBack n = s := by simp [State.giveBack, hkind]
      rw [exec_releaseNest hs hl, hnone]
      rfl
  · have hcount : s.giveBack n = s.count Counts.addReleased := by simp [State.giveBack, hkind, hattempt]
    rw [exec_releaseNest hs hl, hcount]
    rfl
  · have hgive := giveBack_held hkind hattempt hheld hplan
    have honly : s.OnlyLedger (s.giveBack n) := by
      rw [hgive]
      split
      · exact (State.OnlyLedger.setHeld n none s).trans (.insertRetest e _)
      · exact (State.OnlyLedger.setHeld n none s).trans (.expire e.serial _)
    have hexpired (hmax : c.policy.maxAttempts ≤ e.attempts) :
        s.giveBack n = (s.modUnits (UnitTable.setHeld n none)).expire e.serial := by
      rw [hgive, if_neg (by omega)]
    have hreturned (hmax : e.attempts < c.policy.maxAttempts) :
        s.giveBack n = (s.modUnits (UnitTable.setHeld n none)).insertRetest e := by
      rw [hgive, if_pos hmax]
    refine ⟨_, exec_releaseNest hs hl, ?_⟩
    have hunits : (s.modUnits (UnitTable.setHeld n none)).units.retest = s.units.retest := by cases n <;> rfl
    have hevicted (old : RetestEntry) (rest : List RetestEntry) (hlist : s.units.retest = old :: rest) (hlen : 31 ≤ rest.length)
        (hmax : e.attempts < c.policy.maxAttempts) := hreturned hmax ▸ insertRetest_full (hunits.trans hlist) hlen
    simp only [replied_units, replied_accounts, replied_events, replied_yieldAlarm, replied_line_station, replied_line_events,
      State.modNest_units, State.modNest_accounts, State.modNest_port, modNest_yieldAlarm, State.modNest_station,
      State.modNest_line]
    refine ⟨?_, ?_, fun hmax hlen => ?_, fun v hv => ?_, fun hmax => ?_, fun old rest hlist hlen hmax => ?_, ?_⟩
    · rw [giveBack_heldEntries hgive, setHeld_same]
    · rw [giveBack_heldEntries hgive, setHeld_other]
    · rw [hreturned hmax, insertRetest_free (hunits ▸ hlen)]
      exact ⟨by cases n <;> rfl, by cases n <;> rfl, rfl, fun q => by cases q <;> rfl⟩
    · rcases hv with ⟨hmax, rfl⟩ | ⟨hmax, hlen, hold⟩
      · rw [hexpired hmax]
        exact ledger_expire (SameLedger.modUnits _ s) (SameLedger.refl _)
      · obtain ⟨old, rest, hlist⟩ := List.exists_cons_of_length_pos (l := s.units.retest) (by omega)
        rw [hlist, List.length_cons] at hlen
        rw [hlist] at hold
        cases hold
        rw [hevicted old rest hlist (by omega) hmax]
        exact ledger_expire ((SameLedger.modUnits _ s).trans (SameLedger.modUnits _ _)) (SameLedger.modUnits _ _)
    · rw [hexpired hmax, State.expire_units]
      cases n <;> exact ⟨rfl, rfl⟩
    · rw [hevicted old rest hlist hlen hmax]
      simp only [State.modUnits, UnitTable.bump, State.expire_units]
      cases n <;> simp [UnitTable.setHeld, BitVec.add_assoc]
    · exact replied_congr _ _ _ _ _ _ (congrArg (State.modNest n Nest.emptied) honly)
  · refine exec_taken (r := .releaseNest) (by decide) rfl hs ?_
    simp only [takeOf, takeReleaseNest, nestOf_selector, begun_nest]
    split
    · contradiction
    · contradiction
    all_goals rw [begun_refuse]

end Sys2Proof.Machine
end

section
/-! PROOF. An accepted START NEST (R25, R27, R28, R36, R37, R127, R128). -/

namespace Sys2Proof.Machine
open Sys2Proof

/-! ### Spending verification (R127) -/

section
variable (p : PortId) (r : Request) (params : List Byte) (b : Bool) (s : State)

theorem begun_markUnverified : (s.begun p r params b).markUnverified = s.markUnverified.begun p r params b := by
  cases p <;> rfl

@[simp] theorem begun_windowLength : (s.begun p r params b).windowLength = s.windowLength := by
  cases p <;> rfl

theorem begun_spendVerification : (s.begun p r params b).spendVerification = s.spendVerification.begun p r params b := by
  simp only [State.spendVerification, begun_windowLength, begun_modUnits, begun_verified, begun_markUnverified]
  split
  · rfl
  · split <;> rfl

theorem begun_acceptStart (n : NestId) : (s.begun p r params b).acceptStart n = (s.acceptStart n).begun p r params b := by
  simp only [State.acceptStart, begun_nest, begun_spendVerification]
  split <;> rw [begun_modNest, begun_joinQueue]

end

/-- The state after an accepted START of nest `n` has spent its unit, the nest not yet moved (R127, R175). -/
def State.spentBy (n : NestId) (s : State) : State :=
  { s with
    units := { s.units with remaining := s.remainingAfterStart n }
    station := { s.station with unverified := s.marksAfterStart n .station }
    line := { s.line with unverified := s.marksAfterStart n .line } }

/-- A START that is not refused finds a production unit's station verified (R27). -/
theorem remaining_of_accepted {n : NestId} {s : State} (h : s.startRefusal n = none) (hkind : (s.nest n).kind = some .production)
    (hlen : s.windowLength ≠ 0) : s.units.remaining ≠ 0 := by
  intro hzero
  have hver : s.verified = false := by simp [State.verified, hzero]
  unfold State.startRefusal at h
  dsimp only at h
  split at h
  · cases h
  · split at h
    · cases h
    · split at h
      · cases h
      · split at h
        · cases h
        · split at h
          · cases h
          · rw [if_pos ⟨hkind, hlen, hver⟩] at h
            cases h

/-- What an accepted START spends (R127, R175). -/
theorem spentBy_eq {n : NestId} {s : State} (h : s.startRefusal n = none) :
    (if (s.nest n).kind = some .production then s.spendVerification else s) = s.spentBy n := by
  by_cases hkind : (s.nest n).kind = some .production
  · rw [if_pos hkind, State.spendVerification]
    by_cases hlen : s.windowLength = 0
    · simp [State.spentBy, State.remainingAfterStart, State.marksAfterStart, hlen, State.port]
    · have hpos : 0 < s.windowLength := by omega
      have hrem := remaining_of_accepted h hkind hlen
      simp only [if_neg hlen, State.spentBy, State.remainingAfterStart, State.marksAfterStart, hkind, hpos, true_and, if_true]
      by_cases hlast : s.units.remaining = 1
      · rw [if_neg (by simp [State.verified, State.modUnits, hlast])]
        simp [State.markUnverified, State.modUnits, hlast]
      · have hver : (s.modUnits fun u => { u with remaining := u.remaining - 1 }).verified = true :=
          decide_eq_true (by change s.units.remaining - 1 > 0; omega)
        rw [if_pos hver]
        simp [State.modUnits, hlast, State.port]
  · simp [State.spentBy, State.remainingAfterStart, State.marksAfterStart, hkind, State.port]

/-- The state in which nest `n` waits for the chain after its START (R28). -/
def State.startedWaiting (n : NestId) (s : State) : State := (s.spentBy n).modNest n fun x => { x with state := .waiting }

theorem startedWaiting_chain (n : NestId) (s : State) : (s.startedWaiting n).chain = s.chain := by cases n <;> rfl

/-! ### The answer of START NEST -/

/-- A START that is not refused is answered with the state its nest comes to (R27, R28). -/
theorem exec_startNest {p : PortId} {n : NestId} {s t : State} (hs : s.ready p) (h : s.startRefusal n = none)
    (ht : (s.startedWaiting n).joinQueue (.nest n) = t) :
    exec (.startNest p [selector n] .atOnce) s =
      .next (State.replied p .startNest [selector n] .ok 0 (byte (nestStateCode (t.nest n).state)) t) := by
  refine exec_taken (r := .startNest) (by decide) (by cases p <;> rfl) hs ?_
  have haccept : s.acceptStart n = t := by
    rw [← ht, State.startedWaiting, ← spentBy_eq h]
    rfl
  simp only [takeOf, takeStartNest, nestOf_selector, begun_startRefusal, h, begun_acceptStart, haccept, begun_nest, begun_ok]

/-- The first byte of the body stands in the sixth byte of the reply area (R180). -/
theorem replied_body (p : PortId) (code : Byte) (params : List Byte) (st : Status) (sub : Nat) (c : Byte) (q : Port) :
    (Port.replied p code params st sub [c] q).reply[5] = c := by
  simp only [Port.replied]
  rw [writeBytes_get _ _ _ _ (by decide), if_pos ⟨Nat.zero_le _, by simp [replyHeader]⟩]
  rfl

theorem replied_unverified (p : PortId) (r : Request) (params : List Byte) (st : Status) (sub : Nat) (body : List Byte) (s : State)
    (q : PortId) : ((State.replied p r params st sub body s).port q).unverified = (s.port q).unverified := by
  cases p <;> cases q <;> rfl

/-! ### The nest granted at its START (R25, R37, R50, R128) -/

section
variable (n : NestId) (s : State)

/-- The state in which nest `n` begins its test at its START. -/
def State.startedNow (n : NestId) (s : State) : State := (s.startedWaiting n).grant (.nest n)

theorem startedNow_hold : (s.startedNow n).hold = s.hold := by
  rw [State.startedNow, State.grant_hold]
  cases n <;> rfl

theorem startedNow_nest : (s.startedNow n).nest n = { s.nest n with
    state := .measuring, tag := (s.nest n).tag + 1, slots := List.replicate s.planPoints.length none,
    judged := List.replicate s.curveCount [], refState := if s.hasReference then .awaited else .none, detected := [],
    failList := [], overflow := 0, causeNoisy := false, causeOverload := false, verdict := none, bin := none,
    worst := List.replicate s.curveCount none, ticket := none } := by
  rw [State.startedNow, grant_nest]
  cases n <;> rfl

theorem startedNow_other : (s.startedNow n).nest (otherNest n) = s.nest (otherNest n) := by
  rw [State.startedNow, grant_nest]
  cases n <;> rfl

theorem startedNow_chain : (s.startedNow n).chain = { s.chain with holder := some (.nest n) } := by
  rw [State.startedNow, grant_nest]
  cases n <;> rfl

theorem startedNow_gen : (s.startedNow n).gen = { s.gen with
    mode := .settle, acc := 0, ramp := 0, cursor := 0, samples := 0, wraps := 0, stopMark := false
    claimant := some (.nest n), inc := (s.planPoints.getD 0 noPoint).inc, amp := (s.planPoints.getD 0 noPoint).amp
    tag := (s.nest n).tag + 1, postWrap := false, windowPlayed := 0 } := by
  rw [State.startedNow, grant_nest]
  cases n <;> rfl

theorem startedNow_capture : (s.startedNow n).capture =
    { s.capture with active := s.capture.pending.or s.capture.active, pending := none, attempt := 1 } := by
  rw [State.startedNow, grant_nest]
  cases n <;> rfl

theorem startedNow_units : (s.startedNow n).units = { s.units with
    remaining := s.remainingAfterStart n
    qualifiedA := s.units.qualifiedA || decide (n = .a ∧ s.nestA.kind = some .reference)
    qualifiedB := s.units.qualifiedB || decide (n = .b ∧ s.nestB.kind = some .reference) } := by
  rw [State.startedNow, grant_nest]
  cases n <;> rfl

/-- A reference unit qualifies its nest, and no other (R128). -/
theorem startedNow_qualified (m : NestId) : (s.startedNow n).units.qualified m =
    (s.units.qualified m || decide (n = m ∧ (s.nest m).kind = some .reference)) := by
  rw [startedNow_units]
  cases m <;> rfl

theorem startedNow_port (q : PortId) :
    (s.startedNow n).port q = { s.port q with unverified := s.marksAfterStart n q } := by
  rw [State.startedNow, grant_nest]
  cases n <;> cases q <;> rfl

theorem startedNow_rest : (s.startedNow n).accounts = s.accounts ∧ (s.startedNow n).marker = s.marker ∧
    (s.startedNow n).loader = s.loader ∧ (s.startedNow n).lines = s.lines ∧ (s.startedNow n).engine = s.engine := by
  rw [State.startedNow, grant_nest]
  cases n <;> exact ⟨rfl, rfl, rfl, rfl, rfl⟩

end

theorem replied_slot (p : PortId) (code : Byte) (params : List Byte) (st : Status) (sub : Nat) (body : List Byte) (q : Port) :
    (Port.replied p code params st sub body q).slot = st.slot := rfl

/-- Settles O28: the nest joins the queue, and is granted where it finds the chain free. -/
theorem startNestBeginsTheTest : Obligations.StartNestBeginsTheTest := by
  refine ⟨fun p n s hs h hfree hqueue => ?_, fun p n c s hs h hheld => ?_⟩
  · have hchain := startedWaiting_chain n s
    have hexec := exec_startNest (t := s.startedNow n) hs h (joinQueue_free (hchain ▸ hfree) (hchain ▸ hqueue))
    rw [startedNow_nest] at hexec
    refine ⟨_, hexec, ?_⟩
    have hlive : (State.replied p .startNest [selector n] .ok 0 (byte (nestStateCode .measuring)) (s.startedNow n)).held = false := by
      rw [State.replied, State.modPort_held, State.held, startedNow_hold]
      exact hs.1
    have hamp := switch_of_holder (.nest n) _ hlive (by rw [State.replied, State.modPort_chain, startedNow_chain])
    obtain ⟨haccounts, hmarker, hloader, hlines, hengine⟩ := startedNow_rest n s
    refine ⟨?_, ?_, ?_, hamp.1, ?_⟩
    · rw [replied_nest, startedNow_nest]
    · rw [replied_nest, startedNow_other]
    · rw [State.replied, State.modPort_chain, startedNow_chain]
    · simp only [replied_unverified, replied_events, replied_units, startedNow_qualified]
      simp only [State.replied, State.modPort_gen, State.modPort_capture, State.modPort_accounts,
        State.modPort_marker, State.modPort_loader, State.modPort_lines, State.modPort_engine, State.modPort_port, replied_status,
        replied_slot, startedNow_gen, startedNow_capture, startedNow_port, startedNow_units, haccounts,
        hmarker, hloader, hlines, hengine, true_and, and_true, implies_true]
      refine ⟨fun hkind => ?_, fun hkind => ?_, ?_, rfl, rfl, ?_⟩
      · simp [hkind]
      · simp [hkind]
      · cases n <;> simp [otherNest]
      · exact replied_body p _ _ _ _ _ _
  · have hchain := startedWaiting_chain n s
    rw [exec_startNest hs h (joinQueue_held (hchain ▸ hheld))]
    have hstate : (((s.startedWaiting n).modChain fun x => { x with queue := x.queue ++ [.nest n] }).nest n).state = .waiting := by
      cases n <;> rfl
    rw [hstate]
    refine congrArg Host.Outcome.next (replied_congr _ _ _ _ _ _ ?_)
    cases n <;> rfl

end Sys2Proof.Machine
end

section
/-! PROOF. The generator's closed form, the length of a window and the harmonic count (R48, R51, R54, R83). -/

namespace Sys2Proof.Machine
open Sys2Proof

/-! ### Sample periods (R48, R51) -/

namespace Generator

theorem play_acc (k : Nat) (g : Generator) : (g.play k).acc.toNat = g.total k % 2 ^ 32 := by
  unfold Generator.play
  split
  next h => simp [h, Generator.total, Nat.mod_eq_of_lt g.acc.isLt]
  next => exact BitVec.toNat_ofNat _ _

@[simp] theorem play_inc (k : Nat) (g : Generator) : (g.play k).inc = g.inc := by
  unfold Generator.play
  split <;> rfl

@[simp] theorem play_amp (k : Nat) (g : Generator) : (g.play k).amp = g.amp := by
  unfold Generator.play
  split <;> rfl

@[simp] theorem play_mode (k : Nat) (g : Generator) : (g.play k).mode = g.mode := by
  unfold Generator.play
  split <;> rfl

@[simp] theorem play_samples (k : Nat) (g : Generator) : (g.play k).samples = g.samples + k := by
  unfold Generator.play
  split
  next h => rw [h, Nat.add_zero]
  next => rfl

theorem play_wraps (k : Nat) (g : Generator) : (g.play k).wraps = g.wraps + g.total k / 2 ^ 32 := by
  unfold Generator.play
  split
  next h => simp [h, Generator.total, Nat.div_eq_of_lt g.acc.isLt]
  next => rfl

theorem play_postWrap (k : Nat) (g : Generator) : (g.play k).postWrap = g.postWrapAfter k := by
  unfold Generator.play
  split
  next h => rw [h]; rfl
  next => rfl

theorem total_succ (k : Nat) (g : Generator) : g.total (k + 1) = g.total k + g.inc.toNat := by
  rw [total, total, Nat.succ_mul, Nat.add_assoc]

end Generator

/-- The ramp factor depends on the ramp position up to the end of the fade-in (R51). -/
theorem rampFactor_rampAfter_zero (m : GenMode) (r : Nat) : rampFactor m (rampAfter m r 0) = rampFactor m r := by
  cases m <;> simp [rampFactor, rampAfter]

theorem rampAfter_succ (m : GenMode) (r k : Nat) : rampAfter m (rampAfter m r k) 1 = rampAfter m r (k + 1) := by
  cases m <;> simp only [rampAfter] <;> omega

/-- An addition carries exactly when the sum modulo 2 to the power 32 lies below the addend (R48). -/
theorem carries_iff {a i : Nat} (hi : i < 2 ^ 32) : 2 ^ 32 ≤ a % 2 ^ 32 + i ↔ (a + i) % 2 ^ 32 < i := by
  omega

/-- One more sample period (R48). -/
theorem Generator.play_succ (k : Nat) (g : Generator) : g.play (k + 1) = (g.play k).playOne := by
  have hi := g.inc.isLt
  have hacc := g.play_acc k
  have hcarry : decide (2 ^ 32 ≤ (g.play k).acc.toNat + (g.play k).inc.toNat) = g.postWrapAfter (k + 1) := by
    rw [postWrapAfter, if_neg (Nat.succ_ne_zero k), total_succ, hacc, play_inc]
    exact decide_eq_decide.mpr (carries_iff hi)
  have hsum : BitVec.ofNat 32 (g.total (k + 1)) = (g.play k).acc + (g.play k).inc := by
    apply BitVec.eq_of_toNat_eq
    rw [BitVec.toNat_ofNat, BitVec.toNat_add, hacc, play_inc, total_succ, Nat.mod_add_mod]
  have hwraps : g.wraps + g.total (k + 1) / 2 ^ 32 = (g.play k).wraps + (g.postWrapAfter (k + 1)).toNat := by
    rw [play_wraps, ← hcarry, hacc, play_inc, total_succ]
    by_cases h : 2 ^ 32 ≤ g.total k % 2 ^ 32 + g.inc.toNat
    · rw [decide_eq_true h]
      simp only [Bool.toNat_true]
      omega
    · rw [decide_eq_false h]
      simp only [Bool.toNat_false]
      omega
  have hdac : rampFactor g.mode (g.play k).ramp = rampFactor g.mode (rampAfter g.mode g.ramp k) := by
    cases k with
    | zero => exact (rampFactor_rampAfter_zero _ _).symm
    | succ k => rfl
  have hramp : rampAfter g.mode (g.play k).ramp 1 = rampAfter g.mode g.ramp (k + 1) := by
    cases k with
    | zero => rfl
    | succ k => exact rampAfter_succ _ _ _
  have hplayed : (if g.mode = .window then (g.play k).windowPlayed + 1 else (g.play k).windowPlayed) =
      if g.mode = .window then g.windowPlayed + (k + 1) else g.windowPlayed := by
    cases k with
    | zero => rfl
    | succ k =>
      simp only [play, if_neg (Nat.succ_ne_zero k)]
      split <;> rfl
  rw [playOne, hcarry, ← hwraps, ← hsum, hacc, play_amp, play_mode, play_samples, hdac, hramp, hplayed]
  cases k <;> rfl

/-- Settles O39: each sample period adds one to the closed form. -/
theorem playIsPlayOneRepeated : Obligations.PlayIsPlayOneRepeated := by
  intro k g
  induction k with
  | zero => rfl
  | succ k ih => rw [Generator.play_succ, ih, Nat.repeat]

/-! ### The length of a window (R54) -/

theorem le_ceilDiv_mul (n : Nat) {d : Nat} (hd : 0 < d) : n ≤ ceilDiv n d * d := by
  have h := Nat.div_add_mod (n + (d - 1)) d
  have hmod := Nat.mod_lt (n + (d - 1)) hd
  rw [ceilDiv, Nat.mul_comm]
  omega

theorem ceilDiv_le_iff {n d : Nat} (hd : 0 < d) (k : Nat) : ceilDiv n d ≤ k ↔ n ≤ k * d := by
  refine ⟨fun h => (le_ceilDiv_mul n hd).trans (Nat.mul_le_mul_right d h), fun h => ?_⟩
  rw [ceilDiv, ← Nat.lt_succ_iff, Nat.div_lt_iff_lt_mul hd, Nat.succ_mul]
  omega

theorem pred_ceilDiv_mul_lt {n d : Nat} (hd : 0 < d) (hn : 0 < n) : (ceilDiv n d - 1) * d < n := by
  by_contra hle
  have hpos : 0 < ceilDiv n d := by
    by_contra h0
    have := (ceilDiv_le_iff (n := n) hd 0).mp (by omega)
    omega
  have := (ceilDiv_le_iff (n := n) hd (ceilDiv n d - 1)).mpr (by omega)
  omega

/-- Settles O40: the bounds of the increment and of the effective cycles, for every point frequency. -/
theorem windowHoldsAtMost4001Samples : Obligations.WindowHoldsAtMost4001Samples := by
  intro f window p0 hf hf' hw hw' hp0
  have hinc : (phaseIncrement f).toNat = (2 * (f * 4294967296) + 4800000) / (2 * 4800000) := by
    simp only [phaseIncrement, BitVec.toNat_ofNat, roundHalfUp, Config.sampleRate]
    omega
  have hc : 1 ≤ effectiveCycles window f ∧ effectiveCycles window f * 1200 ≤ f := by
    simp only [effectiveCycles, Config.sampleRate]
    omega
  obtain ⟨hc1, hc2⟩ := hc
  have hd : 0 < (phaseIncrement f).toNat := by omega
  have hn : 0 < effectiveCycles window f * 4294967296 - p0.toNat := by
    have := p0.isLt
    omega
  have hlast := pred_ceilDiv_mul_lt hd hn
  have hall := le_ceilDiv_mul (effectiveCycles window f * 4294967296 - p0.toNat) hd
  unfold windowSamples
  have hbound : effectiveCycles window f * 4294967296 - p0.toNat ≤ 4001 * (phaseIncrement f).toNat := by omega
  have hpos : ¬ceilDiv (effectiveCycles window f * 4294967296 - p0.toNat) (phaseIncrement f).toNat ≤ 0 := by
    rw [ceilDiv_le_iff hd]
    omega
  refine ⟨Nat.pos_of_ne_zero fun h => hpos (Nat.le_of_eq h), (ceilDiv_le_iff hd 4001).mpr hbound, ?_, ?_⟩
  · exact Nat.sub_le_iff_le_add'.mp hall
  · exact Nat.add_comm _ _ ▸ Nat.lt_sub_iff_add_lt.mp hlast

/-! ### The harmonic count (R83) -/

/-- Settles O46: the quotient that bounds the harmonic count. -/
theorem effectiveHarmonicsStayBelowHalfTheRate : Obligations.EffectiveHarmonicsStayBelowHalfTheRate := by
  intro h f hf
  refine ⟨fun k hk => ?_, fun hhigh => ?_, fun hlow hh => ?_, fun x m hx hxf => ?_⟩
  · rw [effectiveHarmonics, Nat.le_min, Nat.le_div_iff_mul_le hf]
  · have : 2399999 / f < 2 := by rw [Nat.div_lt_iff_lt_mul hf]; omega
    rw [effectiveHarmonics]
    omega
  · rw [effectiveHarmonics, Nat.le_min, Nat.le_div_iff_mul_le hf]
    omega
  · have hlen : (analyse x).acc.length = effectiveHarmonics h f := by
      simp [analyse, accumulate, hx, hxf]
    refine ⟨hlen, fun htwo => ?_⟩
    rw [recordOf]
    simp [hlen, htwo]

end Sys2Proof.Machine
end

section
/-! PROOF. WINDOW_BEGIN (R52 to R56, R61 to R63). -/

namespace Sys2Proof.Machine
open Sys2Proof

/-! ### The next post-wrap sample (R48) -/

namespace Generator
variable {g : Generator}

/-- Where the phase next passes a multiple of 2 to the power 32 (R48). -/
theorem wrap_between {T M i m : Nat} (hi : i < 2 ^ 32) (hM : M = (T / 2 ^ 32 + 1) * 2 ^ 32) (hm : 1 ≤ m) :
    ((T + m * i) % 2 ^ 32 < i ∧ M ≤ T + m * i ∧ T + (m - 1) * i < M) ∨
      (¬(T + m * i) % 2 ^ 32 < i ∧ T + m * i < M) ∨ M ≤ T + (m - 1) * i := by
  have hstep : m * i = (m - 1) * i + i := by
    rw [← Nat.succ_mul, Nat.succ_eq_add_one, Nat.sub_add_cancel hm]
  rw [hstep]
  generalize (m - 1) * i = x
  omega

theorem total_add (k m : Nat) (g : Generator) : g.total (k + m) = g.total k + m * g.inc.toNat := by
  rw [total, total, Nat.add_mul, Nat.add_assoc]

/-- The sample at which `nextPostWrap` stops is a post-wrap sample, and none before it from `k0` on is (R48). -/
theorem nextPostWrap_spec (hinc : 0 < g.inc.toNat) (k0 : Nat) : k0 ≤ g.nextPostWrap k0 ∧
    g.postWrapAfter (g.nextPostWrap k0) = true ∧ ∀ j, k0 ≤ j → j < g.nextPostWrap k0 → g.postWrapAfter j = false := by
  unfold nextPostWrap
  by_cases hk0 : g.postWrapAfter k0 = true
  · rw [if_pos hk0]
    exact ⟨le_rfl, hk0, fun j h h' => absurd h (by omega)⟩
  rw [if_neg hk0]
  obtain ⟨M, hM⟩ : ∃ M, M = (g.total k0 / 2 ^ 32 + 1) * 2 ^ 32 := ⟨_, rfl⟩
  obtain ⟨m, hm⟩ : ∃ m, m = ceilDiv (M - g.total k0) g.inc.toNat := ⟨_, rfl⟩
  rw [← hM, ← hm]
  have hgap : 0 < M - g.total k0 := by omega
  have hreach := hm ▸ le_ceilDiv_mul (M - g.total k0) hinc
  have hbefore := hm ▸ pred_ceilDiv_mul_lt hinc hgap
  have hm1 : 1 ≤ m := by
    by_contra h0
    rw [show m = 0 by omega, Nat.zero_mul] at hreach
    omega
  refine ⟨Nat.le_add_right k0 m, ?_, fun j hj hj' => ?_⟩
  · rw [postWrapAfter, if_neg (by omega), total_add]
    rcases wrap_between (m := m) g.inc.isLt hM hm1 with ⟨h, -⟩ | ⟨-, h⟩ | h
    · exact decide_eq_true h
    · omega
    · omega
  · obtain ⟨d, rfl⟩ := Nat.exists_eq_add_of_le hj
    rcases Nat.eq_zero_or_pos d with rfl | hd
    · simpa using hk0
    · rw [postWrapAfter, if_neg (by omega), total_add]
      have hle : d * g.inc.toNat ≤ (m - 1) * g.inc.toNat := Nat.mul_le_mul_right _ (by omega)
      have hle' : (d - 1) * g.inc.toNat ≤ (m - 1) * g.inc.toNat := Nat.mul_le_mul_right _ (by omega)
      rcases wrap_between (m := d) g.inc.isLt hM hd with ⟨-, h, -⟩ | ⟨h, -⟩ | h
      · omega
      · exact decide_eq_false h
      · omega

/-- The wraps of the point reach `w` from `untilWraps w` on (R52). -/
theorem le_play_wraps_iff (hinc : 0 < g.inc.toNat) (w j : Nat) : w ≤ (g.play j).wraps ↔ g.untilWraps w ≤ j := by
  rw [play_wraps, untilWraps]
  split
  next h => exact ⟨fun _ => Nat.zero_le j, fun _ => by omega⟩
  next h =>
    rw [ceilDiv_le_iff hinc, total]
    have hacc := g.acc.isLt
    generalize j * g.inc.toNat = x
    constructor <;> intro _ <;> omega

/-- The conditions of R52 at a sample, by their places. -/
theorem settled_play_iff (hinc : 0 < g.inc.toNat) (settle j : Nat) : (g.play j).settled settle ↔
    g.postWrapAfter j = true ∧ max (g.untilWraps settle) (480 - g.samples) ≤ j := by
  rw [settled, play_postWrap, le_play_wraps_iff hinc, play_samples]
  constructor
  · rintro ⟨hp, hw, hs⟩
    exact ⟨hp, by omega⟩
  · rintro ⟨hp, hmax⟩
    exact ⟨hp, by omega, by omega⟩

end Generator

/-! ### The window that begins -/

theorem play_freeHalf (k : Nat) (s : State) : (s.play k).freeHalf = s.freeHalf := rfl

theorem play_sweepPoints (k : Nat) (s : State) : (s.play k).sweepPoints = s.sweepPoints := by
  have hclaimant : (s.play k).gen.claimant = s.gen.claimant := Generator.play_claimant k s.gen
  unfold State.sweepPoints
  rw [hclaimant]
  cases hc : s.gen.claimant with
  | none => rfl
  | some c => cases c <;> rfl

theorem play_cursor (k : Nat) (s : State) : (s.play k).gen.cursor = s.gen.cursor := by
  change (s.gen.play k).cursor = _
  unfold Generator.play
  split <;> rfl

theorem play_currentPoint (k : Nat) (s : State) : (s.play k).currentPoint = s.currentPoint := by
  rw [State.currentPoint, play_sweepPoints, play_cursor, State.currentPoint]

theorem play_stopMark (k : Nat) (s : State) : (s.play k).gen.stopMark = s.gen.stopMark := by
  change (s.gen.play k).stopMark = _
  unfold Generator.play
  split <;> rfl

theorem play_tag (k : Nat) (s : State) : (s.play k).gen.tag = s.gen.tag := by
  change (s.gen.play k).tag = _
  unfold Generator.play
  split <;> rfl

theorem play_mode (k : Nat) (s : State) : (s.play k).gen.mode = s.gen.mode := Generator.play_mode k s.gen

/-- A window begins in the free half `h` at the sample about to be formed (R52, R54, R61 to R63). -/
structure State.WindowBegun (c : Claimant) (h : HalfId) (k : Nat) (s t : State) : Prop where
  gen   : t.gen = { s.gen.play k with mode := .window, windowPlayed := 0 }
  half  : t.half h = s.windowHalf c t.gen.acc
  other : ∀ g, g ≠ h → t.half g = s.half g
  rest  : t = { s with gen := t.gen, capture := t.capture }

theorem beginWindow_half (c : Claimant) (h : HalfId) (s : State) : (s.beginWindow c h).half h = s.windowHalf c s.gen.acc := by
  cases h <;> rcases c with ⟨_ | _⟩ | _ <;> rfl

theorem windowHalf_play (c : Claimant) (p0 : Phase) (k : Nat) (s : State) : (s.play k).windowHalf c p0 = s.windowHalf c p0 := by
  simp only [State.windowHalf, play_currentPoint, play_cursor, play_tag]
  rfl

theorem windowBegun_of_due {c : Claimant} {h : HalfId} {k : Nat} {s : State} (hfree : s.freeHalf = some h)
    (hclaimant : s.gen.claimant = some c) (hdue : (s.play k).windowMayBegin = true) :
    s.WindowBegun c h k (s.play k).beginIfDue := by
  have hbegin : (s.play k).beginIfDue = (s.play k).beginWindow c h := by
    have hc : (s.play k).gen.claimant = some c := (Generator.play_claimant k s.gen).trans hclaimant
    simp only [State.beginIfDue, hdue, play_freeHalf, hfree, hc]
  rw [hbegin]
  refine ⟨?_, ?_, fun g hg => ?_, ?_⟩
  · cases h <;> rfl
  · rw [beginWindow_half, windowHalf_play]
    cases h <;> rfl
  · cases h <;> cases g <;> first | rfl | exact absurd rfl hg
  · cases h <;> rfl

theorem exec_windowBegin {s : State} (hlive : s.held = false)
    (hmode : s.gen.mode = .settle ∨ (s.gen.mode = .holdoff ∧ s.capture.holdoff = none)) : exec .windowBegin s =
      .next (if s.freeHalf.isSome then (s.play s.untilWindow).beginIfDue else (s.play s.untilWindow).play 1) := by
  have hmode' : s.gen.mode = .settle ∨ (s.gen.mode = .holdoff ∧ s.capture.holdoff.isNone) := by
    simpa using hmode
  change execWindowBegin s = _
  simp only [execWindowBegin, unlessHeld, hlive, if_pos hmode', play_freeHalf]
  rfl

/-- Settles O41: where the generator stops, and the window that begins there. -/
theorem windowBeginsAtAPostWrapSample : Obligations.WindowBeginsAtAPostWrapSample := by
  refine ⟨fun c s hlive hmode hc hstop hinc hfree => ?_, fun c s hlive hmode hhold hc hstop hinc hfree => ?_,
    fun s hlive hmode hfree => ?_⟩
  · obtain ⟨h, hh⟩ := Option.ne_none_iff_exists'.mp hfree
    obtain ⟨hle, hpost, hbefore⟩ := Generator.nextPostWrap_spec hinc
      (max (s.gen.untilWraps s.currentPoint.settle) (480 - s.gen.samples))
    have hk : s.untilWindow = s.gen.nextPostWrap (max (s.gen.untilWraps s.currentPoint.settle) (480 - s.gen.samples)) := by
      rw [State.untilWindow, if_pos hmode]
      rfl
    rw [← hk] at hle hpost hbefore
    have hsettled := (Generator.settled_play_iff hinc s.currentPoint.settle s.untilWindow).mpr ⟨hpost, hle⟩
    have hdue : (s.play s.untilWindow).windowMayBegin = true := by
      simp only [State.windowMayBegin, play_mode, hmode, play_stopMark, hstop, play_currentPoint]
      obtain ⟨hp, hw, hn⟩ := hsettled
      exact Bool.and_eq_true_iff.mpr ⟨hp, by simp only [Bool.not_false, Bool.true_and, Bool.and_eq_true]; exact
        ⟨decide_eq_true hw, decide_eq_true hn⟩⟩
    have hwin := windowBegun_of_due hh hc hdue
    refine ⟨s.untilWindow, h, _, ?_, hh, hwin.gen, hsettled, fun j hj hbad => ?_, hwin.half, hwin.other, hwin.rest⟩
    · rw [exec_windowBegin hlive (.inl hmode), hh]
      rfl
    · obtain ⟨hp, hmax⟩ := (Generator.settled_play_iff hinc _ _).mp hbad
      exact absurd hp (by rw [hbefore j hmax hj]; exact Bool.false_ne_true)
  · obtain ⟨h, hh⟩ := Option.ne_none_iff_exists'.mp hfree
    obtain ⟨-, hpost, hbefore⟩ := Generator.nextPostWrap_spec hinc 0
    have hk : s.untilWindow = s.gen.nextPostWrap 0 := by
      rw [State.untilWindow, if_neg (by rw [hmode]; decide)]
    rw [← hk] at hpost hbefore
    have hdue : (s.play s.untilWindow).windowMayBegin = true := by
      have hnone : (s.play s.untilWindow).capture.holdoff = none := by
        change holdoffAfter _ s.capture.holdoff = none
        rw [hhold]
        rfl
      simp only [State.windowMayBegin, play_mode, hmode, play_stopMark, hstop, hnone]
      exact Bool.and_eq_true_iff.mpr ⟨(Generator.play_postWrap _ _).trans hpost, rfl⟩
    have hwin := windowBegun_of_due hh hc hdue
    refine ⟨s.untilWindow, h, _, ?_, hh, hwin.gen, (Generator.play_postWrap _ _).trans hpost,
      fun j hj => (Generator.play_postWrap _ _).trans (hbefore j (Nat.zero_le j) hj), hwin.half, hwin.other, hwin.rest⟩
    rw [exec_windowBegin hlive (.inr ⟨hmode, hhold⟩), hh]
    rfl
  · refine ⟨_, exec_windowBegin hlive hmode, ?_⟩
    rw [hfree]
    exact ⟨(play_mode _ _).trans (play_mode _ _), (play_cursor _ _).trans (play_cursor _ _), rfl, rfl, rfl⟩

end Sys2Proof.Machine
end

section
/-! PROOF. WINDOW_END (R54, R55, R63 to R72, R78, R103). -/

namespace Sys2Proof.Machine
open Sys2Proof

/-! ### The recorded window -/

/-- The state in which the window in half `h` has been played to its end and its samples stand in the half (R54, R63). -/
def State.windowPlayed (h : HalfId) (samples : List (Sample × Sample)) (s : State) : State :=
  (s.play ((s.half h).length - s.gen.windowPlayed)).modHalf h (Half.recorded s.straps.ambient samples)

section
variable (h : HalfId) (samples : List (Sample × Sample)) (s : State)

theorem exec_windowEnd (hlive : s.held = false) (hmode : s.gen.mode = .window) (hfill : s.fillingHalf = some h)
    (hlen : samples.length = (s.half h).length) :
    exec (.windowEnd samples) s = .next ((s.windowPlayed h samples).decideWindow h) := by
  change execWindowEnd samples s = _
  simp only [execWindowEnd, unlessHeld, hlive, hmode, hfill, if_pos hlen]
  rfl

theorem windowPlayed_half : (s.windowPlayed h samples).half h = (s.half h).recorded s.straps.ambient samples := by
  cases h <;> rfl

theorem windowPlayed_other {g : HalfId} (hg : g ≠ h) : (s.windowPlayed h samples).half g = s.half g := by
  cases h <;> cases g <;> first | rfl | exact absurd rfl hg

theorem windowPlayed_rest : s.windowPlayed h samples =
    { s with gen := (s.windowPlayed h samples).gen, capture := (s.windowPlayed h samples).capture } := by
  cases h <;> rfl

theorem windowPlayed_frame (g : Generator) (c : Capture) (e : Engine) (a : Accounts) :
    { s.windowPlayed h samples with gen := g, capture := c, engine := e, accounts := a } =
      { s with gen := g, capture := c, engine := e, accounts := a } := by
  rw [windowPlayed_rest]

theorem windowPlayed_capture : (s.windowPlayed h samples).capture = { s.capture with
    half0 := (s.windowPlayed h samples).capture.half0, half1 := (s.windowPlayed h samples).capture.half1
    holdoff := (s.windowPlayed h samples).capture.holdoff } := by
  cases h <;> rfl

theorem windowPlayed_holdoff (hnone : s.capture.holdoff = none) : (s.windowPlayed h samples).capture.holdoff = none := by
  have hplay (k : Nat) : (s.play k).capture.holdoff = none := by
    change holdoffAfter k s.capture.holdoff = none
    rw [hnone]
    rfl
  cases h <;> exact hplay _

theorem windowPlayed_gen : ∃ k, (s.windowPlayed h samples).gen = s.gen.play k :=
  ⟨(s.half h).length - s.gen.windowPlayed, by cases h <;> rfl⟩

theorem windowPlayed_cursor : (s.windowPlayed h samples).gen.cursor = s.gen.cursor := by
  obtain ⟨k, hk⟩ := windowPlayed_gen h samples s
  rw [hk]
  exact play_cursor k s

theorem windowPlayed_sweepPoints : (s.windowPlayed h samples).sweepPoints = s.sweepPoints := by
  rw [← play_sweepPoints ((s.half h).length - s.gen.windowPlayed) s]
  cases h <;> rfl

end

/-! ### The decision to step on (R55, R67) -/

/-- The generator after a decision to step on: at the next point, or in the fade-out after the last (R55). -/
def State.steppedGen (s : State) : Generator :=
  if s.gen.cursor + 1 < s.sweepPoints.length then
    { s.gen with
      mode := .settle, cursor := s.gen.cursor + 1, samples := 0, wraps := 0
      inc := (s.sweepPoints.getD (s.gen.cursor + 1) noPoint).inc, amp := (s.sweepPoints.getD (s.gen.cursor + 1) noPoint).amp }
  else { s.gen with mode := .fadeOut, ramp := 0 }

theorem stepOn_eq (s : State) :
    s.stepOn = { s with gen := s.steppedGen, capture := { s.capture with attempt := 1 } } := by
  have hpoints : (s.modCapture fun c => { c with attempt := 1 }).sweepPoints = s.sweepPoints := rfl
  have hcursor : (s.modCapture fun c => { c with attempt := 1 }).gen.cursor = s.gen.cursor := rfl
  simp only [State.stepOn, State.steppedGen, hpoints, hcursor]
  split <;> rfl

/-- The points of a nest's sweep are those of the plan (R50). -/
theorem sweepPoints_nest {n : NestId} {s : State} (h : s.gen.claimant = some (.nest n)) : s.sweepPoints = s.planPoints := by
  simp only [State.sweepPoints, h, State.pointsOf]

/-- A state whose generator and capture are those after the step on from a window that has been played (R55, R67). -/
theorem steppedOn_of_played {n : NestId} {h : HalfId} {samples : List (Sample × Sample)} {s t : State}
    (hclaimant : s.gen.claimant = some (.nest n)) (hhold : s.capture.holdoff = none)
    (hgen : t.gen = (s.windowPlayed h samples).steppedGen)
    (hcapture : t.capture = { (s.windowPlayed h samples).capture with
      half0 := t.capture.half0, half1 := t.capture.half1, attempt := 1 }) : s.SteppedOn t := by
  have hpoints := (windowPlayed_sweepPoints h samples s).trans (sweepPoints_nest hclaimant)
  have hcursor := windowPlayed_cursor h samples s
  refine ⟨fun hnext => ?_, fun hlast => ?_, ?_⟩
  · rw [hgen, State.steppedGen, hpoints, hcursor, if_pos hnext]
    exact ⟨rfl, rfl, rfl, rfl, rfl, rfl⟩
  · rw [hgen, State.steppedGen, hpoints, hcursor, if_neg (by omega)]
    exact ⟨rfl, rfl, hcursor⟩
  · rw [hcapture, windowPlayed_capture, windowPlayed_holdoff h samples s hhold, ← hhold]

/-! ### A window that goes to the engine (R70, R78) -/

/-- The half that goes to the engine, the queue it joins, and the sweep that steps on (R55, R70, R78). -/
structure State.Cleaned (h : HalfId) (w t : State) : Prop where
  half    : t.half h = { w.half h with state := (t.half h).state }
  other   : ∀ g, g ≠ h → t.half g = w.half g
  busy    : ∀ x, w.engine.under = some x → (t.half h).state = .queued ∧ t.engine = { w.engine with queue := w.engine.queue ++ [h] }
  idle    : w.engine.under = none → (t.half h).state = .inAnalysis ∧ t.engine = { w.engine with
    under := some h, queue := [h], inPhase := List.replicate 12 0, quad := List.replicate 12 0, residual := 0 }
  gen     : t.gen = w.steppedGen
  capture : t.capture = { w.capture with half0 := t.capture.half0, half1 := t.capture.half1, attempt := 1 }
  rest    : t = { w with gen := t.gen, capture := t.capture, engine := t.engine }

theorem beginAnalysis_busy {s : State} {x : HalfId} (h : s.engine.under = some x) : s.beginAnalysis = s := by
  simp only [State.beginAnalysis, h]

theorem beginAnalysis_idle {s : State} {h : HalfId} {rest : List HalfId} (hunder : s.engine.under = none)
    (hqueue : s.engine.queue = h :: rest) (hstate : (s.half h).state = .queued) : s.beginAnalysis =
      { s.modHalf h (fun x => { x with state := .inAnalysis }) with engine := { s.engine with
          under := some h, inPhase := List.replicate 12 0, quad := List.replicate 12 0, residual := 0 } } := by
  simp only [State.beginAnalysis, hunder, hqueue, if_pos hstate]

theorem endClean_cleaned {h : HalfId} {w : State} (hempty : w.engine.under = none → w.engine.queue = []) :
    w.Cleaned h (w.endClean h) := by
  have hgen : (w.queueHalf h).steppedGen = w.steppedGen := by cases h <;> rfl
  have hengine : (w.queueHalf h).stepOn.engine = { w.engine with queue := w.engine.queue ++ [h] } := by
    rw [stepOn_eq]
    cases h <;> rfl
  have hqueued : ((w.queueHalf h).stepOn.half h).state = .queued := by
    rw [stepOn_eq]
    cases h <;> rfl
  rw [State.endClean]
  cases hunder : w.engine.under with
  | some x =>
    rw [beginAnalysis_busy (x := x) (by rw [hengine]; exact hunder), stepOn_eq, hgen]
    refine ⟨by cases h <;> rfl, fun g hg => ?_, fun y _ => ⟨by cases h <;> rfl, by cases h <;> rfl⟩, fun hn => ?_, by cases h <;> rfl,
      by cases h <;> rfl, by cases h <;> rfl⟩
    · cases h <;> cases g <;> first | rfl | exact absurd rfl hg
    · rw [hunder] at hn
      cases hn
  | none =>
    rw [hempty hunder, List.nil_append] at hengine
    rw [beginAnalysis_idle (h := h) (rest := []) (by rw [hengine]; exact hunder) (by rw [hengine]) hqueued, hengine, stepOn_eq, hgen]
    refine ⟨by cases h <;> rfl, fun g hg => ?_, fun y hy => ?_, fun _ => ⟨by cases h <;> rfl, ?_⟩, by cases h <;> rfl,
      by cases h <;> rfl, by cases h <;> rfl⟩
    · cases h <;> cases g <;> first | rfl | exact absurd rfl hg
    · rw [hunder] at hy
      cases hy
    · cases h <;> rfl

/-! ### A window whose point ends without analysis (R65, R69, R103) -/

/-- A record without measurement values detects no reason. -/
theorem takeUnmeasured_failList (c : PlanContent) (r : PointRecord) (x : Nest) :
    (x.takeUnmeasured c r).failList = x.failList := by
  unfold Nest.takeUnmeasured
  dsimp only
  split <;> rfl

/-- An OVERLOAD or NOISY record is taken without a stop of the sweep (R58, R103). -/
theorem offerRecord_unmeasured {n : NestId} {c : PlanContent} {r : PointRecord} {s : State} (hplan : s.plan = some c)
    (hstate : (s.nest n).state = .measuring) (hr : r.measured = false) :
    s.offerRecord n (s.nest n).tag r = s.modNest n (Nest.takeUnmeasured c r) := by
  have htake (x : Nest) : x.take c r = x.takeUnmeasured c r := by simp [Nest.take, hr]
  have hsame : ((s.modNest n (Nest.take c r)).nest n).failList = (s.nest n).failList := by
    have : (s.modNest n (Nest.take c r)).nest n = (s.nest n).take c r := by cases n <;> rfl
    rw [this, htake, takeUnmeasured_failList]
  simp only [State.offerRecord, hplan, hstate, true_or, true_and, if_true, hsame]
  rw [if_neg (by rintro ⟨-, h, h'⟩; exact h' h)]
  cases n <;> simp only [State.modNest, htake]

/-! ### The decisions (R64) -/

theorem recorded_samples (fitted : Bool) (samples : List (Sample × Sample)) (x : Half) :
    (x.recorded fitted samples).samples.map (·.1) = samples.map fun y => y.1.toInt := by
  have hfst : (withPhases x.p0 x.inc (samples.map (·.1))).map (·.1) = ((samples.map (·.1)).zipIdx.map (·.1)).map (·.toInt) := by
    simp only [withPhases, List.map_map]
    rfl
  refine hfst.trans ?_
  rw [List.zipIdx_map_fst, List.map_map]
  rfl

section
variable {n : NestId} {h : HalfId} {c : PlanContent} {samples : List (Sample × Sample)} {s : State}

/-- The ambient peak of a nest's window (R63). -/
theorem recorded_ambient {x : Half} (hx : x.claimant = .nest n) (fitted : Bool) :
    (x.recorded fitted samples).ambient = if fitted then peakOf (samples.map (·.2)) else 0 := by
  cases fitted <;> simp [Half.recorded, hx]

/-- The guard check of a nest's window, on its own samples (R66). -/
theorem contaminated_played (howner : (s.half h).claimant = .nest n) :
    (s.windowPlayed h samples).contaminated ((s.half h).recorded s.straps.ambient samples) c.guard = true ↔
      s.guardFails h c samples := by
  have hactive : (s.windowPlayed h samples).capture.active = s.capture.active := by rw [windowPlayed_capture]
  have hstraps : (s.windowPlayed h samples).straps = s.straps := by rw [windowPlayed_rest]
  rw [State.contaminated, hactive, hstraps, recorded_ambient howner, State.guardFails]
  simp only [Bool.and_eq_true, decide_eq_true_eq, and_assoc]
  refine and_congr_right fun hfitted => ?_
  rw [hfitted]
  exact Iff.rfl

theorem decideWindow_nest (howner : (s.half h).claimant = .nest n) (hplan : s.plan = some c) :
    (s.windowPlayed h samples).decideWindow h =
      if c.guard.overload ≤ peakOf (samples.map (·.1)) then
        (s.windowPlayed h samples).endOverload n h ((s.half h).recorded s.straps.ambient samples)
      else if (s.windowPlayed h samples).contaminated ((s.half h).recorded s.straps.ambient samples) c.guard then
        if (s.half h).attempt ≤ c.guard.retries then (s.windowPlayed h samples).endContaminated h c.guard
        else (s.windowPlayed h samples).endNoisy n h ((s.half h).recorded s.straps.ambient samples)
      else (s.windowPlayed h samples).endClean h := by
  have hplan' : (s.windowPlayed h samples).plan = some c := by
    rw [windowPlayed_rest]
    exact hplan
  have howner' : ((s.half h).recorded s.straps.ambient samples).claimant = .nest n := howner
  simp only [State.decideWindow, windowPlayed_half, howner', hplan']
  rfl

end

/-! ### The outcomes -/

/-- A window freed at its end: what its point's end leaves of the halves and of the engine (R65, R67, R69). -/
structure State.WindowFreed (h : HalfId) (w t : State) : Prop where
  half   : (t.half h).state = .free
  other  : ∀ g, g ≠ h → t.half g = w.half g
  engine : t.engine = { w.engine with queue := w.engine.queue.filter (· ≠ h) }

theorem freeOne_windowFreed (h : HalfId) (w : State) : w.WindowFreed h (w.freeOne h) := by
  refine ⟨by cases h <;> rfl, fun g hg => ?_, by cases h <;> rfl⟩
  cases h <;> cases g <;> first | rfl | exact absurd rfl hg

/-- A window contaminated with a retry left (R56, R67, R68). -/
theorem endContaminated_eq (h : HalfId) (g : Guard) (w : State) : w.endContaminated h g = { w.freeOne h with
    accounts := { w.accounts with counts := { w.accounts.counts with guardHits := w.accounts.counts.guardHits + 1 } }
    capture := { (w.freeOne h).capture with attempt := w.capture.attempt + 1, holdoff := some (48 * g.holdoffMs) }
    gen := { w.gen with mode := .holdoff } } := by
  cases h <;> rfl

/-- A point ended without analysis, as OVERLOAD or NOISY: the record stands, the account rises, the sweep steps on (R65, R69). -/
theorem endUnmeasured_eq {n : NestId} {h : HalfId} {c : PlanContent} {x : Half} {st : PointStatus} {f : Counts → Counts} {w : State}
    (hplan : w.plan = some c) (hstate : (w.nest n).state = .measuring) (htag : x.tag = (w.nest n).tag)
    (hst : (unmeasured st x).measured = false) :
    (((w.freeOne h).offerRecord n x.tag (unmeasured st x)).count f).stepOn =
      State.modNest n (Nest.takeUnmeasured c (unmeasured st x)) { w.freeOne h with
        accounts := { w.accounts with counts := f w.accounts.counts }
        gen := w.steppedGen
        capture := { (w.freeOne h).capture with attempt := 1 } } := by
  have hnest : (w.freeOne h).nest n = w.nest n := by cases h <;> cases n <;> rfl
  have hplan' : (w.freeOne h).plan = some c := by cases h <;> exact hplan
  rw [htag, ← hnest, offerRecord_unmeasured hplan' (hnest ▸ hstate) hst, stepOn_eq]
  cases h <;> cases n <;> rfl

/-- The nest record after a point that ended as OVERLOAD or NOISY (R65, R69, R103). -/
theorem takeUnmeasured_ended {noisy : Bool} (c : PlanContent) (x : Half) (m : Nest) :
    m.takeUnmeasured c (unmeasured (if noisy then .noisy else .overload) x) = { m with
      slots := m.slots.set x.point (some ⟨x.point, x.freq, if noisy then .noisy else .overload, x.attempt, none, none, none, none⟩)
      causeNoisy := m.causeNoisy || noisy ||
        decide (c.sweep.reference = some x.point ∧ ∃ u ∈ c.limits, u.measure = .rel)
      causeOverload := m.causeOverload || !noisy
      refState := if c.sweep.reference = some x.point then .notValid else m.refState } := by
  have hany : c.limits.any (fun k => k.measure = .rel) = decide (∃ u ∈ c.limits, u.measure = .rel) := by
    exact Bool.eq_iff_iff.mpr (by simp)
  by_cases href : c.sweep.reference = some x.point
  · cases noisy <;> simp [Nest.takeUnmeasured, Nest.store, unmeasured, href, hany]
  · cases noisy <;> simp [Nest.takeUnmeasured, Nest.store, unmeasured, href]

/-- The point of a nest's window that ends as OVERLOAD or NOISY (R65, R69). -/
theorem decideWindow_ended {n : NestId} {h : HalfId} {c : PlanContent} {samples : List (Sample × Sample)} {noisy : Bool} {s : State}
    (howner : (s.half h).claimant = .nest n) (hplan : s.plan = some c) (hstate : (s.nest n).state = .measuring)
    (htag : (s.half h).tag = (s.nest n).tag) (hwhy : (noisy = false ∧ c.guard.overload ≤ peakOf (samples.map (·.1))) ∨
      (noisy = true ∧ peakOf (samples.map (·.1)) < c.guard.overload ∧ s.guardFails h c samples ∧
        c.guard.retries < (s.half h).attempt)) :
    (s.windowPlayed h samples).decideWindow h = State.modNest n
      (Nest.takeUnmeasured c (unmeasured (if noisy then .noisy else .overload) ((s.half h).recorded s.straps.ambient samples)))
      { (s.windowPlayed h samples).freeOne h with
        accounts := { s.accounts with counts := { s.accounts.counts with
            overloadPoints := s.accounts.counts.overloadPoints + (if noisy then 0 else 1)
            noisyPoints := s.accounts.counts.noisyPoints + (if noisy then 1 else 0) } }
        gen := (s.windowPlayed h samples).steppedGen
        capture := { ((s.windowPlayed h samples).freeOne h).capture with attempt := 1 } } := by
  have hrest := windowPlayed_rest h samples s
  have hplan' : (s.windowPlayed h samples).plan = some c := by rw [hrest]; exact hplan
  have hnest : (s.windowPlayed h samples).nest n = s.nest n := by rw [hrest]; cases n <;> rfl
  have haccounts : (s.windowPlayed h samples).accounts = s.accounts := by rw [hrest]
  have hended (st : PointStatus) (f : Counts → Counts) := endUnmeasured_eq (h := h) (st := st) (f := f)
    (x := (s.half h).recorded s.straps.ambient samples) hplan' (hnest ▸ hstate) (hnest ▸ htag)
  rw [decideWindow_nest howner hplan]
  rcases hwhy with ⟨rfl, hpeak⟩ | ⟨rfl, hpeak, hfails, hretry⟩
  · rw [if_pos hpeak]
    refine (hended .overload Counts.addOverload rfl).trans ?_
    rw [haccounts]
    simp [Counts.addOverload]
  · rw [if_neg (by omega), if_pos ((contaminated_played howner).mpr hfails), if_neg (by omega)]
    refine (hended .noisy Counts.addNoisy rfl).trans ?_
    rw [haccounts]
    simp [Counts.addNoisy]

/-- What the end of a contaminated window with a retry left leaves, by its parts. -/
theorem contaminated_outcome {h : HalfId} {g : Guard} {w t : State} (ht : t = w.endContaminated h g) :
    w.WindowFreed h t ∧ t.gen = { w.gen with mode := .holdoff } ∧
      t.capture = { w.capture with
        half0 := t.capture.half0, half1 := t.capture.half1
        attempt := w.capture.attempt + 1, holdoff := some (48 * g.holdoffMs) } ∧
      t.accounts.counts = { w.accounts.counts with guardHits := w.accounts.counts.guardHits + 1 } ∧
      t = { w with
        gen := t.gen, capture := t.capture, engine := t.engine, accounts := { w.accounts with counts := t.accounts.counts } } := by
  rw [endContaminated_eq] at ht
  subst ht
  have hfree := freeOne_windowFreed h w
  exact ⟨⟨hfree.half, hfree.other, hfree.engine⟩, rfl, by cases h <;> rfl, rfl, by cases h <;> rfl⟩

/-- What the end of a point without analysis leaves, by its parts. -/
theorem ended_outcome {n : NestId} {h : HalfId} {f : Nest → Nest} {a : Accounts} {w t : State}
    (ht : t = State.modNest n f { w.freeOne h with
      accounts := a, gen := w.steppedGen, capture := { (w.freeOne h).capture with attempt := 1 } }) :
    t.gen = w.steppedGen ∧ t.capture = { w.capture with half0 := t.capture.half0, half1 := t.capture.half1, attempt := 1 } ∧
      w.WindowFreed h t ∧ t.nest n = f (w.nest n) ∧
      t = State.modNest n (fun _ => t.nest n) { w with gen := t.gen, capture := t.capture, engine := t.engine, accounts := a } := by
  have hfree := freeOne_windowFreed h w
  subst ht
  refine ⟨?_, ?_, ⟨?_, fun g hg => ?_, ?_⟩, ?_, ?_⟩
  · cases n <;> rfl
  · cases n <;> cases h <;> rfl
  · rw [State.modNest_half]
    exact hfree.half
  · rw [State.modNest_half]
    exact hfree.other g hg
  · rw [State.modNest_engine]
    exact hfree.engine
  · cases n <;> cases h <;> rfl
  · cases n <;> cases h <;> rfl

/-- A CHAIN CHECK window at its end (R54, R55, R92). -/
theorem windowEnd_check {samples : List (Sample × Sample)} {h : HalfId} {s : State} (hclaimant : s.gen.claimant = some .check)
    (hempty : s.engine.under = none → s.engine.queue = []) {t : State} (ht : t = (s.windowPlayed h samples).endClean h) :
      ((t.half h).samples.map (·.1)) = (samples.map fun x => x.1.toInt) ∧ (∀ g, g ≠ h → t.half g = s.half g) ∧
      (∀ other, s.engine.under = some other →
        (t.half h).state = .queued ∧ t.engine = { s.engine with queue := s.engine.queue ++ [h] }) ∧
      (s.engine.under = none → (t.half h).state = .inAnalysis ∧
        t.engine = { s.engine with
          under := some h, queue := [h], inPhase := List.replicate 12 0, quad := List.replicate 12 0, residual := 0 }) ∧
      (s.gen.cursor = 0 → t.gen.mode = .settle ∧ t.gen.cursor = 1 ∧ t.gen.samples = 0 ∧ t.gen.wraps = 0) ∧
      (1 ≤ s.gen.cursor → t.gen.mode = .fadeOut ∧ t.gen.ramp = 0 ∧ t.gen.cursor = s.gen.cursor) ∧
      t.capture.attempt = 1 ∧ t = { s with gen := t.gen, capture := t.capture, engine := t.engine } := by
  have hengine : (s.windowPlayed h samples).engine = s.engine := by rw [windowPlayed_rest]
  have hclean := ht ▸ endClean_cleaned (h := h) (w := s.windowPlayed h samples) (hengine.symm ▸ hempty)
  have hpoints : (s.windowPlayed h samples).sweepPoints.length = 2 := by
    rw [windowPlayed_sweepPoints, State.sweepPoints, hclaimant]
    rfl
  have hcursor := windowPlayed_cursor h samples s
  have hcapture : t.capture.attempt = 1 := by rw [hclean.capture]
  refine ⟨?_, fun g hg => ?_, hengine ▸ hclean.busy, hengine ▸ hclean.idle, fun h0 => ?_, fun h1 => ?_, hcapture, ?_⟩
  · rw [hclean.half, windowPlayed_half]
    exact recorded_samples s.straps.ambient samples (s.half h)
  · rw [hclean.other g hg, windowPlayed_other h samples s hg]
  · rw [hclean.gen, State.steppedGen, if_pos (by rw [hpoints, hcursor, h0]; decide), hcursor, h0]
    exact ⟨rfl, rfl, rfl, rfl⟩
  · rw [hclean.gen, State.steppedGen, if_neg (by rw [hpoints, hcursor]; omega)]
    exact ⟨rfl, rfl, hcursor⟩
  · exact hclean.rest.trans (congrArg (fun w => { w with gen := t.gen, capture := t.capture, engine := t.engine })
      (windowPlayed_rest h samples s))

/-- Settles O42: the branches of `State.decideWindow` on the window as recorded. -/
theorem windowEndDecisions : Obligations.WindowEndDecisions := by
  refine ⟨fun samples h s hlive hmode hfill howner hclaimant hlen hempty => ?_,
    fun samples n h c s hlive hmode hfill howner hplan hlen hpeak hfitted hguard hloud hretry => ?_,
    fun samples n h c s hend hpeak hclear hempty => ?_, fun samples n h c noisy s hend hstate htag hwhy => ?_⟩
  · have hcheck : (s.windowPlayed h samples).decideWindow h = (s.windowPlayed h samples).endClean h := by
      have hrec : ((s.half h).recorded s.straps.ambient samples).claimant = .check := howner
      simp only [State.decideWindow, windowPlayed_half, hrec]
    exact ⟨_, exec_windowEnd h samples s hlive hmode hfill hlen, windowEnd_check hclaimant hempty hcheck⟩
  · have hfails : s.guardFails h c samples := ⟨hfitted, hguard, hloud⟩
    have hdecide := decideWindow_nest (samples := samples) howner hplan
    rw [if_neg (by omega), if_pos ((contaminated_played howner).mpr hfails), if_pos hretry] at hdecide
    obtain ⟨t, ht⟩ : ∃ t, t = (s.windowPlayed h samples).decideWindow h := ⟨_, rfl⟩
    obtain ⟨hfree, hgen, hcapture, hcounts, hrest⟩ := contaminated_outcome (ht.trans hdecide)
    refine ⟨t, ht ▸ exec_windowEnd h samples s hlive hmode hfill hlen, hfree.half, ?_, ?_, ?_, ?_, ?_,
      fun g hg => (hfree.other g hg).trans (windowPlayed_other h samples s hg), ?_, ?_, ?_⟩
    · rw [hcounts, windowPlayed_rest]
    · rw [hcapture, windowPlayed_capture]
    · rw [hcapture]
    · rw [hgen]
    · rw [hgen]
      exact windowPlayed_cursor h samples s
    · exact hfree.engine.trans (by rw [windowPlayed_rest])
    · rw [hcapture, windowPlayed_capture]
    · refine hrest.trans ((windowPlayed_frame h samples s _ _ _ _).trans ?_)
      rw [windowPlayed_rest]
  · obtain ⟨hlive, hmode, hfill, howner, hclaimant, hplan, hlen, hhold⟩ := hend
    have hdecide := decideWindow_nest (samples := samples) howner hplan
    rw [if_neg (by omega), if_neg (fun hbad => hclear ((contaminated_played howner).mp hbad))] at hdecide
    obtain ⟨t, ht⟩ : ∃ t, t = (s.windowPlayed h samples).decideWindow h := ⟨_, rfl⟩
    have hengine : (s.windowPlayed h samples).engine = s.engine := by rw [windowPlayed_rest]
    have hclean := ht.trans hdecide ▸ endClean_cleaned (h := h) (w := s.windowPlayed h samples) (hengine.symm ▸ hempty)
    have hhalf := hclean.half
    rw [windowPlayed_half] at hhalf
    refine ⟨t, ht ▸ exec_windowEnd h samples s hlive hmode hfill hlen,
      steppedOn_of_played hclaimant hhold hclean.gen hclean.capture, ?_, ?_, ?_, ?_, fun g hg => ?_, hengine ▸ hclean.busy,
      hengine ▸ hclean.idle, ?_⟩
    · rw [hhalf]
      exact recorded_samples s.straps.ambient samples (s.half h)
    · rw [hhalf]
      rfl
    · rw [hhalf]
      exact recorded_ambient howner _
    · rw [hhalf]
      rfl
    · rw [hclean.other g hg, windowPlayed_other h samples s hg]
    · exact hclean.rest.trans (congrArg (fun w => { w with gen := t.gen, capture := t.capture, engine := t.engine })
        (windowPlayed_rest h samples s))
  · obtain ⟨hlive, hmode, hfill, howner, hclaimant, hplan, hlen, hhold⟩ := hend
    have hdecide := decideWindow_ended (samples := samples) howner hplan hstate htag hwhy
    obtain ⟨t, ht⟩ : ∃ t, t = (s.windowPlayed h samples).decideWindow h := ⟨_, rfl⟩
    obtain ⟨hgen, hcapture, hfree, hnest, hrest⟩ := ended_outcome (ht.trans hdecide)
    have hrecord := takeUnmeasured_ended (noisy := noisy) c ((s.half h).recorded s.straps.ambient samples)
      ((s.windowPlayed h samples).nest n)
    have hsame : (s.windowPlayed h samples).nest n = s.nest n := by rw [windowPlayed_rest]; cases n <;> rfl
    rw [← hnest, hsame] at hrecord
    refine ⟨t, ht ▸ exec_windowEnd h samples s hlive hmode hfill hlen, steppedOn_of_played hclaimant hhold hgen hcapture,
      hfree.half, fun g hg => (hfree.other g hg).trans (windowPlayed_other h samples s hg), hrecord, ?_, ?_⟩
    · exact hfree.engine.trans (by rw [windowPlayed_rest])
    · exact hrest.trans (congrArg (State.modNest n _) (windowPlayed_frame h samples s _ _ _ _))

end Sys2Proof.Machine
end

section
/-! PROOF. The work of the bus, and the ends of the waits (R149, R152, R157, R158). -/

namespace Sys2Proof.Machine
open Sys2Proof

/-! ### The first work that is ready (R152) -/

/-- The work that an idle bus begins (R152). -/
def Marker.nextWork (m : Marker) : Option Transaction :=
  match m.pendingProbe with
  | some i => some ⟨i, .probe, .live⟩
  | none => m.readyPage

/-- The marker once the bus, if it is idle, has taken its work (R152). -/
def Marker.served (m : Marker) : Marker := { m with bus := m.bus.or m.nextWork }

theorem startBus_eq (s : State) : s.startBus = s.modMarker Marker.served := by
  unfold State.startBus Marker.served Marker.nextWork State.modMarker
  cases hb : s.marker.bus with
  | some x =>
    have hor (y : Option Transaction) : s.marker.bus.or y = s.marker.bus := by rw [hb]; rfl
    simp only [hor]
  | none =>
    cases hp : s.marker.pendingProbe with
    | some i => simp [hb, hp]
    | none => simp [hb, hp]

@[simp] theorem Marker.served_devices (m : Marker) : m.served.devices = m.devices := rfl
@[simp] theorem Marker.served_queue (m : Marker) : m.served.queue = m.queue := rfl
@[simp] theorem Marker.served_head (m : Marker) : m.served.head = m.head := rfl
@[simp] theorem Marker.served_waitList (m : Marker) : m.served.waitList = m.waitList := rfl

theorem Marker.served_busy {m : Marker} (h : m.bus ≠ none) : m.served.bus = m.bus := by
  obtain ⟨x, hx⟩ := Option.ne_none_iff_exists'.mp h
  rw [served, hx]
  rfl

theorem Marker.served_idle {m : Marker} (h : m.bus = none) : m.served.bus = m.nextWork := by
  rw [served, h]
  rfl

theorem Marker.pendingProbe_eq_none_iff (m : Marker) :
    m.pendingProbe = none ↔ ∀ y ∈ m.devices, y.state = .negotiating → y.retryWait = true := by
  simp [pendingProbe, List.findIdx?_eq_none_iff]

theorem Marker.nextWork_probe {m : Marker} {i : Nat}
    (h : m.devices.findIdx? (fun y => y.state = .negotiating && !y.retryWait) = some i) : m.nextWork = some ⟨i, .probe, .live⟩ := by
  have hp : m.pendingProbe = some i := h
  rw [nextWork, hp]

theorem Marker.nextWork_page {m : Marker} {j : Job} {rest : List Job} {d : Nat} {x : Device}
    (hnone : ∀ y ∈ m.devices, y.state = .negotiating → y.retryWait = true) (hqueue : m.queue = j :: rest)
    (hbound : m.head.bound = some d) (hx : m.devices[d]? = some x) (hready : x.state = .ready) (hwait : m.head.busyWait = false) :
    m.nextWork =
      some ⟨d, .page (controlByte m.head.page (x.resolved.getD 0) x.toggle) (pagePayload j m.head.page), .live⟩ := by
  simp only [nextWork, (pendingProbe_eq_none_iff m).mpr hnone, readyPage, hqueue, hbound, hx, hready, hwait, and_self, if_true]

theorem Marker.nextWork_none {m : Marker} (hnone : ∀ y ∈ m.devices, y.state = .negotiating → y.retryWait = true)
    (hpage : ∀ j rest d x, m.queue = j :: rest → m.head.bound = some d → m.devices[d]? = some x → x.state = .ready →
      m.head.busyWait = true) : m.nextWork = none := by
  simp only [nextWork, (pendingProbe_eq_none_iff m).mpr hnone, readyPage]
  split
  next j rest d hq hb =>
    split
    next x hx =>
      rw [if_neg]
      rintro ⟨hready, hwait⟩
      exact absurd (hpage _ _ _ _ hq hb hx hready) (by simp [hwait])
    next => rfl
  next => rfl

/-- An idle bus takes the first work that is ready (R152). -/
theorem Marker.served_served {m : Marker} (h : m.bus = none) : m.served.Served := by
  have hb := served_idle h
  exact ⟨fun i hi => hb.trans (nextWork_probe hi), fun j rest d x hn hq hd hx hr hw => hb.trans (nextWork_page hn hq hd hx hr hw),
    fun hn hp => hb.trans (nextWork_none hn hp)⟩

/-- A device that is NEGOTIATING with no retry wait keeps the bus busy (R152). -/
theorem Marker.served_bus_ne_none {m : Marker} {d : Nat} {x : Device} (hx : m.devices[d]? = some x) (hs : x.state = .negotiating)
    (hr : x.retryWait = false) : m.served.bus ≠ none := by
  by_cases hb : m.bus = none
  · rw [served_idle hb, nextWork]
    cases hp : m.pendingProbe with
    | some i => simp
    | none =>
      have := (pendingProbe_eq_none_iff m).mp hp x (List.mem_of_getElem? hx) hs
      rw [hr] at this
      cases this
  · rw [served_busy hb]
    exact hb

/-! ### The ends of the waits (R149, R158) -/

theorem modMarker_modMarker (f g : Marker → Marker) (s : State) : (s.modMarker f).modMarker g = s.modMarker fun m => g (f m) := rfl

theorem modify_eq_set {l : List Device} {d : Nat} {x : Device} (f : Device → Device) (hx : l[d]? = some x) :
    l.modify d f = l.set d (f x) := by
  rw [List.modify_eq_set_getElem?, hx]
  rfl

/-- The first pending probe, where that of device `d` becomes pending and none before it is (R152). -/
theorem findIdx?_set_first {p : Device → Bool} {l : List Device} {d : Nat} {y : Device} (hd : d < l.length) (hy : p y = true)
    (hbefore : ∀ (i : Nat) x, i < d → l[i]? = some x → p x = false) : (l.set d y).findIdx? p = some d := by
  rw [List.findIdx?_eq_some_iff_getElem]
  refine ⟨by simpa using hd, by simpa using hy, fun i hi => ?_⟩
  have hget := hbefore i l[i] hi (List.getElem?_eq_getElem (by omega))
  rw [List.getElem_set_ne (by omega)]
  simpa using hget

/-- Settles O51: the wait stops, and the bus takes its work. -/
theorem waitsEnd : Obligations.WaitsEnd := by
  refine ⟨fun d x s hlive hx hwait => ?_, fun s hlive hwait => ?_, fun s hwait => ?_⟩
  · have hexec : exec (.retryWaitEnd d) s = .next
        (s.modMarker fun m => Marker.served (m.modDevice d fun x => { x with retryWait := false })) := by
      change execRetryWaitEnd d s = _
      simp only [execRetryWaitEnd, unlessHeld, hlive, hx, hwait, if_true, startBus_eq, modMarker_modMarker]
      rfl
    have hdevices : (s.marker.modDevice d fun x => { x with retryWait := false }).devices =
        s.marker.devices.set d { x with retryWait := false } := modify_eq_set _ hx
    have hlen : d.val < s.marker.devices.length := by
      by_contra h
      rw [List.getElem?_eq_none (by omega)] at hx
      cases hx
    refine ⟨_, hexec, hdevices, fun hneg => ?_, fun hbusy => ?_, fun hneg hidle hfirst => ?_, rfl⟩
    · refine Marker.served_bus_ne_none (d := d) (x := { x with retryWait := false }) ?_ hneg rfl
      rw [hdevices, List.getElem?_set_self hlen]
    · exact Marker.served_busy (m := s.marker.modDevice d _) hbusy
    · refine (Marker.served_idle (m := s.marker.modDevice d _) hidle).trans (Marker.nextWork_probe ?_)
      rw [hdevices]
      refine findIdx?_set_first hlen (by simp [hneg]) fun i y hi hy => ?_
      have := hfirst i y hi hy
      by_cases hs : y.state = .negotiating
      · simp [hs, this hs]
      · simp [hs]
  · have hexec : exec .busyWaitEnd s = .next
        (s.modMarker fun m => Marker.served (m.modHead fun h => { h with busyWait := false })) := by
      change execBusyWaitEnd s = _
      simp only [execBusyWaitEnd, unlessHeld, hlive, hwait, if_true, startBus_eq, modMarker_modMarker]
      rfl
    refine ⟨_, hexec, rfl, fun hbusy => ?_, fun d x j rest hidle hnone hbound hx hready hqueue => ?_, fun d hidle hfirst => ?_, rfl⟩
    · exact Marker.served_busy (m := s.marker.modHead _) hbusy
    · exact (Marker.served_idle (m := s.marker.modHead _) hidle).trans
        (Marker.nextWork_page (m := s.marker.modHead fun h => { h with busyWait := false }) hnone hqueue hbound hx hready rfl)
    · exact (Marker.served_idle (m := s.marker.modHead _) hidle).trans (Marker.nextWork_probe hfirst)
  · change execBusyWaitEnd s = _
    unfold execBusyWaitEnd unlessHeld
    cases s.held <;> simp [hwait]

end Sys2Proof.Machine
end

section
/-! PROOF. The job in front leaves the label queue (R155, R156, R162, R163). -/

namespace Sys2Proof.Machine
open Sys2Proof

/-! ### What the making of a head changes -/

/-- From `s` to `t` the marker, the nests and the ports alone have changed. -/
def State.OnlyJobs (s t : State) : Prop :=
  t = { s with marker := t.marker, nestA := t.nestA, nestB := t.nestB, station := t.station, line := t.line }

namespace State.OnlyJobs

theorem trans {s t u : State} (h : s.OnlyJobs t) (h' : t.OnlyJobs u) : s.OnlyJobs u := by
  unfold State.OnlyJobs at h h' ⊢
  rw [h] at h'
  exact h'

theorem modMarker (f : Marker → Marker) (s : State) : s.OnlyJobs (s.modMarker f) := rfl

theorem latchBoth (e : Event) (s : State) : s.OnlyJobs (s.latchBoth e) := rfl

theorem admitWaiting (s : State) : s.OnlyJobs s.admitWaiting := by
  unfold State.admitWaiting
  split
  · rfl
  next w _ _ =>
    obtain ⟨n, job⟩ := w
    cases n <;> rfl

theorem dropHead (s : State) : s.OnlyJobs s.dropHead := (OnlyJobs.modMarker _ s).trans (admitWaiting _)

theorem failHead (cause : JobFault) (s : State) : s.OnlyJobs (s.failHead cause) := by
  unfold State.failHead
  split
  · rfl
  · exact ((OnlyJobs.modMarker _ s).trans (latchBoth _ _)).trans (dropHead _)

theorem makeHead (k : Nat) (s : State) : s.OnlyJobs (State.makeHead k s) := by
  induction k generalizing s with
  | zero => rfl
  | succ k ih =>
    unfold State.makeHead
    split
    · rfl
    · dsimp only
      split
      · exact (OnlyJobs.modMarker _ s).trans (OnlyJobs.modMarker _ _)
      · exact ((OnlyJobs.modMarker _ s).trans (failHead _ _)).trans (ih _)

theorem nextHead (s : State) : s.OnlyJobs s.nextHead := makeHead _ s

end State.OnlyJobs

/-! ### A place in the queue goes to a waiting nest (R30, R155) -/

theorem admitWaiting_none {s : State} (h : s.marker.waitList = []) : s.admitWaiting = s := by
  unfold State.admitWaiting
  rw [h]

theorem admitWaiting_some {s : State} {w : WaitingJob} {ws : List WaitingJob} (h : s.marker.waitList = w :: ws) :
    s.admitWaiting = (s.modMarker fun m => Marker.append w.job { m with waitList := ws }).modNest w.nest
      fun n => { n with state := .done, ticket := some (s.marker.ticket + 1) } := by
  unfold State.admitWaiting
  rw [h]
  rfl

/-- The jobs that enter after the first one (R155). -/
theorem entering_cons (w : WaitingJob) (l : List WaitingJob) {m m' : Marker} (h : m'.ticket = m.ticket + 1) :
    m.entering (w :: l) = { w.job with ticket := some (m.ticket + 1) } :: m'.entering l := by
  have hzero : m.ticket + 1 + BitVec.ofNat 16 0 = m.ticket + 1 := BitVec.add_zero _
  have hstep (i : Nat) : m.ticket + 1 + BitVec.ofNat 16 (i + 1) = m'.ticket + 1 + BitVec.ofNat 16 i := by
    rw [h, Nat.add_comm i 1, BitVec.ofNat_add, ← BitVec.add_assoc]
    rfl
  simp only [Marker.entering, List.mapIdx_cons, hzero, hstep]

theorem ofNat_succ_add {w : Nat} (x : BitVec w) (k : Nat) : x + 1 + BitVec.ofNat w k = x + BitVec.ofNat w (k + 1) := by
  rw [Nat.add_comm k 1, BitVec.ofNat_add, BitVec.add_assoc]
  rfl

theorem admitted_nil (s t : State) (h : ∀ n, t.nest n = s.nest n) : State.Admitted [] s t :=
  ⟨fun _ i w hw => by simp at hw, fun n _ => h n⟩

theorem State.Admitted.congr {l : List WaitingJob} {s x t : State} (h : State.Admitted l x t) (hnest : ∀ n, x.nest n = s.nest n)
    (hticket : x.marker.ticket = s.marker.ticket) : State.Admitted l s t := by
  refine ⟨fun hnodup i w hw => ?_, fun n hn => ?_⟩
  · rw [h.nests hnodup i w hw, hnest, hticket]
  · rw [h.others n hn, hnest]

/-- The first waiting nest has been admitted in `u`, the others from there on (R30, R155). -/
theorem admitted_cons {w : WaitingJob} {l : List WaitingJob} {s u t : State} (hticket : u.marker.ticket = s.marker.ticket + 1)
    (hfirst : u.nest w.nest = { s.nest w.nest with state := .done, ticket := some (s.marker.ticket + 1) })
    (hothers : ∀ n, n ≠ w.nest → u.nest n = s.nest n) (h : State.Admitted l u t) : State.Admitted (w :: l) s t := by
  obtain ⟨hnests, hrest⟩ := h
  refine ⟨fun hnodup i x hx => ?_, fun n hn => ?_⟩
  · rw [List.map_cons, List.nodup_cons] at hnodup
    obtain ⟨hnot, hnodup⟩ := hnodup
    cases i with
    | zero =>
      obtain rfl : w = x := by simpa using hx
      rw [hrest _ hnot, hfirst]
      exact congrArg (fun v => { s.nest w.nest with state := .done, ticket := some v }) (BitVec.add_zero _).symm
    | succ i =>
      have hx' : l[i]? = some x := by simpa using hx
      have hne : x.nest ≠ w.nest := fun h => hnot (h ▸ List.mem_map_of_mem (List.mem_of_getElem? hx'))
      rw [hnests hnodup i x hx', hothers _ hne, hticket, BitVec.add_assoc _ 1 (BitVec.ofNat 16 i)]
      have := ofNat_succ_add (s.marker.ticket + 1) i
      rw [BitVec.add_assoc] at this
      rw [this]
  · rw [List.map_cons, List.mem_cons, not_or] at hn
    rw [hrest n hn.2, hothers n hn.1]

/-! ### Leaving the queue -/

/-- The state in which the job in front has failed with `cause`, its place not yet given away (R163). -/
def State.failed (j : Job) (cause : JobFault) (s : State) : State :=
  (s.modMarker fun m => { m with failed := m.failed + 1, lastFailed := some ⟨j, cause, m.head.bound, m.head.page⟩ }).latchBoth
    .labelFailed

theorem failHead_cons {s : State} {j : Job} {rest : List Job} (cause : JobFault) (h : s.marker.queue = j :: rest) :
    s.failHead cause = (s.failed j cause).dropHead := by
  unfold State.failHead
  rw [h]
  rfl

theorem dropHead_none {s : State} (h : s.marker.waitList = []) :
    s.dropHead = s.modMarker fun m => { m with queue := m.queue.tail, head := Head.clear } :=
  admitWaiting_none h

theorem dropHead_some {s : State} {w : WaitingJob} {ws : List WaitingJob} (h : s.marker.waitList = w :: ws) :
    s.dropHead = (s.modMarker fun m => { m with
        queue := m.queue.tail ++ [{ w.job with ticket := some (m.ticket + 1) }], head := Head.clear, waitList := ws
        ticket := m.ticket + 1, enqueued := m.enqueued + 1 }).modNest w.nest
      fun n => { n with state := .done, ticket := some (s.marker.ticket + 1) } :=
  admitWaiting_some (s := s.modMarker fun m => { m with queue := m.queue.tail, head := Head.clear }) h

theorem makeHead_nil {s : State} (k : Nat) (h : s.marker.queue = []) : State.makeHead k s = s := by
  cases k with
  | zero => rfl
  | succ k =>
    unfold State.makeHead
    rw [h]

/-- A job in front whose role the table has becomes head (R156). -/
theorem makeHead_role {s : State} {j : Job} {rest : List Job} (k : Nat) (h : s.marker.queue = j :: rest)
    (hrole : s.marker.hasRole j.role = true) : State.makeHead (k + 1) s =
      s.modMarker fun m => { m with head := ⟨m.readyDevice j.role, 0, false, s.labelTimeout⟩ } := by
  unfold State.makeHead
  rw [h]
  exact if_pos hrole

/-- A job in front whose role the table lacks fails, and the next one is tried (R156). -/
theorem makeHead_noRole {s : State} {j : Job} {rest : List Job} (k : Nat) (h : s.marker.queue = j :: rest)
    (hrole : s.marker.hasRole j.role = false) : State.makeHead (k + 1) s = State.makeHead k
      (((s.modMarker fun m => { m with head := ⟨none, 0, false, s.labelTimeout⟩ }).failed j .noDevice).dropHead) := by
  have hfail := failHead_cons (s := s.modMarker fun m => { m with head := ⟨none, 0, false, s.labelTimeout⟩ }) .noDevice h
  rw [← hfail, State.makeHead, h]
  exact if_neg (by rw [Bool.not_eq_true]; exact hrole)

theorem hasRole_eq_false_iff (r : Role) (m : Marker) : m.hasRole r = false ↔ ∀ y ∈ m.devices, y.role ≠ r := by
  simp [Marker.hasRole]

theorem hasRole_eq_true_iff (r : Role) (m : Marker) : m.hasRole r = true ↔ ∃ y ∈ m.devices, y.role = r := by
  simp [Marker.hasRole]

/-- From `s` to `t` the jobs `gone` have failed with NO_DEVICE and left the queue, the nests `adm` have left the wait list, and the
first of `left`, if any, is head (R30, R155, R156, R163). -/
structure State.HeadMade (gone left : List Job) (adm ws : List WaitingJob) (s t : State) : Prop where
  marker   : t.marker = { s.marker with
    queue := left, waitList := ws
    ticket := s.marker.ticket + BitVec.ofNat 16 adm.length
    enqueued := s.marker.enqueued + BitVec.ofNat 32 adm.length
    failed := s.marker.failed + BitVec.ofNat 32 gone.length
    lastFailed := match gone.getLast? with
      | some j => some ⟨j, .noDevice, none, 0⟩
      | none => s.marker.lastFailed
    head := match left.head? with
      | some i => ⟨s.marker.readyDevice i.role, 0, false, s.labelTimeout⟩
      | none => if gone = [] then s.marker.head else Head.clear }
  admitted : State.Admitted adm s t
  ports    : ∀ p, t.port p = { s.port p with events := (s.port p).events ||| (if gone = [] then 0 else 0x0200) }

theorem or_zero_events (q : Port) : { q with events := q.events ||| 0 } = q := by
  rw [show q.events ||| 0 = q.events from BitVec.or_zero]

/-- No job in front fails where the first one has its role in the table, or where there is none (R156). -/
theorem headMade_nil {s : State} {left : List Job} {k : Nat} (hk : 0 < k) (hqueue : s.marker.queue = left)
    (hrole : ∀ j, left.head? = some j → ∃ y ∈ s.marker.devices, y.role = j.role) :
    s.HeadMade [] left [] s.marker.waitList (State.makeHead k s) := by
  obtain ⟨k, rfl⟩ := Nat.exists_eq_succ_of_ne_zero (Nat.pos_iff_ne_zero.mp hk)
  have hzero16 : s.marker.ticket + BitVec.ofNat 16 0 = s.marker.ticket := BitVec.add_zero _
  have hzero32 (x : BitVec 32) : x + BitVec.ofNat 32 0 = x := BitVec.add_zero _
  cases left with
  | nil =>
    rw [makeHead_nil _ hqueue]
    refine ⟨?_, admitted_nil s s fun _ => rfl, fun p => (or_zero_events _).symm⟩
    simp only [List.length_nil, hzero16, hzero32, List.getLast?_nil, List.head?_nil, if_true]
    rw [← hqueue]
  | cons j rest =>
    rw [makeHead_role k hqueue ((hasRole_eq_true_iff _ _).mpr (hrole j rfl))]
    refine ⟨?_, admitted_nil s _ fun n => by cases n <;> rfl, fun p => ?_⟩
    · simp only [List.length_nil, hzero16, hzero32, List.getLast?_nil, List.head?_cons]
      rw [← hqueue]
      rfl
    · rw [if_pos rfl, or_zero_events]
      cases p <;> rfl

theorem getLast?_match (j : Job) (gone : List Job) (o : Option FailedJob) : (match (j :: gone).getLast? with
      | some i => some (⟨i, .noDevice, none, 0⟩ : FailedJob)
      | none => o) =
    match gone.getLast? with
      | some i => some ⟨i, .noDevice, none, 0⟩
      | none => some ⟨j, .noDevice, none, 0⟩ := by
  rw [List.getLast?_cons]
  cases gone.getLast? <;> rfl

/-- The part of one failure in front, and of those that follow it. -/
theorem headMade_cons {j : Job} {gone left : List Job} {adm ws : List WaitingJob} {s u t : State} {q : List Job}
    {w : Option WaitingJob}
    (hmarker : u.marker = { s.marker with
      queue := q, waitList := u.marker.waitList, ticket := s.marker.ticket + BitVec.ofNat 16 w.toList.length
      enqueued := s.marker.enqueued + BitVec.ofNat 32 w.toList.length, head := Head.clear
      failed := s.marker.failed + 1, lastFailed := some ⟨j, .noDevice, none, 0⟩ })
    (htimeout : u.labelTimeout = s.labelTimeout)
    (hports : ∀ p, u.port p = { s.port p with events := (s.port p).events ||| 0x0200 })
    (hadmitted : State.Admitted adm u t → State.Admitted (w.toList ++ adm) s t)
    (h : u.HeadMade gone left adm ws t) : s.HeadMade (j :: gone) left (w.toList ++ adm) ws t := by
  obtain ⟨hm, ha, hp⟩ := h
  have hsum {n : Nat} (x : BitVec n) (i k : Nat) : x + BitVec.ofNat n i + BitVec.ofNat n k = x + BitVec.ofNat n (i + k) := by
    rw [BitVec.add_assoc, ← BitVec.ofNat_add]
  refine ⟨?_, hadmitted ha, fun p => ?_⟩
  · rw [hm, hmarker, htimeout]
    simp only [hsum, ofNat_succ_add, List.length_append, List.length_cons, getLast?_match, Marker.readyDevice, reduceCtorEq, if_false]
    cases left with
    | nil => simp
    | cons i rest => rfl
  · rw [hp p, hports p, if_neg (List.cons_ne_nil j gone)]
    split
    · rw [or_zero_events]
    · simp only [BitVec.or_assoc, BitVec.or_self]

/-- The head job of `x` has left the queue in `u`, `w` being the nest that took its place, if any, `ws` those that wait on, and `q`
the queue (R155). -/
structure State.Dropped (q : List Job) (w : Option WaitingJob) (ws : List WaitingJob) (x u : State) : Prop where
  marker   : u.marker = { x.marker with
    queue := q, waitList := ws, head := Head.clear
    ticket := x.marker.ticket + BitVec.ofNat 16 w.toList.length
    enqueued := x.marker.enqueued + BitVec.ofNat 32 w.toList.length }
  waiting  : x.marker.waitList = w.toList ++ ws
  taken    : w = none → ws = []
  fed      : q ≠ [] ∨ ws = []
  entering : ∀ l, x.marker.queue.tail ++ x.marker.entering (w.toList ++ l) = q ++ u.marker.entering l
  admitted : ∀ adm t, State.Admitted adm u t → State.Admitted (w.toList ++ adm) x t
  ports    : ∀ p, u.port p = x.port p
  timeout  : u.labelTimeout = x.labelTimeout

theorem dropHead_dropped (x : State) : ∃ q w ws, x.Dropped q w ws x.dropHead := by
  cases hw : x.marker.waitList with
  | nil =>
    have hzero16 : x.marker.ticket + BitVec.ofNat 16 0 = x.marker.ticket := BitVec.add_zero _
    have hzero32 : x.marker.enqueued + BitVec.ofNat 32 0 = x.marker.enqueued := BitVec.add_zero _
    refine ⟨x.marker.queue.tail, none, [], ?_⟩
    rw [dropHead_none hw]
    refine ⟨?_, hw, fun _ => rfl, .inr rfl, fun l => rfl, fun adm t h => ⟨h.nests, h.others⟩, fun p => by cases p <;> rfl, rfl⟩
    simp only [Option.toList_none, List.length_nil, hzero16, hzero32]
    rw [← hw]
    rfl
  | cons w l =>
    refine ⟨x.marker.queue.tail ++ [{ w.job with ticket := some (x.marker.ticket + 1) }], some w, l, ?_⟩
    rw [dropHead_some hw]
    obtain ⟨n, job⟩ := w
    refine ⟨by cases n <;> rfl, hw, fun h => (by cases h), .inl (by simp), fun l' => ?_, fun adm t h => ?_, fun p => ?_, ?_⟩
    · rw [List.append_assoc]
      refine congrArg (x.marker.queue.tail ++ ·) (entering_cons _ l' ?_)
      cases n <;> rfl
    · refine admitted_cons (by cases n <;> rfl) (by cases n <;> rfl) (fun m hm => ?_) h
      rw [State.modNest_nest_other (h := hm)]
      cases m <;> rfl
    · cases n <;> cases p <;> rfl
    · cases n <;> rfl

/-- Every head made as the jobs `gone` leave a queue, where a nest waits only beside a queue that is not empty (R155, R156). -/
def MakesHeads (gone : List Job) : Prop :=
  ∀ (k : Nat) (s : State) (left : List Job) (adm ws : List WaitingJob), gone.length < k →
    s.marker.queue ≠ [] ∨ s.marker.waitList = [] → s.marker.waitList = adm ++ ws →
    adm.length = min gone.length s.marker.waitList.length → s.marker.queue ++ s.marker.entering adm = gone ++ left →
    (∀ j ∈ gone, ∀ y ∈ s.marker.devices, y.role ≠ j.role) →
    (∀ j, left.head? = some j → ∃ y ∈ s.marker.devices, y.role = j.role) →
    s.HeadMade gone left adm ws (State.makeHead k s)

/-- The head job leaves, one nest may take its place, and the next head is made (R155, R156). -/
theorem dropHead_headMade {gone left : List Job} {adm ws : List WaitingJob} {k : Nat} {x : State} (hmake : MakesHeads gone)
    (hk : gone.length < k) (hwait : x.marker.waitList = adm ++ ws)
    (hadm : adm.length = min (gone.length + 1) x.marker.waitList.length)
    (hqueue : x.marker.queue.tail ++ x.marker.entering adm = gone ++ left)
    (hlack : ∀ j ∈ gone, ∀ y ∈ x.marker.devices, y.role ≠ j.role)
    (hrole : ∀ j, left.head? = some j → ∃ y ∈ x.marker.devices, y.role = j.role) :
    ∃ q w ws' adm', x.Dropped q w ws' x.dropHead ∧ adm = w.toList ++ adm' ∧
      x.dropHead.HeadMade gone left adm' ws (State.makeHead k x.dropHead) := by
  obtain ⟨q, w, ws', hdrop⟩ := dropHead_dropped x
  have hdevices : x.dropHead.marker.devices = x.marker.devices := by rw [hdrop.marker]
  have hqueue' : x.dropHead.marker.queue = q := by rw [hdrop.marker]
  have hwait' : x.dropHead.marker.waitList = ws' := by rw [hdrop.marker]
  have hboth := hdrop.waiting
  rw [hwait] at hadm
  obtain ⟨adm', rfl, hrest⟩ : ∃ adm', adm = w.toList ++ adm' ∧ ws' = adm' ++ ws := by
    rw [hwait] at hboth
    cases w with
    | none => exact ⟨adm, rfl, hboth.symm⟩
    | some v =>
      cases adm with
      | nil =>
        rw [List.nil_append] at hboth
        rw [hboth] at hadm
        simp at hadm
      | cons a adm =>
        rw [Option.toList_some, List.cons_append, List.singleton_append, List.cons.injEq] at hboth
        obtain ⟨rfl, hboth⟩ := hboth
        exact ⟨adm, rfl, hboth.symm⟩
  refine ⟨q, w, ws', adm', hdrop, rfl, hmake k _ left adm' ws hk ?_ (hwait'.trans hrest) ?_ ?_ (hdevices.symm ▸ hlack)
    (hdevices.symm ▸ hrole)⟩
  · rw [hqueue', hwait']
    exact hdrop.fed
  · rw [hwait', hrest]
    cases w with
    | none =>
      obtain rfl := hdrop.taken rfl
      obtain ⟨rfl, rfl⟩ := List.append_eq_nil_iff.mp hrest.symm
      simp
    | some v =>
      simp only [Option.toList_some, List.length_append, List.length_singleton] at hadm ⊢
      omega
  · rw [hqueue', ← hdrop.entering, hqueue]

theorem makesHeads (gone : List Job) : MakesHeads gone := by
  induction gone with
  | nil =>
    intro k s left adm ws hk _ hwait hadm hqueue _ hrole
    obtain rfl : adm = [] := by simpa using hadm
    rw [List.nil_append] at hwait hqueue
    rw [← hwait]
    exact headMade_nil hk (by simpa [Marker.entering] using hqueue) hrole
  | cons j gone ih =>
    intro k s left adm ws hk hfed hwait hadm hqueue hlack hrole
    obtain ⟨k, rfl⟩ := Nat.exists_eq_succ_of_ne_zero (Nat.ne_zero_of_lt hk)
    have hk' : gone.length < k := by simpa using hk
    have hlack' (i : Job) (hi : i ∈ gone) := hlack i (List.mem_cons_of_mem j hi)
    have hnone := (hasRole_eq_false_iff j.role s.marker).mpr (hlack j List.mem_cons_self)
    cases hq : s.marker.queue with
    | nil =>
      rw [hq] at hfed hqueue
      have hempty := hfed.resolve_left (fun h => h rfl)
      rw [hempty] at hadm
      obtain rfl : adm = [] := by simpa using hadm
      simp [Marker.entering] at hqueue
    | cons i rest =>
      rw [hq, List.cons_append, List.cons_append, List.cons.injEq] at hqueue
      obtain ⟨rfl, hqueue⟩ := hqueue
      rw [makeHead_noRole k hq hnone]
      obtain ⟨x, hx⟩ : ∃ x, x = ((s.modMarker fun m => { m with head := ⟨none, 0, false, s.labelTimeout⟩ }).failed i .noDevice) :=
        ⟨_, rfl⟩
      rw [← hx]
      have hxm : x.marker = { s.marker with
          head := ⟨none, 0, false, s.labelTimeout⟩, failed := s.marker.failed + 1
          lastFailed := some ⟨i, .noDevice, none, 0⟩ } := by rw [hx]; rfl
      have hmade := dropHead_headMade (x := x) ih hk' (by rw [hxm]; exact hwait) (by rw [hxm]; exact hadm)
        (by rw [hxm, hq]; exact hqueue) (by rw [hxm]; exact hlack') (by rw [hxm]; exact hrole)
      obtain ⟨q, w, ws', adm', hdrop, rfl, hmade⟩ := hmade
      refine headMade_cons (q := q) ?_ (by rw [hdrop.timeout, hx]; rfl) (fun p => ?_) (fun h => ?_) hmade
      · rw [hdrop.marker, hxm]
      · rw [hdrop.ports, hx]
        cases p <;> rfl
      · refine (hdrop.admitted adm' _ h).congr (fun n => ?_) (by rw [hxm])
        rw [hx]
        cases n <;> rfl

end Sys2Proof.Machine
end

section
/-! PROOF. The ends of page transactions and the label timer (R152, R157 to R163). -/

namespace Sys2Proof.Machine
open Sys2Proof

/-! ### The head job has left (R156, R162, R163) -/

/-- The role and the state of each device, by which a head job is matched (R156). -/
def Marker.matching (m : Marker) : List (Role × DeviceState) := m.devices.map fun d => (d.role, d.state)

theorem readyDevice_eq_matching (r : Role) (m : Marker) :
    m.readyDevice r = m.matching.findIdx? fun z => z.1 = r && z.2 = .ready := by
  rw [Marker.matching, List.findIdx?_map]
  rfl

theorem lacks_iff_matching (r : Role) (m : Marker) : (∀ y ∈ m.devices, y.role ≠ r) ↔ ∀ z ∈ m.matching, z.1 ≠ r := by
  simp [Marker.matching]

theorem has_iff_matching (r : Role) (m : Marker) : (∃ y ∈ m.devices, y.role = r) ↔ ∃ z ∈ m.matching, z.1 = r := by
  simp [Marker.matching]

/-- In `x` the job in front of `s` has ended, with `m` as the counters, and still stands in front (R162, R163). -/
structure State.Ended (rest : List Job) (m : Marker) (fails : Bool) (s x : State) : Prop where
  frame    : s.OnlyJobs x
  marker   : x.marker = { m with
    devices := x.marker.devices, bus := x.marker.bus, queue := x.marker.queue, head := x.marker.head }
  waiting  : m.waitList = s.marker.waitList
  ticket   : m.ticket = s.marker.ticket
  enqueued : m.enqueued = s.marker.enqueued
  tail     : x.marker.queue.tail = rest
  devices  : x.marker.matching = s.marker.matching
  nests    : ∀ n, x.nest n = s.nest n
  ports    : ∀ p, x.port p = { s.port p with events := (s.port p).events ||| (if fails = true then 0x0200 else 0) }

theorem OnlyJobs.labelTimeout {s x : State} (h : s.OnlyJobs x) : x.labelTimeout = s.labelTimeout := by
  unfold State.OnlyJobs at h
  rw [h]
  rfl

/-- As many jobs as stand in the queue and in the wait list may become head at one event. -/
theorem headFuel_dropHead {rest gone left : List Job} {adm ws : List WaitingJob} {x : State} (htail : x.marker.queue.tail = rest)
    (hwait : x.marker.waitList = adm ++ ws) (hqueue : rest ++ x.marker.entering adm = gone ++ left) :
    gone.length < x.dropHead.headFuel := by
  obtain ⟨q, w, ws', hdrop⟩ := dropHead_dropped x
  have hlen := congrArg List.length (hdrop.entering [])
  have hall := congrArg List.length hqueue
  have hw := congrArg List.length hdrop.waiting
  have hadm := congrArg List.length hwait
  rw [htail] at hlen
  simp only [Marker.entering, List.length_append, List.length_mapIdx, List.length_nil, Nat.add_zero] at hlen hall hw hadm
  have hq : x.dropHead.marker.queue.length = q.length := by rw [hdrop.marker]
  have hws : x.dropHead.marker.waitList.length = ws'.length := by rw [hdrop.marker]
  rw [State.headFuel, hq, hws]
  omega

/-- The job in front that has ended leaves the queue, and the next head is made (R155, R156, R162, R163). -/
theorem State.Ended.headLeft {rest : List Job} {m : Marker} {fails : Bool} {s x : State} (h : s.Ended rest m fails x) :
    State.HeadLeft rest m fails s x.dropHead.nextHead := by
  obtain ⟨hframe, hmarker, hwaiting, hticket, henqueued, htail, hdevices, hnests, hports⟩ := h
  have hxwait : x.marker.waitList = s.marker.waitList := by rw [hmarker, ← hwaiting]
  have hxticket : x.marker.ticket = s.marker.ticket := by rw [hmarker, ← hticket]
  have hxenqueued : x.marker.enqueued = s.marker.enqueued := by rw [hmarker, ← henqueued]
  have hentering (l : List WaitingJob) : x.marker.entering l = s.marker.entering l := by
    rw [Marker.entering, hxticket, Marker.entering]
  refine ⟨hframe.trans ((State.OnlyJobs.dropHead x).trans (State.OnlyJobs.nextHead _)), ?_⟩
  intro gone left adm ws hwait hadm hqueue hlack hrole
  have hlack' : ∀ j ∈ gone, ∀ y ∈ x.marker.devices, y.role ≠ j.role := fun j hj => by
    rw [lacks_iff_matching, hdevices, ← lacks_iff_matching]
    exact hlack j hj
  have hrole' : ∀ j, left.head? = some j → ∃ y ∈ x.marker.devices, y.role = j.role := fun j hj => by
    rw [has_iff_matching, hdevices, ← has_iff_matching]
    exact hrole j hj
  rw [← hentering] at hqueue
  rw [← hxwait] at hwait hadm
  have hfuel := headFuel_dropHead htail hwait hqueue
  rw [← htail] at hqueue
  obtain ⟨q, w, ws', adm', hdrop, rfl, hmade⟩ := dropHead_headMade (makesHeads gone) hfuel hwait hadm hqueue hlack' hrole'
  change x.dropHead.HeadMade gone left adm' ws x.dropHead.nextHead at hmade
  have hsum {n : Nat} (y : BitVec n) (i k : Nat) : y + BitVec.ofNat n i + BitVec.ofNat n k = y + BitVec.ofNat n (i + k) := by
    rw [BitVec.add_assoc, ← BitVec.ofNat_add]
  have hready (r : Role) : x.marker.readyDevice r = s.marker.readyDevice r := by
    rw [readyDevice_eq_matching, hdevices, ← readyDevice_eq_matching]
  refine ⟨?_, (hdrop.admitted adm' _ hmade.admitted).congr hnests hxticket, fun p => ?_⟩
  · have htimeout : x.dropHead.labelTimeout = s.labelTimeout := hdrop.timeout.trans (OnlyJobs.labelTimeout hframe)
    have hdone : x.marker.done = m.done := by rw [hmarker]
    have hdropped : x.marker.dropped = m.dropped := by rw [hmarker]
    have hfailed : x.marker.failed = m.failed := by rw [hmarker]
    have hlast : x.marker.lastFailed = m.lastFailed := by rw [hmarker]
    rw [hmade.marker, htimeout, hdrop.marker]
    simp only [hsum, hxticket, hxenqueued, hdone, hdropped, hfailed, hlast, List.length_append, Marker.readyDevice]
    cases left with
    | nil => simp only [List.head?_nil, ite_self] <;> rfl
    | cons i rest' =>
      simp only [List.head?_cons]
      have := hready i.role
      simp only [Marker.readyDevice] at this
      rw [this] <;> rfl
  · rw [hmade.ports, hdrop.ports, hports]
    cases fails <;> by_cases hg : gone = [] <;> simp [hg, BitVec.or_assoc]

/-! ### The devices, the bus and the new head -/

/-- From `s` to `t` the device table and the bus stand (R156). -/
def SameTable (s t : State) : Prop := t.marker.devices = s.marker.devices ∧ t.marker.bus = s.marker.bus

theorem SameTable.trans {s t u : State} (h : SameTable s t) (h' : SameTable t u) : SameTable s u :=
  ⟨h'.1.trans h.1, h'.2.trans h.2⟩

theorem dropHead_sameTable (s : State) : SameTable s s.dropHead := by
  obtain ⟨q, w, ws, h⟩ := dropHead_dropped s
  exact ⟨by rw [h.marker], by rw [h.marker]⟩

theorem makeHead_sameTable (k : Nat) (s : State) : SameTable s (State.makeHead k s) := by
  induction k generalizing s with
  | zero => exact ⟨rfl, rfl⟩
  | succ k ih =>
    cases hq : s.marker.queue with
    | nil =>
      rw [makeHead_nil _ hq]
      exact ⟨rfl, rfl⟩
    | cons j rest =>
      cases hr : s.marker.hasRole j.role with
      | true =>
        rw [makeHead_role k hq hr]
        exact ⟨rfl, rfl⟩
      | false =>
        rw [makeHead_noRole k hq hr]
        exact SameTable.trans (t := (s.modMarker _).failed j .noDevice) ⟨rfl, rfl⟩ ((dropHead_sameTable _).trans (ih _))

theorem nextHead_sameTable (s : State) : SameTable s s.nextHead := makeHead_sameTable _ s

/-- A head job is at page 0 with its BUSY wait stopped (R156). -/
def Head.fresh (h : Head) : Prop := h.page = 0 ∧ h.busyWait = false

theorem dropHead_fresh (s : State) : s.dropHead.marker.head.fresh := by
  obtain ⟨q, w, ws, h⟩ := dropHead_dropped s
  rw [h.marker]
  exact ⟨rfl, rfl⟩

theorem makeHead_fresh (k : Nat) (s : State) (h : s.marker.head.fresh) : (State.makeHead k s).marker.head.fresh := by
  induction k generalizing s with
  | zero => exact h
  | succ k ih =>
    cases hq : s.marker.queue with
    | nil =>
      rw [makeHead_nil _ hq]
      exact h
    | cons j rest =>
      cases hr : s.marker.hasRole j.role with
      | true =>
        rw [makeHead_role k hq hr]
        exact ⟨rfl, rfl⟩
      | false =>
        rw [makeHead_noRole k hq hr]
        exact ih _ (dropHead_fresh _)

/-- A change of the device table and of the bus alone. -/
theorem HeadLeft.congr {rest : List Job} {m : Marker} {fails : Bool} {s t : State} (h : State.HeadLeft rest m fails s t)
    (ds : List Device) (b : Option Transaction) :
    State.HeadLeft rest m fails s (t.modMarker fun x => { x with devices := ds, bus := b }) := by
  obtain ⟨hframe, hmoves⟩ := h
  refine ⟨?_, fun gone left adm ws hwait hadm hqueue hlack hrole => ?_⟩
  · exact State.OnlyJobs.trans hframe (State.OnlyJobs.modMarker _ t)
  · obtain ⟨hmarker, hadmitted, hports⟩ := hmoves gone left adm ws hwait hadm hqueue hlack hrole
    refine ⟨?_, ⟨hadmitted.nests, hadmitted.others⟩, fun p => ?_⟩
    · exact congrArg (fun x => { x with devices := ds, bus := b }) hmarker
    · rw [← hports p]
      cases p <;> rfl

theorem HeadLeft.startBus {rest : List Job} {m : Marker} {fails : Bool} {s t : State} (h : State.HeadLeft rest m fails s t) :
    State.HeadLeft rest m fails s t.startBus := by
  rw [startBus_eq]
  exact HeadLeft.congr h t.marker.devices (t.marker.bus.or t.marker.nextWork)

theorem startBus_served {t : State} (h : t.marker.bus = none) : t.startBus.marker.Served := by
  rw [startBus_eq]
  exact Marker.served_served h

theorem startBus_devices (t : State) : t.startBus.marker.devices = t.marker.devices := by
  rw [startBus_eq]
  rfl

/-! ### The label timer (R161) -/

/-- A job that fails in front, its transaction changed to `b` (R163). -/
theorem failed_ended {j : Job} {rest : List Job} {s : State} (cause : JobFault) (b : Option Transaction)
    (hqueue : s.marker.queue = j :: rest) : s.Ended rest
      { s.marker with failed := s.marker.failed + 1, lastFailed := some ⟨j, cause, s.marker.head.bound, s.marker.head.page⟩ } true
      ((s.modMarker fun m => { m with bus := b }).failed j cause) := by
  refine ⟨rfl, rfl, rfl, rfl, rfl, ?_, rfl, fun n => by cases n <;> rfl, fun p => by cases p <;> rfl⟩
  exact congrArg List.tail hqueue

/-- Settles O54: the head job fails and the bus is served, with the page under way detached. -/
theorem labelTimeoutFailsTheHead : Obligations.LabelTimeoutFailsTheHead := by
  intro j rest limit s hlive htimer hqueue
  have hended := failed_ended .timeout (s.marker.bus.map Transaction.detachPage) hqueue
  obtain ⟨x, hx⟩ : ∃ x, x = (s.modMarker fun m => { m with bus := s.marker.bus.map Transaction.detachPage }).failed j .timeout :=
    ⟨_, rfl⟩
  rw [← hx] at hended
  have hexec : exec .labelTimerExpiry s = .next x.dropHead.nextHead.startBus := by
    change execLabelTimerExpiry s = _
    have hfail := failHead_cons (s := s.modMarker fun m => { m with bus := m.bus.map Transaction.detachPage }) .timeout hqueue
    simp only [execLabelTimerExpiry, unlessHeld, hlive, htimer, Option.isSome_some, if_true, hfail, hx]
    rfl
  have htable := (dropHead_sameTable x).trans (nextHead_sameTable _)
  have hbus : x.dropHead.nextHead.marker.bus = s.marker.bus.map Transaction.detachPage := by
    rw [htable.2, hx]
    rfl
  have hserved (h : s.marker.bus ≠ none) : x.dropHead.nextHead.startBus.marker.bus = s.marker.bus.map Transaction.detachPage := by
    rw [startBus_eq]
    refine (Marker.served_busy ?_).trans hbus
    rw [hbus]
    simpa using h
  refine ⟨_, hexec, ?_, fun d ctl pay hb => ?_, fun y hb hlone => ?_, fun hb => startBus_served ?_, HeadLeft.startBus hended.headLeft⟩
  · rw [startBus_devices, htable.1, hx]
    rfl
  · rw [hserved (by rw [hb]; simp), hb]
    rfl
  · rw [hserved (by rw [hb]; simp), hb]
    obtain ⟨d, work, fate⟩ := y
    refine congrArg some ?_
    cases work with
    | probe => rfl
    | page ctl pay =>
      have := hlone ctl pay rfl
      cases fate with
      | live => exact absurd rfl this
      | deviceOnly => rfl
      | discarded => rfl
  · rw [hbus, hb]
    rfl

/-! ### What a reply to a page means (R157, R183) -/

theorem pageOutcome_accepted {toggle : Bool} {b : Byte} (h : b.toNat % 16 = 1) (he : b.getLsbD 7 = toggle) :
    pageOutcome toggle (.reply b) = .accepted := by
  simp only [pageOutcome, h, he, if_true]

theorem pageOutcome_busy {toggle : Bool} {b : Byte} (h : b.toNat % 16 = 2) : pageOutcome toggle (.reply b) = .busy := by
  simp [pageOutcome, h]

theorem pageOutcome_reject {toggle : Bool} {b : Byte} (h : b.toNat % 16 = 3) : pageOutcome toggle (.reply b) = .reject := by
  simp [pageOutcome, h]

theorem pageOutcome_linkLoss {toggle : Bool} {r : PageResult} (h : losesLink toggle r) : pageOutcome toggle r = .linkLoss := by
  rcases h with rfl | ⟨b, rfl, ⟨h1, he⟩ | h0 | h3⟩
  · rfl
  · simp only [pageOutcome, h1, if_true, if_neg he]
  · simp [pageOutcome, h0]
  · simp only [pageOutcome]
    rw [if_neg (by omega), if_neg (by omega), if_neg (by omega)]

theorem toggle_of_device {m : Marker} {d : Nat} {x : Device} (h : m.devices[d]? = some x) : m.toggle d = x.toggle := by
  rw [Marker.toggle, h]
  rfl

/-! ### The end of a page transaction (R157 to R163) -/

section
variable {d : Nat} {x : Device} {j : Job} {rest : List Job} {ctl : Byte} {pay : List Byte} {r : PageResult} {s : State}

theorem exec_pageLive (hlive : s.held = false) (hbus : s.marker.bus = some ⟨d, .page ctl pay, .live⟩) :
    exec (.pageTransactionEnd r) s = .next (s.freeBus.pageLive d r).startBus := by
  change execPageTransactionEnd r s = _
  simp only [execPageTransactionEnd, unlessHeld, hlive, hbus]
  rfl

theorem exec_pageDevice (hlive : s.held = false) (hbus : s.marker.bus = some ⟨d, .page ctl pay, .deviceOnly⟩) :
    exec (.pageTransactionEnd r) s = .next (s.freeBus.pageDevice d r).startBus := by
  change execPageTransactionEnd r s = _
  simp only [execPageTransactionEnd, unlessHeld, hlive, hbus]
  rfl

theorem exec_pageDiscarded (hlive : s.held = false) (hbus : s.marker.bus = some ⟨d, .page ctl pay, .discarded⟩) :
    exec (.pageTransactionEnd r) s = .next s.freeBus.startBus := by
  change execPageTransactionEnd r s = _
  simp only [execPageTransactionEnd, unlessHeld, hlive, hbus]
  rfl

/-- The negotiation of the device at `d` on an idle bus (R148, R160). -/
theorem negotiate_idle {m : Marker} (hx : m.devices[d]? = some x) (hbus : m.bus = none) : m.negotiate d = { m with
    devices := m.devices.set d x.renegotiated
    head := if m.head.bound = some d then { m.head with page := 0, busyWait := false } else m.head } := by
  have hset : m.devices.modify d Device.negotiate = m.devices.set d x.renegotiated := modify_eq_set _ hx
  have hdiscard : m.discardWith d = m := by rw [Marker.discardWith, hbus]; exact congrArg (fun b => { m with bus := b }) hbus.symm
  rw [Marker.negotiate, hdiscard, Marker.modDevice, hset, Marker.restartHeadOn]
  split
  · rfl
  · rfl

/-- A job that fails in front at the end of its page transaction (R158, R159, R163). -/
theorem failedPage (cause : JobFault) (hqueue : s.marker.queue = j :: rest) (hbound : s.marker.head.bound = some d) :
    SameTable s.freeBus ((s.freeBus.failHead cause).nextHead) ∧ ((s.freeBus.failHead cause).nextHead).marker.head.fresh ∧
      State.HeadLeft rest
        { s.marker with failed := s.marker.failed + 1, lastFailed := some ⟨j, cause, some d, s.marker.head.page⟩ } true s
        ((s.freeBus.failHead cause).nextHead) := by
  have hended := (failed_ended cause none hqueue).headLeft
  rw [hbound] at hended
  rw [failHead_cons (s := s.freeBus) cause hqueue]
  have htable := (dropHead_sameTable (s.freeBus.failed j cause)).trans (nextHead_sameTable _)
  exact ⟨htable, makeHead_fresh _ _ (dropHead_fresh _), hended⟩

theorem modify_matching {m : Marker} {y : Device} (hx : m.devices[d]? = some x) (hrole : y.role = x.role) (hstate : y.state = x.state) :
    ({ m with devices := m.devices.set d y } : Marker).matching = m.matching := by
  have hself : m.matching[d]? = some (y.role, y.state) := by
    rw [Marker.matching, List.getElem?_map, hx, hrole, hstate]
    rfl
  rw [Marker.matching, List.map_set]
  obtain ⟨hlen, hget⟩ := List.getElem?_eq_some_iff.mp hself
  rw [← hget]
  exact List.set_getElem_self hlen

/-- The state in which the device has taken an accepted page (R157). -/
def State.pageTaken (d : Nat) (x : Device) (s : State) : State :=
  s.modMarker fun m => { m with devices := m.devices.set d { x with toggle := !x.toggle }, bus := none }

theorem pageLive_accepted (hx : s.marker.devices[d]? = some x) (h : pageOutcome x.toggle r = .accepted) :
    s.freeBus.pageLive d r =
      if s.marker.head.page + 1 < x.resolved.getD 0 then
        (s.pageTaken d x).modMarker (Marker.modHead fun h => { h with page := h.page + 1 })
      else (s.pageTaken d x).completeHead d := by
  have htoggle : s.freeBus.marker.toggle d = x.toggle := toggle_of_device hx
  have htaken : s.freeBus.modMarker (Marker.modDevice d fun x => { x with toggle := !x.toggle }) = s.pageTaken d x := by
    have hset := modify_eq_set (fun x => { x with toggle := !x.toggle }) hx
    simp only [State.pageTaken, State.freeBus, State.modMarker, Marker.modDevice, hset]
  have hlen : d < s.marker.devices.length := (List.getElem?_eq_some_iff.mp hx).1
  have hresolved : ((s.pageTaken d x).marker.devices[d]?).bind (·.resolved) = x.resolved := by
    change ((s.marker.devices.set d { x with toggle := !x.toggle })[d]?).bind _ = _
    rw [List.getElem?_set_self hlen]
    rfl
  simp only [State.pageLive, htoggle, h, State.pageAccepted, htaken, hresolved]
  rfl

/-- The last page accepted: the job is done, and the device's history (R162). -/
theorem completed_ended (hx : s.marker.devices[d]? = some x) (hqueue : s.marker.queue = j :: rest) :
    s.Ended rest { s.marker with done := s.marker.done + 1 } false
      ((s.pageTaken d x).modMarker fun m => { m with done := m.done + 1 }.modDevice d fun x => { x with history := some j }) := by
  have hlen : d < s.marker.devices.length := (List.getElem?_eq_some_iff.mp hx).1
  have hset : (s.marker.devices.set d { x with toggle := !x.toggle }).modify d (fun x => { x with history := some j }) =
      s.marker.devices.set d { x with toggle := !x.toggle, history := some j } := by
    rw [modify_eq_set _ (List.getElem?_set_self hlen), List.set_set]
  refine ⟨rfl, rfl, rfl, rfl, rfl, congrArg List.tail hqueue, ?_, fun n => by cases n <;> rfl, fun p => ?_⟩
  · change ({ s.marker with devices := (s.marker.devices.set d _).modify d _ } : Marker).matching = _
    rw [hset]
    exact modify_matching hx rfl rfl
  · cases p
    · exact (or_zero_events _).symm
    · exact (or_zero_events _).symm

end

/-- Settles O53: the last page accepted, and a REJECT. -/
theorem lastPageCompletesTheJob : Obligations.LastPageCompletesTheJob := by
  intro d x j rest ctl pay g s hlive hbus hx hready hg hqueue hbound
  refine ⟨fun hlast => ?_, fun b hb => ?_⟩
  · have hout : pageOutcome x.toggle (.reply (if x.toggle then 0x81 else 0x01)) = .accepted := by
      cases x.toggle <;> rfl
    generalize (if x.toggle then 0x81 else 0x01 : Byte) = b at hout ⊢
    have hended := completed_ended hx hqueue
    obtain ⟨y, hy⟩ : ∃ y, y = (s.pageTaken d x).modMarker
        (fun m => { m with done := m.done + 1 }.modDevice d fun x => { x with history := some j }) := ⟨_, rfl⟩
    have hcomplete : (s.pageTaken d x).completeHead d = y.dropHead.nextHead := by
      have hq : (s.pageTaken d x).marker.queue = j :: rest := hqueue
      rw [State.completeHead, hq, hy]
    rw [← hy] at hended
    have htable := (dropHead_sameTable y).trans (nextHead_sameTable _)
    have hexec := exec_pageLive (r := .reply b) hlive hbus
    rw [pageLive_accepted hx hout, hg, if_neg (by simp; omega), hcomplete] at hexec
    refine ⟨_, hexec, startBus_served ?_, ?_, HeadLeft.startBus hended.headLeft⟩
    · rw [htable.2, hy]
      rfl
    · rw [startBus_devices, htable.1, hy]
      have hlen : d < s.marker.devices.length := (List.getElem?_eq_some_iff.mp hx).1
      exact (modify_eq_set _ (List.getElem?_set_self hlen)).trans (List.set_set _)
  · have hout := pageOutcome_reject (toggle := x.toggle) hb
    have htoggle : s.freeBus.marker.toggle d = x.toggle := toggle_of_device hx
    obtain ⟨htable, -, hleft⟩ := failedPage .deviceReject hqueue hbound
    have hexec := exec_pageLive (r := .reply b) hlive hbus
    simp only [State.pageLive, htoggle, hout] at hexec
    refine ⟨_, hexec, startBus_served htable.2, ?_, HeadLeft.startBus hleft⟩
    rw [startBus_devices, htable.1]
    rfl

end Sys2Proof.Machine
end

section
/-! PROOF. The outcomes of a page (R157 to R161, R163). -/

namespace Sys2Proof.Machine
open Sys2Proof

section
variable {d : Nat} {x : Device} {j : Job} {rest : List Job} {r : PageResult} {s : State}

/-- The negotiation, on an idle bus, of the device that the head job is bound to (R148, R160). -/
theorem negotiate_bound {m : Marker} (hx : m.devices[d]? = some x) (hbus : m.bus = none) (hbound : m.head.bound = some d) :
    m.negotiate d =
      { m with devices := m.devices.set d x.renegotiated, head := { m.head with page := 0, busyWait := false } } := by
  rw [negotiate_idle hx hbus, if_pos hbound]

/-- A link loss that leaves a head job its restarts (R159). -/
theorem pageLive_restart (hx : s.marker.devices[d]? = some x) (hqueue : s.marker.queue = j :: rest) (hbound : s.marker.head.bound = some d)
    (hout : pageOutcome x.toggle r = .linkLoss) (hrestarts : j.restarts < 3) :
    s.freeBus.pageLive d r = s.modMarker fun m => { m with
      queue := { j with restarts := j.restarts + 1 } :: rest
      devices := m.devices.set d x.renegotiated, head := { m.head with page := 0, busyWait := false }, bus := none } := by
  have htoggle : s.freeBus.marker.toggle d = x.toggle := toggle_of_device hx
  have hq : s.freeBus.marker.queue = j :: rest := hqueue
  have hnegotiate := negotiate_bound (m := { s.freeBus.marker with queue := { j with restarts := j.restarts + 1 } :: rest })
    hx rfl hbound
  simp only [State.pageLive, htoggle, hout, State.linkLoss, hq, if_pos hrestarts]
  exact congrArg (fun m => { s with marker := m }) hnegotiate

/-- The third link loss of a head job: it fails, and the device is negotiated beside the new head (R159, R163). -/
theorem pageLive_restartLimit (hx : s.marker.devices[d]? = some x) (hqueue : s.marker.queue = j :: rest)
    (hbound : s.marker.head.bound = some d) (hout : pageOutcome x.toggle r = .linkLoss) (hrestarts : 3 ≤ j.restarts) :
    s.freeBus.pageLive d r = ((s.freeBus.failHead .restartLimit).nextHead).modMarker fun m => { m with
      devices := s.marker.devices.set d x.renegotiated, bus := none } := by
  have htoggle : s.freeBus.marker.toggle d = x.toggle := toggle_of_device hx
  have hq : s.freeBus.marker.queue = j :: rest := hqueue
  obtain ⟨htable, ⟨hpage, hbusy⟩, -⟩ := failedPage .restartLimit hqueue hbound
  generalize hy : (s.freeBus.failHead .restartLimit).nextHead = y at htable hpage hbusy ⊢
  have hdevices : y.marker.devices = s.marker.devices := htable.1
  have hbus : y.marker.bus = none := htable.2
  have hnegotiate := negotiate_idle (x := x) (d := d) (m := y.marker) (hdevices ▸ hx) hbus
  have hhead : ({ y.marker.head with page := 0, busyWait := false } : Head) = y.marker.head := by
    rw [← hpage, ← hbusy]
  rw [hhead, ite_self, hdevices] at hnegotiate
  simp only [State.pageLive, htoggle, hout, State.linkLoss, hq, if_neg (Nat.not_lt.mpr hrestarts), hy]
  refine (congrArg (fun m => { y with marker := m }) hnegotiate).trans ?_
  exact congrArg (fun b => { y with marker := { y.marker with devices := s.marker.devices.set d x.renegotiated, bus := b } }) hbus

end

/-- Settles O52: each outcome of a live transaction, and of one that its job or its device has left. -/
theorem pageOutcomes : Obligations.PageOutcomes := by
  refine ⟨fun d x j rest ctl pay g s hlive hbus hx hready hg hqueue hbound => ⟨fun b h1 he hpage => ?_, fun b h2 => ?_, fun r hr =>
    ⟨fun hrestarts => ?_, fun hrestarts => ?_⟩⟩, fun d x ctl pay s hlive hbus hx => ⟨fun b h1 he => ?_, fun b h23 => ?_,
    fun r hr => ?_⟩, fun d ctl pay r s hlive hbus => ?_⟩
  · have hexec := exec_pageLive (r := .reply b) hlive hbus
    rw [pageLive_accepted hx (pageOutcome_accepted h1 he), hg, Option.getD_some, if_pos hpage, startBus_eq] at hexec
    exact ⟨_, hexec, Marker.served_served rfl, rfl, rfl, rfl, rfl⟩
  · have htoggle : s.freeBus.marker.toggle d = x.toggle := toggle_of_device hx
    have hexec := exec_pageLive (r := .reply b) hlive hbus
    simp only [State.pageLive, htoggle, pageOutcome_busy h2, startBus_eq] at hexec
    exact ⟨_, hexec, Marker.served_served rfl, rfl, rfl, rfl, rfl⟩
  · have hexec := exec_pageLive (r := r) hlive hbus
    rw [pageLive_restart hx hqueue hbound (pageOutcome_linkLoss hr) hrestarts, startBus_eq] at hexec
    exact ⟨_, hexec, Marker.served_served rfl, rfl, rfl, rfl, rfl⟩
  · have hexec := exec_pageLive (r := r) hlive hbus
    rw [pageLive_restartLimit hx hqueue hbound (pageOutcome_linkLoss hr) hrestarts] at hexec
    obtain ⟨-, -, hleft⟩ := failedPage .restartLimit hqueue hbound
    refine ⟨_, hexec, startBus_served rfl, ?_, HeadLeft.startBus (HeadLeft.congr hleft _ _)⟩
    rw [startBus_devices]
    rfl
  · have htoggle : s.freeBus.marker.toggle d = x.toggle := toggle_of_device hx
    have hset : (s.freeBus.marker.modDevice d fun x => { x with toggle := !x.toggle }).devices =
        s.marker.devices.set d { x with toggle := !x.toggle } := modify_eq_set _ hx
    have hexec := exec_pageDevice (r := .reply b) hlive hbus
    simp only [State.pageDevice, htoggle, pageOutcome_accepted h1 he, startBus_eq] at hexec
    exact ⟨_, hexec, Marker.served_served rfl, hset, rfl⟩
  · have htoggle : s.freeBus.marker.toggle d = x.toggle := toggle_of_device hx
    have hexec := exec_pageDevice (r := .reply b) hlive hbus
    have hsame : s.freeBus.pageDevice d (.reply b) = s.freeBus := by
      rcases h23 with h2 | h3
      · simp only [State.pageDevice, htoggle, pageOutcome_busy h2]
      · simp only [State.pageDevice, htoggle, pageOutcome_reject h3]
    rw [hsame, startBus_eq] at hexec
    exact ⟨_, hexec, Marker.served_served rfl, rfl⟩
  · have htoggle : s.freeBus.marker.toggle d = x.toggle := toggle_of_device hx
    have hexec := exec_pageDevice (r := r) hlive hbus
    have hnegotiate := negotiate_idle (x := x) (d := d) (m := s.freeBus.marker) hx rfl
    simp only [State.pageDevice, htoggle, pageOutcome_linkLoss hr] at hexec
    have hstate : s.freeBus.modMarker (Marker.negotiate d) = s.modMarker fun m => { m with
        devices := m.devices.set d x.renegotiated
        head := if m.head.bound = some d then { m.head with page := 0, busyWait := false } else m.head
        bus := none } := congrArg (fun m => { s with marker := m }) hnegotiate
    rw [hstate, startBus_eq] at hexec
    have hlen : d < s.marker.devices.length := (List.getElem?_eq_some_iff.mp hx).1
    refine ⟨_, hexec, Marker.served_served rfl, rfl, rfl, ?_, rfl⟩
    exact Marker.served_bus_ne_none (d := d) (x := x.renegotiated) (List.getElem?_set_self hlen) rfl rfl
  · have hexec := exec_pageDiscarded (r := r) hlive hbus
    rw [startBus_eq] at hexec
    exact ⟨_, hexec, Marker.served_served rfl, fun i hi => (Marker.served_idle rfl).trans (Marker.nextWork_probe hi), rfl⟩

end Sys2Proof.Machine
end

section
/-! PROOF. The ends of probes, and MARKER START's completion (R149 to R152, R156, R160). -/

namespace Sys2Proof.Machine
open Sys2Proof

/-! ### The completion of MARKER START (R151, R185) -/

theorem markerStartBody_eq (m : Marker) : markerStartBody m = byte m.devices.length ++ (m.devices.map fun d =>
    byte d.address ++
    byte ((match d.role with | .label => 0 | .reject => 1) +
      2 * (match d.state with | .down => 0 | .negotiating => 1 | .ready => 2 | .fault => 3) +
      8 * (match d.cause with | none => 0 | some .absent => 1 | some .badVersion => 2 | some .noCommonFormat => 3)) ++
    byte (d.resolved.getD 0)).flatten := rfl

theorem markerStartBody_length (m : Marker) : (markerStartBody m).length = 1 + 3 * m.devices.length := by
  have hconst (l : List Device) : ((l.map fun d => byte d.address ++ byte d.stateBits ++ byte (d.resolved.getD 0)).flatten).length =
      3 * l.length := by
    induction l with
    | nil => rfl
    | cons d l ih =>
      simp only [List.map_cons, List.flatten_cons, List.length_append, ih, byte_length, List.length_cons]
      omega
  rw [markerStartBody, List.length_append, byte_length, hconst]

theorem negotiating_eq_false_iff (m : Marker) : m.negotiating = false ↔ ∀ d ∈ m.devices, d.state ≠ .negotiating := by
  simp [Marker.negotiating]

/-- MARKER START completes on the Station Port where it runs and no device is NEGOTIATING (R151). -/
theorem settleMarkerStart_eq (s : State) :
    s.settleMarkerStart = { s with station := Port.startSettled s.marker.devices s.station } := by
  unfold State.settleMarkerStart Port.startSettled State.runs
  change (if ((match s.station.running with | some q => decide (q.request = .markerStart) && q.taken | none => false) &&
    !s.marker.negotiating) = true then _ else _) = _
  cases hr : s.station.running with
  | none => rfl
  | some q =>
    obtain ⟨r, ps, taken⟩ := q
    by_cases hrun : r = .markerStart ∧ taken = true
    · obtain ⟨rfl, rfl⟩ := hrun
      by_cases hneg : ∀ d ∈ s.marker.devices, d.state ≠ .negotiating
      · have hn := (negotiating_eq_false_iff s.marker).mpr hneg
        simp only [hn, Bool.not_false, Bool.and_true, decide_true, if_true, if_pos hneg]
        rw [answerLate_station, markerStartBody_length, markerStartBody_eq] <;> rfl
      · have hn : s.marker.negotiating = true := by
          rw [← Bool.not_eq_false, negotiating_eq_false_iff]
          exact hneg
        simp only [hn, Bool.not_true, Bool.and_false, if_neg hneg]
        rfl
    · have hcond : (decide (r = .markerStart) && taken) = false := by
        cases taken with
        | false => simp
        | true => simpa using hrun
      simp only [hcond, Bool.false_and]
      cases taken with
      | false => cases r <;> rfl
      | true => cases r <;> first | rfl | exact absurd ⟨rfl, rfl⟩ hrun

theorem startSettled_negotiating {devices : List Device} {d : Device} (hd : d ∈ devices) (hs : d.state = .negotiating) (q : Port) :
    Port.startSettled devices q = q := by
  unfold Port.startSettled
  split
  · rw [if_neg fun h => h d hd hs]
  · rfl

/-! ### The first device of a kind, in a table one device of which has changed -/

theorem map_set_same {β : Type} {l : List Device} {d : Nat} {x y : Device} (p : Device → β) (hx : l[d]? = some x) (h : p y = p x) :
    (l.set d y).map p = l.map p := by
  obtain ⟨hlen, hget⟩ := List.getElem?_eq_some_iff.mp hx
  rw [List.map_set, h, ← hget, ← List.getElem_map p (h := by simpa using hlen)]
  exact List.set_getElem_self _

theorem findIdx?_set_same {l : List Device} {d : Nat} {x y : Device} (p : Device → Bool) (hx : l[d]? = some x) (h : p y = p x) :
    (l.set d y).findIdx? p = l.findIdx? p := by
  have hmap (l : List Device) : l.findIdx? p = (l.map p).findIdx? id := by rw [List.findIdx?_map]; rfl
  rw [hmap, map_set_same p hx h, ← hmap]

/-- Device `d` alone can be found, where no other device is of the kind. -/
theorem findIdx?_set_only {l : List Device} {d : Nat} {y : Device} (p : Device → Bool) (hd : d < l.length)
    (hother : ∀ x ∈ l, p x = false) : (l.set d y).findIdx? p = if p y = true then some d else none := by
  by_cases hy : p y = true
  · rw [if_pos hy]
    exact findIdx?_set_first hd hy fun i x _ hx => hother x (List.mem_of_getElem? hx)
  · rw [if_neg hy, List.findIdx?_eq_none_iff]
    intro z hz
    rcases List.mem_or_eq_of_mem_set hz with hz | rfl
    · exact hother z hz
    · simpa using hy

/-! ### The end of a probe (R149, R150) -/

/-- The bus is free and the device at `d` has become `y`. -/
def State.probed (d : Nat) (y : Device) (s : State) : State :=
  s.modMarker fun m => { m with devices := m.devices.set d y, bus := none }

section
variable {d : Nat} {x : Device} {s : State}

theorem exec_probeEnd {r : ProbeResult} (hlive : s.held = false) (hbus : s.marker.bus = some ⟨d, .probe, .live⟩) :
    exec (.probeEnd r) s = .next ({ s.freeBus.probeOutcome d r with
      marker := (s.freeBus.probeOutcome d r).marker.served
      station := Port.startSettled (s.freeBus.probeOutcome d r).marker.devices (s.freeBus.probeOutcome d r).station }) := by
  change execProbeEnd r s = _
  simp only [execProbeEnd, unlessHeld, hlive, hbus, startBus_eq, settleMarkerStart_eq]
  rfl

theorem freeBus_modDevice (f : Device → Device) (hx : s.marker.devices[d]? = some x) :
    s.freeBus.modMarker (Marker.modDevice d f) = s.probed d (f x) := by
  have hset := modify_eq_set f hx
  simp only [State.probed, State.freeBus, State.modMarker, Marker.modDevice, hset]

theorem probed_modDevice (f : Device → Device) (y : Device) (hd : d < s.marker.devices.length) :
    (s.probed d y).modMarker (Marker.modDevice d f) = s.probed d (f y) := by
  have hset : (s.marker.devices.set d y).modify d f = s.marker.devices.set d (f y) := by
    rw [modify_eq_set f (List.getElem?_set_self hd), List.set_set]
  simp only [State.probed, State.modMarker, Marker.modDevice, hset]

theorem probed_device (y : Device) (hd : d < s.marker.devices.length) : (s.probed d y).marker.devices[d]? = some y :=
  List.getElem?_set_self hd

/-- The device of a fault, without its head job (R149, R150). -/
def State.faulted (d : Nat) (cause : DeviceFault) (y : Device) (s : State) : State :=
  (s.probed d { y with state := .fault, cause := some cause }).latchBoth .markerFault

theorem probed_faultDevice (cause : DeviceFault) (y : Device) (hd : d < s.marker.devices.length) :
    (s.probed d y).faultDevice d cause =
      if s.marker.head.bound = some d then (s.faulted d cause y).rematchHead else s.faulted d cause y := by
  rw [State.faultDevice, probed_modDevice _ y hd]
  rfl

/-- A NAK (R149). -/
theorem probeNak_eq (hx : s.marker.devices[d]? = some x) : s.freeBus.probeNak d =
    if x.naks < 2 then s.probed d { x with naks := x.naks + 1, retryWait := true }
    else (s.probed d { x with naks := x.naks + 1 }).faultDevice d .absent := by
  have hd : d < s.marker.devices.length := (List.getElem?_eq_some_iff.mp hx).1
  have hnaks : (((s.probed d { x with naks := x.naks + 1 }).marker.devices[d]?).map (·.naks)).getD 0 = x.naks + 1 := by
    rw [probed_device _ hd]
    rfl
  simp only [State.probeNak, freeBus_modDevice _ hx, hnaks, probed_modDevice _ _ hd]
  by_cases h : x.naks < 2
  · rw [if_pos h, if_pos (by omega)]
  · rw [if_neg h, if_neg (by omega)]

/-- An ability page (R150). -/
theorem probePage_eq (a : Abilities) (hx : s.marker.devices[d]? = some x) : s.freeBus.probePage d a =
    if a.version ≠ 1 then (s.probed d { x with abilities := some a }).faultDevice d .badVersion
    else
      match resolveFormat s.preferences a.formats a.maxPages with
      | none => (s.probed d { x with abilities := some a }).faultDevice d .noCommonFormat
      | some f => (s.probed d { x with abilities := some a }).readyDevice d f := by
  simp only [State.probePage, freeBus_modDevice _ hx]
  rfl

/-- A device that enters READY, with the head job in front (R150, R156). -/
theorem probed_readyDevice (f : Nat) (y : Device) (hd : d < s.marker.devices.length) : (s.probed d y).readyDevice d f =
    match s.marker.queue, s.marker.head.bound with
    | j :: _, none => (s.probed d { y with state := .ready, resolved := some f, toggle := false }).modMarker
        (Marker.modHead fun h => { h with
          bound := (s.probed d { y with state := .ready, resolved := some f, toggle := false }).marker.readyDevice j.role })
    | _, _ => s.probed d { y with state := .ready, resolved := some f, toggle := false } := by
  rw [State.readyDevice, probed_modDevice _ y hd]
  rfl

theorem probed_otherDevice (y : Device) {i : Nat} (hi : i ≠ d) : (s.probed d y).marker.devices[i]? = s.marker.devices[i]? :=
  List.getElem?_set_ne (Ne.symm hi)

end

/-- The head job in front is matched again where its role stands in the table (R156, R160). -/
theorem rematchHead_role {t : State} {j : Job} {rest : List Job} (hqueue : t.marker.queue = j :: rest)
    (hrole : ∃ y ∈ t.marker.devices, y.role = j.role) : t.rematchHead = t.modMarker fun m => { m with
      head := { m.head with bound := m.readyDevice j.role, page := 0, busyWait := false } } := by
  rw [State.rematchHead, hqueue]
  exact if_pos ((hasRole_eq_true_iff _ _).mpr hrole)

/-- The head job of a device in FAULT is matched again (R149, R156, R160). -/
theorem faulted_rematchHead {d : Nat} {x : Device} {j : Job} {rest : List Job} {s : State} {cause : DeviceFault}
    (hx : s.marker.devices[d]? = some x) (hneg : x.state = .negotiating) (hqueue : s.marker.queue = j :: rest)
    (hrole : x.role = j.role) : (s.faulted d cause { x with naks := x.naks + 1 }).rematchHead =
      (s.faulted d cause { x with naks := x.naks + 1 }).modMarker fun m => { m with head := { s.marker.head with
        bound := s.marker.devices.findIdx? (fun y => y.role = j.role && y.state = .ready), page := 0, busyWait := false } } := by
  have hd : d < s.marker.devices.length := (List.getElem?_eq_some_iff.mp hx).1
  have hready : (s.faulted d cause { x with naks := x.naks + 1 }).marker.readyDevice j.role =
      s.marker.devices.findIdx? fun y => y.role = j.role && y.state = .ready :=
    findIdx?_set_same _ hx (by simp [hneg])
  rw [rematchHead_role (t := s.faulted d cause { x with naks := x.naks + 1 }) (rest := rest) hqueue
    ⟨_, List.mem_of_getElem? (probed_device { x with naks := x.naks + 1, state := .fault, cause := some cause } hd), hrole⟩, ← hready]
  rfl

/-! ### The resolved format (R150) -/

theorem supports_iff (formats maxPages : Byte) (g : Nat) :
    (formats.getLsbD (g - 1) && decide (formatPages g ≤ maxPages.toNat)) = true ↔
      formats.getLsbD (g - 1) = true ∧ g ≤ maxPages.toNat := by
  rw [Bool.and_eq_true, decide_eq_true_eq, formatPages]

theorem resolveFormat_eq_some_iff (prefs : List Nat) (f m : Byte) (g : Nat) : resolveFormat prefs f m = some g ↔
    ∃ before after, prefs = before ++ g :: after ∧ (f.getLsbD (g - 1) = true ∧ g ≤ m.toNat) ∧
      ∀ x ∈ before, ¬(f.getLsbD (x - 1) = true ∧ x ≤ m.toNat) := by
  rw [resolveFormat, List.find?_eq_some_iff_append]
  simp only [supports_iff, Bool.not_eq_true', ← Bool.not_eq_true]
  constructor
  · rintro ⟨hg, before, after, hprefs, hbefore⟩
    exact ⟨before, after, hprefs, hg, hbefore⟩
  · rintro ⟨before, after, hprefs, hg, hbefore⟩
    exact ⟨hg, before, after, hprefs, hbefore⟩

theorem resolveFormat_eq_none_iff (prefs : List Nat) (f m : Byte) :
    resolveFormat prefs f m = none ↔ ∀ x ∈ prefs, ¬(f.getLsbD (x - 1) = true ∧ x ≤ m.toNat) := by
  rw [resolveFormat, List.find?_eq_none]
  simp only [supports_iff]

/-- Settles O50: each outcome of a probe, without and with a label job waiting. -/
theorem probeOutcomes : Obligations.ProbeOutcomes := by
  refine ⟨fun prefs f m => ⟨resolveFormat_eq_some_iff prefs f m, resolveFormat_eq_none_iff prefs f m⟩,
    fun d x s hlive hbus hx hneg hqueue hbound => ?_, fun d x v f m k s hlive hbus hx hneg hqueue hbound => ?_,
    fun d g x f m k j rest s hlive hbus hx hneg hqueue hbound hres hnone => ?_,
    fun d g x f m k j rest s hlive hbus hx hneg hqueue hbound hbusy hres hwait => ?_,
    fun d x j rest s hlive hbus hx hneg hnaks hqueue hbound hrole => ?_⟩
  · have hd : d < s.marker.devices.length := (List.getElem?_eq_some_iff.mp hx).1
    refine ⟨_, exec_probeEnd (r := .nak) hlive hbus, ?_⟩
    rw [State.probeOutcome, probeNak_eq hx]
    by_cases hfew : x.naks < 2
    · rw [if_pos hfew]
      refine ⟨Marker.served_served rfl, fun _ => ⟨probed_device _ hd, rfl, ?_⟩, fun h => absurd h (by omega),
        fun i hi => probed_otherDevice _ hi, rfl⟩
      exact startSettled_negotiating
        (List.mem_of_getElem? (probed_device { x with naks := x.naks + 1, retryWait := true } hd)) hneg _
    · rw [if_neg hfew, probed_faultDevice _ _ hd, if_neg (by rw [hbound]; simp)]
      exact ⟨Marker.served_served rfl, fun h => absurd h hfew, fun _ => ⟨probed_device _ hd, rfl, rfl⟩,
        fun i hi => probed_otherDevice _ hi, rfl⟩
  · have hd : d < s.marker.devices.length := (List.getElem?_eq_some_iff.mp hx).1
    refine ⟨_, exec_probeEnd (r := .page v f m k) hlive hbus, ?_⟩
    rw [State.probeOutcome, probePage_eq _ hx]
    have hfree : ¬s.marker.head.bound = some d := by rw [hbound]; simp
    by_cases hv : v = 1
    · rw [if_neg (not_not_intro hv)]
      cases hres : resolveFormat s.preferences f m with
      | none =>
        dsimp only
        rw [probed_faultDevice _ _ hd, if_neg hfree]
        exact ⟨Marker.served_served rfl, fun h => absurd hv h, fun g _ h => (by cases h), fun _ _ => probed_device _ hd,
          fun _ => ⟨rfl, rfl⟩, fun i hi => probed_otherDevice _ hi, rfl⟩
      | some g =>
        dsimp only
        have hready : ((s.probed d { x with abilities := some ⟨v, f, m, k⟩ }).readyDevice d g) = s.probed d
            { x with abilities := some ⟨v, f, m, k⟩, state := .ready, resolved := some g, toggle := false } := by
          rw [probed_readyDevice _ _ hd, hqueue]
        rw [hready]
        refine ⟨Marker.served_served rfl, fun h => absurd hv h, fun g' _ h => ?_, fun _ h => (by cases h), fun h => ?_,
          fun i hi => probed_otherDevice _ hi, rfl⟩
        · cases h
          exact ⟨probed_device _ hd, rfl, rfl⟩
        · rcases h with h | h
          · exact absurd hv h
          · cases h
    · rw [if_pos hv, probed_faultDevice _ _ hd, if_neg hfree]
      exact ⟨Marker.served_served rfl, fun _ => probed_device _ hd, fun g h => absurd h hv, fun h => absurd h hv,
        fun _ => ⟨rfl, rfl⟩, fun i hi => probed_otherDevice _ hi, rfl⟩
  · have hd : d < s.marker.devices.length := (List.getElem?_eq_some_iff.mp hx).1
    refine ⟨_, exec_probeEnd (r := .page 1 f m k) hlive hbus, ?_⟩
    rw [State.probeOutcome, probePage_eq _ hx, if_neg (by simp), hres]
    dsimp only
    rw [probed_readyDevice _ _ hd, hqueue, hbound]
    refine ⟨Marker.served_served rfl, rfl, ?_, hqueue, rfl, rfl⟩
    refine congrArg (fun b => { s.marker.head with bound := b }) ((findIdx?_set_only _ hd fun y hy => ?_).trans ?_)
    · have := hnone y hy
      by_cases hr : y.role = j.role
      · simp [hr, this hr]
      · simp [hr]
    · by_cases hr : x.role = j.role
      · simp [hr]
      · simp [hr]
  · have hd : d < s.marker.devices.length := (List.getElem?_eq_some_iff.mp hx).1
    refine ⟨_, exec_probeEnd (r := .page 1 f m k) hlive hbus, ?_⟩
    rw [State.probeOutcome, probePage_eq _ hx, if_neg (by simp), hres]
    dsimp only
    have hready : ((s.probed d { x with abilities := some ⟨1, f, m, k⟩ }).readyDevice d g) = s.probed d
        { x with abilities := some ⟨1, f, m, k⟩, state := .ready, resolved := some g, toggle := false } := by
      rw [probed_readyDevice _ _ hd, hqueue, hbound]
    rw [hready]
    refine ⟨Marker.served_served rfl, rfl, ?_, rfl, rfl⟩
    refine (Marker.served_idle rfl).trans ?_
    refine Marker.nextWork_page (m := (s.probed d { x with
      abilities := some ⟨1, f, m, k⟩, state := .ready, resolved := some g, toggle := false }).marker)
      (fun y hy hs => ?_) hqueue hbound (probed_device _ hd) rfl hbusy
    obtain ⟨i, hi⟩ := List.mem_iff_getElem?.mp hy
    by_cases hid : i = d
    · subst hid
      rw [probed_device _ hd] at hi
      cases hi
      cases hs
    · rw [probed_otherDevice _ hid] at hi
      exact hwait i y hid hi hs
  · have hd : d < s.marker.devices.length := (List.getElem?_eq_some_iff.mp hx).1
    refine ⟨_, exec_probeEnd (r := .nak) hlive hbus, ?_⟩
    rw [State.probeOutcome, probeNak_eq hx, if_neg (by omega), probed_faultDevice _ _ hd, if_pos hbound,
      faulted_rematchHead hx hneg hqueue hrole]
    exact ⟨Marker.served_served rfl, rfl, rfl, rfl, rfl, rfl⟩

end Sys2Proof.Machine
end

section
/-! PROOF. MARKER START and its ABANDON, and REPRINT (R148, R151, R155, R156, R160, R164). -/

namespace Sys2Proof.Machine
open Sys2Proof

theorem begun_modMarker (p : PortId) (r : Request) (params : List Byte) (b : Bool) (f : Marker → Marker) (s : State) :
    (s.begun p r params b).modMarker f = (s.modMarker f).begun p r params b := by
  cases p <;> rfl

/-! ### The negotiation of every device (R148, R151) -/

/-- The head job after a negotiation of the devices before `k` (R148, R160). -/
def Head.restarted (k : Nat) (h : Head) : Head :=
  match h.bound with
  | some d => if d < k then { h with page := 0, busyWait := false } else h
  | none => h

theorem Head.restarted_succ (k : Nat) (h : Head) : (if (h.restarted k).bound = some k then
    { h.restarted k with page := 0, busyWait := false } else h.restarted k) = h.restarted (k + 1) := by
  unfold Head.restarted
  cases hb : h.bound with
  | none => simp [hb]
  | some d =>
    rcases Nat.lt_trichotomy d k with hd | rfl | hd
    · simp [hd, show d < k + 1 by omega]
    · simp [hb]
    · simp [hb, show ¬d < k by omega, show ¬d < k + 1 by omega, show d ≠ k by omega]

/-- The devices before `k` have been negotiated, one after another (R148). -/
theorem negotiate_range (m : Marker) (k : Nat) : (List.range k).foldl (fun m d => m.negotiate d) m = { m with
    devices := m.devices.mapIdx fun i d => if i < k then d.negotiate else d
    bus := m.bus.map fun t => if t.device < k then { t with fate := .discarded } else t
    head := m.head.restarted k } := by
  induction k with
  | zero =>
    have hhead : m.head.restarted 0 = m.head := by
      unfold Head.restarted
      split <;> rfl
    have hdevices : (m.devices.mapIdx fun _ d => d) = m.devices := List.ext_getElem? (by simp)
    simp [hhead, hdevices]
  | succ k ih =>
    rw [List.range_succ, List.foldl_append, ih]
    have hdevices : (m.devices.mapIdx fun i d => if i < k then d.negotiate else d).modify k Device.negotiate =
        m.devices.mapIdx fun i d => if i < k + 1 then d.negotiate else d := by
      apply List.ext_getElem?
      intro i
      rw [List.getElem?_modify, List.getElem?_mapIdx, List.getElem?_mapIdx]
      rcases Nat.lt_trichotomy i k with hi | rfl | hi
      · simp [hi, show i < k + 1 by omega, show k ≠ i by omega]
      · cases m.devices[i]? <;> simp
      · simp [show ¬i < k by omega, show ¬i < k + 1 by omega, show k ≠ i by omega]
    have hbus : ((m.bus.map fun t => if t.device < k then { t with fate := .discarded } else t).map
        fun t => if t.device = k then { t with fate := .discarded } else t) =
        m.bus.map fun t => if t.device < k + 1 then { t with fate := .discarded } else t := by
      cases m.bus with
      | none => rfl
      | some t =>
        refine congrArg some ?_
        rcases Nat.lt_trichotomy t.device k with ht | ht | ht
        · simp [ht, show t.device < k + 1 by omega]
        · simp [ht]
        · simp [show ¬t.device < k by omega, show ¬t.device < k + 1 by omega, show t.device ≠ k by omega]
    simp only [List.foldl_cons, List.foldl_nil, Marker.negotiate, Marker.discardWith, Marker.modDevice, Marker.restartHeadOn,
      hdevices, hbus, ← Head.restarted_succ k m.head]
    split <;> rfl

theorem negotiateAll_eq (m : Marker) : m.negotiateAll = { m with
    devices := m.devices.map Device.negotiate
    bus := m.bus.map fun t => if t.device < m.devices.length then { t with fate := .discarded } else t
    head := m.head.restarted m.devices.length } := by
  have hdevices : (m.devices.mapIdx fun i d => if i < m.devices.length then d.negotiate else d) = m.devices.map Device.negotiate := by
    apply List.ext_getElem
    · simp
    · intro i hi _
      have : i < m.devices.length := by simpa using hi
      simp [this]
  rw [Marker.negotiateAll, negotiate_range, hdevices]

/-- Settles O23: the negotiation of each device in turn. -/
theorem markerStartNegotiatesEveryDevice : Obligations.MarkerStartNegotiatesEveryDevice := by
  refine ⟨fun s hs hplan hdevices => ?_, fun s hs hplan => ?_, fun s hs hplan hdevices => ?_⟩
  · have htake : takeOf .markerStart .station (writeBytes (s.port .station).params 0 []) (s.begun .station .markerStart [] true) =
        State.begun .station .markerStart [] true (s.modMarker fun m => m.negotiateAll.served) := by
      change takeMarkerStart .station (writeBytes (s.port .station).params 0 []) (s.begun .station .markerStart [] true) = _
      rw [takeMarkerStart, begun_plan, begun_marker, if_neg (by simpa using hplan), if_neg (by simpa using hdevices), startBus_eq,
        modMarker_modMarker, begun_modMarker]
    have hall := negotiateAll_eq s.marker
    have hhead (d : Nat) (hb : s.marker.head.bound = some d) (hd : d < s.marker.devices.length) :
        s.marker.negotiateAll.head = { s.marker.head with page := 0, busyWait := false } := by
      rw [hall]
      simp only [Head.restarted, hb, if_pos hd]
    have hbound : s.marker.negotiateAll.head.bound = s.marker.head.bound ∧
        s.marker.negotiateAll.head.timer = s.marker.head.timer := by
      rw [hall]
      simp only [Head.restarted]
      split
      · split <;> exact ⟨rfl, rfl⟩
      · exact ⟨rfl, rfl⟩
    have hlists : s.marker.negotiateAll.queue = s.marker.queue ∧ s.marker.negotiateAll.waitList = s.marker.waitList := by
      rw [hall]
      exact ⟨rfl, rfl⟩
    obtain ⟨y, l, hl⟩ := List.exists_cons_of_ne_nil hdevices
    have hnone (h : s.marker.bus = none) : s.marker.negotiateAll.served.bus = some ⟨0, .probe, .live⟩ := by
      refine (Marker.served_idle (by rw [hall, h]; rfl)).trans (Marker.nextWork_probe ?_)
      rw [hall, hl]
      rfl
    have hsome (x : Transaction) (h : s.marker.bus = some x) : s.marker.negotiateAll.served.bus =
        some (if x.device < s.marker.devices.length then { x with fate := .discarded } else x) := by
      have hb : s.marker.negotiateAll.bus = some (if x.device < s.marker.devices.length then { x with fate := .discarded } else x) := by
        rw [hall, h]
        rfl
      rw [Marker.served_busy (by rw [hb]; simp), hb]
    refine ⟨_, exec_taken (r := .markerStart) (by decide) rfl hs htake, ?_, ?_, ?_, ?_, hbound.1, hbound.2, hhead, fun hb => ?_,
      fun x hx hd => ?_, hnone, ?_⟩
    · exact congrArg Marker.devices hall
    · cases hb : s.marker.bus with
      | none => exact fun h => Option.some_ne_none _ ((hnone hb).symm.trans h)
      | some x => exact fun h => Option.some_ne_none _ ((hsome x hb).symm.trans h)
    · exact hlists.1
    · exact hlists.2
    · refine (congrArg Marker.head hall).trans ?_
      simp only [Head.restarted, hb]
    · refine (hsome x hx).trans ?_
      rw [if_pos hd]
    · have hframe : s.marker.negotiateAll.served = { s.marker with
          devices := s.marker.negotiateAll.served.devices, bus := s.marker.negotiateAll.served.bus
          head := s.marker.negotiateAll.served.head } := by
        rw [Marker.served, hall]
      exact congrArg (fun m => State.begun .station .markerStart [] true { s with marker := m }) hframe
  · refine exec_taken (r := .markerStart) (by decide) rfl hs ?_
    change takeMarkerStart .station (writeBytes (s.port .station).params 0 []) (s.begun .station .markerStart [] true) = _
    rw [takeMarkerStart, begun_plan, hplan]
    exact begun_refuse _ _ _ _ _ _ _
  · refine exec_taken (r := .markerStart) (by decide) rfl hs ?_
    change takeMarkerStart .station (writeBytes (s.port .station).params 0 []) (s.begun .station .markerStart [] true) = _
    have hbody : markerStartBody s.marker = byte 0 := by rw [markerStartBody, hdevices]; rfl
    rw [takeMarkerStart, begun_plan, begun_marker, if_neg (by simpa using hplan), hdevices, hbody]
    exact begun_ok _ _ _ _ _ _

/-! ### The abandoned negotiation (R151, R160) -/

theorem endAbandoned_station (s : State) : s.endAbandoned .station [] .done = { s with
    station := { s.station with
      slot := .done, running := none
      reply := writeBytes s.station.reply 0 (replyHeader s.station.lastCode s.station.sequence .abandoned 0 0) } } := by
  simp only [State.endAbandoned, State.modPort, Port.answered, List.append_nil, List.length_nil]

/-- The marker in which every NEGOTIATING device stands down and the probe under way is discarded (R151). -/
def Marker.stood (m : Marker) : Marker :=
  { m with devices := m.devices.map Device.standDown, bus := m.bus.map Transaction.discardProbe }

theorem standDown_role (d : Device) : d.standDown.role = d.role := by
  unfold Device.standDown
  split <;> rfl

theorem standDown_ready (d : Device) : d.standDown.state = .ready ↔ d.state = .ready := by
  unfold Device.standDown
  split
  next h => simp [h]
  next => rfl

theorem standDown_not_negotiating (d : Device) : d.standDown.state ≠ .negotiating := by
  unfold Device.standDown
  split
  · simp
  next h => exact h

theorem discardProbe_eq (x : Transaction) : x.discardProbe = if x.work = .probe then { x with fate := .discarded } else x := by
  unfold Transaction.discardProbe
  cases h : x.work <;> rfl

theorem Marker.readyDevice_stood (r : Role) (m : Marker) : m.stood.readyDevice r = m.readyDevice r := by
  simp only [readyDevice, stood, List.findIdx?_map, Function.comp_def, standDown_role, standDown_ready]

theorem Marker.stood_role (r : Role) (m : Marker) : (∃ y ∈ m.stood.devices, y.role = r) ↔ ∃ y ∈ m.devices, y.role = r := by
  simp [stood, standDown_role]

/-- No probe is pending once every device stands down (R151, R152). -/
theorem Marker.stood_settled (m : Marker) : ∀ y ∈ m.stood.devices, y.state = .negotiating → y.retryWait = true := by
  intro y hy hneg
  obtain ⟨d, -, rfl⟩ := List.mem_map.mp hy
  exact absurd hneg (standDown_not_negotiating d)

theorem Marker.headNegotiating_iff (m : Marker) : m.headNegotiating = true ↔
    ∃ d x, m.head.bound = some d ∧ m.devices[d]? = some x ∧ x.state = .negotiating := by
  unfold headNegotiating
  split
  next d h =>
    obtain ⟨i, hi, hx⟩ := Option.bind_eq_some_iff.mp h
    rw [decide_eq_true_eq]
    exact ⟨fun hneg => ⟨i, d, hi, hx, hneg⟩, fun ⟨j, x, hj, hx', hneg⟩ => by
      obtain rfl := Option.some.inj (hi.symm.trans hj)
      obtain rfl := Option.some.inj (hx.symm.trans hx')
      exact hneg⟩
  next h =>
    refine ⟨fun h => (by cases h), fun ⟨d, x, hb, hx, _⟩ => ?_⟩
    rw [hb, Option.bind_some, hx] at h
    cases h

/-- The head job of an abandoned negotiation: matched again where its device stands down (R151, R160). -/
def Marker.stoodHead (r : Role) (m : Marker) : Head :=
  if m.headNegotiating = true then { m.head with bound := m.readyDevice r, page := 0, busyWait := false } else m.head

theorem abandonMarker_job {s : State} {j : Job} {rest : List Job} (hqueue : s.marker.queue = j :: rest)
    (hrole : ∃ y ∈ s.marker.devices, y.role = j.role) : s.abandonMarker .station =
      (s.modMarker fun m => Marker.served { m.stood with head := m.stoodHead j.role }).endAbandoned .station [] .done := by
  have hrematch := rematchHead_role (t := s.modMarker Marker.stood) hqueue ((s.marker.stood_role j.role).mpr hrole)
  change (State.startBus (if s.marker.headNegotiating = true then (s.modMarker Marker.stood).rematchHead
    else s.modMarker Marker.stood)).endAbandoned .station [] .done = _
  rw [startBus_eq]
  by_cases h : s.marker.headNegotiating = true
  · have hready : s.marker.stood.readyDevice j.role = s.marker.readyDevice j.role := Marker.readyDevice_stood _ _
    rw [if_pos h, hrematch, modMarker_modMarker, modMarker_modMarker]
    simp only [State.modMarker, Marker.stoodHead, if_pos h, hready]
    rfl
  · rw [if_neg h, modMarker_modMarker]
    simp only [State.modMarker, Marker.stoodHead, if_neg h]
    rfl

theorem abandonMarker_noJob {s : State} (hqueue : s.marker.queue = []) (hbound : s.marker.head.bound = none) :
    s.abandonMarker .station = (s.modMarker Marker.stood).endAbandoned .station [] .done := by
  have hneg : ¬s.marker.headNegotiating = true := by
    rw [Marker.headNegotiating_iff]
    rintro ⟨d, x, hd, -⟩
    rw [hbound] at hd
    cases hd
  have hserved : s.marker.stood.served = s.marker.stood := by
    have hnone : s.marker.stood.nextWork = none :=
      Marker.nextWork_none (Marker.stood_settled _) fun j rest _ _ hq _ _ _ => absurd (hqueue.symm.trans hq) (by simp)
    rw [Marker.served, hnone, Option.or_none]
  change (State.startBus (if s.marker.headNegotiating = true then (s.modMarker Marker.stood).rematchHead
    else s.modMarker Marker.stood)).endAbandoned .station [] .done = _
  rw [if_neg hneg, startBus_eq, modMarker_modMarker]
  simp only [State.modMarker, hserved]

theorem stood_devices (m : Marker) : m.stood.devices = m.devices.map fun d =>
    if d.state = .negotiating then { d with state := .down, naks := 0, retryWait := false } else d := rfl

theorem stood_bus (m : Marker) : m.stood.bus =
    m.bus.map fun x => if x.work = .probe then { x with fate := .discarded } else x := by
  rw [Marker.stood, funext discardProbe_eq]

/-- Settles O10: the devices stand down, and the head job of one of them is matched again. -/
theorem abandonOfMarkerStart : Obligations.AbandonOfMarkerStart := by
  refine ⟨fun ps s hs hslot hrun hqueue hbound => ?_, fun ps j rest s hs hslot hrun hqueue hrole => ?_⟩
  · have hexec : exec (.abandon .station []) s = .next (s.abandonMarker .station) := exec_abandon_taken hs hslot hrun
    rw [abandonMarker_noJob hqueue hbound, endAbandoned_station] at hexec
    exact ⟨_, hexec, stood_devices _, stood_bus _, rfl⟩
  · have hexec : exec (.abandon .station []) s = .next (s.abandonMarker .station) := exec_abandon_taken hs hslot hrun
    rw [abandonMarker_job hqueue hrole, endAbandoned_station] at hexec
    refine ⟨_, hexec, stood_devices _, fun hb => ?_, fun hb => ?_, fun d x hd hx hneg => ?_, fun hnot => ?_, rfl⟩
    · refine (Marker.served_busy (m := { s.marker.stood with head := s.marker.stoodHead j.role }) ?_).trans (stood_bus _)
      obtain ⟨x, hx⟩ := Option.ne_none_iff_exists'.mp hb
      simp [Marker.stood, hx]
    · refine Marker.served_served (m := { s.marker.stood with head := s.marker.stoodHead j.role }) ?_
      simp [Marker.stood, hb]
    · exact if_pos ((Marker.headNegotiating_iff _).mpr ⟨d, x, hd, hx, hneg⟩)
    · refine if_neg fun h => ?_
      obtain ⟨d, x, hd, hx, hneg⟩ := (Marker.headNegotiating_iff _).mp h
      exact hnot d x hd hx hneg

end Sys2Proof.Machine
end

section
/-! PROOF. REPRINT (R155, R156, R164). -/

namespace Sys2Proof.Machine
open Sys2Proof

/-! ### A job enters the label queue (R155, R156) -/

/-- The job as it stands in the queue, under the next ticket (R155). -/
def Job.ticketed (m : Marker) (j : Job) : Job := { j with ticket := some (m.ticket + 1) }

theorem enqueue_behind {s : State} (j : Job) (h : s.marker.queue ≠ []) :
    s.enqueue j = s.modMarker fun m => (m.append j).served := by
  have hempty : s.marker.queue.isEmpty = false := by simpa using h
  simp only [State.enqueue, hempty, Bool.false_eq_true, if_false, startBus_eq, modMarker_modMarker]

theorem enqueue_head {s : State} {j : Job} (h : s.marker.queue = []) (hrole : ∃ y ∈ s.marker.devices, y.role = j.role) :
    s.enqueue j = s.modMarker fun m => Marker.served { m.append j with
      head := ⟨m.readyDevice j.role, 0, false, s.labelTimeout⟩ } := by
  have hempty : s.marker.queue.isEmpty = true := by simpa using h
  have hqueue : (s.modMarker (Marker.append j)).marker.queue = [j.ticketed s.marker] := by
    change s.marker.queue ++ _ = _
    rw [h]
    rfl
  have hhead := makeHead_role (s := s.modMarker (Marker.append j)) ((s.modMarker (Marker.append j)).headFuel - 1) hqueue
    ((hasRole_eq_true_iff _ _).mpr hrole)
  change State.nextHead _ = _ at hhead
  simp only [State.enqueue, hempty, if_true, hhead, startBus_eq, modMarker_modMarker]
  rfl

theorem latchBoth_modMarker (e : Event) (f : Marker → Marker) (s : State) :
    (s.latchBoth e).modMarker f = (s.modMarker f).latchBoth e := rfl

theorem modMarker_congr {f g : Marker → Marker} {s : State} (h : f s.marker = g s.marker) : s.modMarker f = s.modMarker g :=
  congrArg (fun m => { s with marker := m }) h

/-- The marker in which the job has entered, has failed with NO_DEVICE, and has left again (R156, R163). -/
def Marker.lost (j : Job) (q : List Job) (m : Marker) : Marker :=
  { m with
    queue := q, ticket := m.ticket + 1, enqueued := m.enqueued + 1, failed := m.failed + 1, head := Head.clear
    lastFailed := some ⟨j.ticketed m, .noDevice, none, 0⟩ }

/-- A job of a role that the table lacks fails as it enters an empty queue with no nest waiting (R156, R163). -/
theorem enqueue_lost {s : State} {j : Job} (h : s.marker.queue = []) (hwait : s.marker.waitList = [])
    (hrole : ∀ y ∈ s.marker.devices, y.role ≠ j.role) :
    s.enqueue j = (s.modMarker fun m => (m.lost j []).served).latchBoth .labelFailed := by
  have hempty : s.marker.queue.isEmpty = true := by simpa using h
  have hqueue : (s.modMarker (Marker.append j)).marker.queue = [j.ticketed s.marker] := by
    change s.marker.queue ++ _ = _
    rw [h]
    rfl
  have hhead := makeHead_noRole (s := s.modMarker (Marker.append j)) ((s.modMarker (Marker.append j)).headFuel - 1) hqueue
    ((hasRole_eq_false_iff _ _).mpr hrole)
  obtain ⟨x, hx⟩ : ∃ x, x = (((s.modMarker (Marker.append j)).modMarker fun m =>
      { m with head := ⟨none, 0, false, (s.modMarker (Marker.append j)).labelTimeout⟩ }).failed
        (j.ticketed s.marker) .noDevice) := ⟨_, rfl⟩
  have hdrop : x.dropHead = (s.modMarker fun m => m.lost j []).latchBoth .labelFailed := by
    rw [dropHead_none (s := x) (by rw [hx]; exact hwait), hx, State.failed, latchBoth_modMarker]
    simp only [modMarker_modMarker]
    refine congrArg (State.latchBoth .labelFailed) (modMarker_congr ?_)
    simp only [Marker.append, h, List.nil_append, List.tail_cons, Marker.lost]
  rw [← hx, hdrop, makeHead_nil (s := (s.modMarker fun m => m.lost j []).latchBoth .labelFailed) _ rfl] at hhead
  change State.nextHead _ = _ at hhead
  simp only [State.enqueue, hempty, if_true, hhead, startBus_eq]
  rfl

/-! ### REPRINT (R164) -/

/-- What REPRINT makes of the history job (R164). -/
def Job.reprinted (j : Job) : Job := { j with reprint := true, restarts := 0 }

theorem takeReprint_begun (p : PortId) (d : Byte) (s : State) :
    takeReprint p (writeBytes (s.port p).params 0 [d]) (s.begun p .reprint [d] true) =
      if 3 < d.toNat then s.replied p .reprint [d] .badParam 0 []
      else
        match (s.marker.devices[d.toNat]?).bind (·.history) with
        | none => s.replied p .reprint [d] .noHistory 0 []
        | some j =>
          if 8 ≤ s.marker.queue.length then s.replied p .reprint [d] .queueFull 0 []
          else ((s.begun p .reprint [d] true).enqueue j.reprinted).ok p (le 2 (s.marker.ticket + 1).toNat) := by
  simp only [takeReprint, u8At_writeBytes_head, begun_marker, begun_refuse]
  rfl

theorem byte_fin (d : Fin 4) : (BitVec.ofNat 8 d.val).toNat = d.val := by
  rw [BitVec.toNat_ofNat]
  omega

theorem exec_reprint {p : PortId} {d : Fin 4} {j : Job} {s : State} (hs : s.ready p)
    (hj : (s.marker.devices[d.val]?).bind (·.history) = some j) (hroom : s.marker.queue.length < 8) :
    exec (.reprint p (byte d.val) .atOnce) s =
      .next (((s.begun p .reprint (byte d.val) true).enqueue j.reprinted).ok p (le 2 (s.marker.ticket + 1).toNat)) := by
  refine exec_taken (r := .reprint) (by decide) (by cases p <;> rfl) hs ((takeReprint_begun p _ s).trans ?_)
  rw [byte_fin, if_neg (by omega), hj]
  exact if_neg (by omega)

theorem begun_labelTimeout (p : PortId) (r : Request) (params : List Byte) (b : Bool) (s : State) :
    (s.begun p r params b).labelTimeout = s.labelTimeout := by
  cases p <;> rfl

theorem labelTimeout_eq {s : State} {c : PlanContent} {m : MarkerPlan} (hc : s.plan = some c) (hm : c.marker = some m) :
    s.labelTimeout = some m.timeout := by
  rw [State.labelTimeout, hc]
  simp [hm]

theorem controlByte_first (format : Nat) (toggle : Bool) :
    controlByte 0 format toggle = BitVec.ofNat 8 (4 * (decide (1 < format)).toNat + 8 * toggle.toNat) := by
  simp [controlByte]

theorem pagePayload_first {j : Job} (h : j.reprint = true) :
    pagePayload j 0 = le 3 j.serial ++ byte (j.fails.toNat + 2) ++ byte j.bin ++ [0, 0, 0] := by
  simp only [pagePayload, if_true, h, Bool.toNat_true, Nat.mul_one]
  rfl

theorem readyDevice_ready {r : Role} {m : Marker} {b : Nat} {x : Device} (h : m.readyDevice r = some b)
    (hx : m.devices[b]? = some x) : x.state = .ready := by
  obtain ⟨hlt, hp, -⟩ := List.findIdx?_eq_some_iff_getElem.mp h
  obtain ⟨_, rfl⟩ := List.getElem?_eq_some_iff.mp hx
  simp at hp
  exact hp.2

/-- Settles O32: where the copy finds the queue and the table. -/
theorem reprintQueuesACopy : Obligations.ReprintQueuesACopy := by
  refine ⟨fun p d j s hs hj hqueue hroom => ?_, fun p d j c m s hs hj hqueue hc hm hrole => ?_,
    fun p d j s hs hj hqueue hwait hrole => ?_, fun p d s hs hd => ?_, fun p d s hs hj => ?_, fun p d j s hs hj hfull => ?_⟩
  · have hexec := exec_reprint hs hj hroom
    rw [enqueue_behind _ (by rw [begun_marker]; exact hqueue), begun_modMarker, begun_ok] at hexec
    refine ⟨_, hexec, ?_, ?_, ?_, ?_⟩
    · rw [replied_marker]; rfl
    · rw [replied_marker]; rfl
    · rw [replied_marker]; rfl
    · rw [replied_marker]
      exact replied_congr _ _ _ _ _ _ rfl
  · have hexec := exec_reprint hs hj (by rw [hqueue]; decide)
    rw [enqueue_head (by rw [begun_marker]; exact hqueue) (by rw [begun_marker]; exact hrole), begun_modMarker, begun_ok,
      begun_labelTimeout, labelTimeout_eq hc hm] at hexec
    refine ⟨_, hexec, ?_, ?_, fun hb => ?_, fun b x hb hnone hbound hx => ?_, ?_⟩
    · rw [replied_marker]
      change s.marker.queue ++ _ = _
      rw [hqueue]
      rfl
    · rw [replied_marker]; rfl
    · rw [replied_marker]
      exact Marker.served_busy (m := { s.marker.append j.reprinted with
        head := ⟨s.marker.readyDevice j.role, 0, false, some m.timeout⟩ }) hb
    · rw [replied_marker] at hbound ⊢
      have hqueue' : (s.marker.append j.reprinted).queue = [j.reprinted.ticketed s.marker] := by
        change s.marker.queue ++ _ = _
        rw [hqueue]
        rfl
      refine (Marker.served_idle (m := { s.marker.append j.reprinted with
        head := ⟨s.marker.readyDevice j.role, 0, false, some m.timeout⟩ }) hb).trans ?_
      refine (Marker.nextWork_page (m := { s.marker.append j.reprinted with
        head := ⟨s.marker.readyDevice j.role, 0, false, some m.timeout⟩ }) (fun y hy h => absurd h (hnone y hy)) hqueue' hbound hx
        (readyDevice_ready hbound hx) rfl).trans ?_
      rw [controlByte_first, pagePayload_first rfl]
      rfl
    · rw [replied_marker]
      exact replied_congr _ _ _ _ _ _ rfl
  · have hexec := exec_reprint hs hj (by rw [hqueue]; decide)
    rw [enqueue_lost (by rw [begun_marker]; exact hqueue) (by rw [begun_marker]; exact hwait)
      (by rw [begun_marker]; exact hrole), begun_modMarker, begun_latchBoth, begun_ok] at hexec
    refine ⟨_, hexec, ?_⟩
    rw [replied_marker]
    refine replied_congr _ _ _ _ _ _ ?_
    exact congrArg (fun q => (s.modMarker fun m => { (m.lost j.reprinted []).served with queue := q }).latchBoth .labelFailed)
      hqueue.symm
  · exact exec_taken (r := .reprint) (by decide) (by cases p <;> rfl) hs ((takeReprint_begun p d s).trans (if_pos hd))
  · refine exec_taken (r := .reprint) (by decide) (by cases p <;> rfl) hs ((takeReprint_begun p _ s).trans ?_)
    rw [byte_fin, if_neg (by omega), hj]
    rfl
  · refine exec_taken (r := .reprint) (by decide) (by cases p <;> rfl) hs ((takeReprint_begun p _ s).trans ?_)
    rw [byte_fin, if_neg (by omega), hj]
    exact if_pos hfull

end Sys2Proof.Machine
end

section
/-! PROOF. The windows that are freed, and ABANDON of a CHAIN CHECK (R33, R38, R40, R71). -/

namespace Sys2Proof.Machine
open Sys2Proof

/-! ### The freeing of windows (R33, R40) -/

theorem freedBy_iff (c : Claimant) (tag : BitVec 16) (h : Half) :
    h.freedBy c tag = true ↔ h.claimant = c ∧ h.tag = tag ∧ (h.state = .filling ∨ h.state = .queued) := by
  simp [Half.freedBy, and_assoc]

theorem freeWindows_eq (c : Claimant) (s : State) :
    s.freeWindows c = { s with capture := (s.freeWindows c).capture, engine := (s.freeWindows c).engine } := by
  unfold State.freeWindows
  dsimp only
  split <;> split <;> rfl

theorem freeWindows_capture (c : Claimant) (s : State) : (s.freeWindows c).capture =
    { s.capture with half0 := (s.freeWindows c).capture.half0, half1 := (s.freeWindows c).capture.half1 } := by
  unfold State.freeWindows
  dsimp only
  split <;> split <;> rfl

theorem freeWindows_half (c : Claimant) (s : State) (k : HalfId) : (s.freeWindows c).half k =
    if (s.half k).freedBy c (s.tagOf c) = true then { s.half k with state := .free } else s.half k := by
  have hzero : s.half .zero = s.capture.half0 := rfl
  have hone : s.half .one = s.capture.half1 := rfl
  have hfirst : (s.freeOne .zero).capture.half1 = s.capture.half1 := rfl
  unfold State.freeWindows
  by_cases h0 : s.capture.half0.freedBy c (s.tagOf c) = true <;> by_cases h1 : s.capture.half1.freedBy c (s.tagOf c) = true <;>
    cases k <;> simp [h0, h1, hzero, hone, hfirst, freeOne_half]

theorem freeWindows_engine (c : Claimant) (s : State) : (s.freeWindows c).engine =
    { s.engine with queue := s.engine.queue.filter fun h => !(s.half h).freedBy c (s.tagOf c) } := by
  have hfirst : (s.freeOne .zero).capture.half1 = s.capture.half1 := rfl
  have hkeep (p q : HalfId → Bool) (h : ∀ k, p k = q k) : s.engine.queue.filter p = s.engine.queue.filter q := by
    rw [funext h]
  have hone (h : HalfId) (t : State) : (t.freeOne h).engine = { t.engine with queue := t.engine.queue.filter (· ≠ h) } :=
    (freeOne_windowFreed h t).engine
  unfold State.freeWindows
  by_cases h0 : s.capture.half0.freedBy c (s.tagOf c) = true <;> by_cases h1 : s.capture.half1.freedBy c (s.tagOf c) = true <;>
    simp only [h0, h1, hfirst, if_true, if_false, Bool.false_eq_true, hone, List.filter_filter]
  · refine congrArg (fun q => { s.engine with queue := q }) (hkeep _ _ fun k => ?_)
    cases k <;> simp [State.half, h0, h1]
  · refine congrArg (fun q => { s.engine with queue := q }) (hkeep _ _ fun k => ?_)
    cases k <;> simp [State.half, h0, h1]
  · refine congrArg (fun q => { s.engine with queue := q }) (hkeep _ _ fun k => ?_)
    cases k <;> simp [State.half, h0, h1]
  · refine congrArg (fun q => { s.engine with queue := q }) (Eq.symm (List.filter_eq_self.mpr fun k _ => ?_))
    cases k <;> simp [State.half, h0, h1]

theorem freeWindows_windowsFreed (c : Claimant) (s : State) : s.WindowsFreed c (s.tagOf c) (s.freeWindows c) :=
  ⟨fun h hf => (freeWindows_half c s h).trans (if_pos hf),
    fun h hf => (freeWindows_half c s h).trans (if_neg (fun hu => Bool.noConfusion (hf.symm.trans hu))),
    freeWindows_engine c s⟩

theorem settleActivation_notPending {s : State} (h : s.loader.state ≠ .pending) : s.settleActivation = s := by
  rw [State.settleActivation, if_neg fun hp => h hp.1]

theorem endAbandoned_grantHead {s : State} (hqueue : s.chain.queue = []) (hload : s.loader.state ≠ .pending) :
    ((s.endAbandoned .station [] .done).grantHead).settleActivation = s.endAbandoned .station [] .done := by
  rw [grantHead_idle (s := s.endAbandoned .station [] .done) (.inr hqueue),
    settleActivation_notPending (s := s.endAbandoned .station [] .done) hload]

/-- Settles O9: the entry that leaves the queue, or the check that stops. -/
theorem abandonOfChainCheck : Obligations.AbandonOfChainCheck := by
  refine ⟨fun ps s hs hslot hrun hholder => ?_, fun ps s hs hslot hrun hholder hqueue hload => ?_⟩
  · refine (exec_abandon_taken hs hslot hrun).trans (congrArg Host.Outcome.next ?_)
    exact (if_neg hholder).trans (endAbandoned_station (s.leaveQueue .check))
  · have hexec : exec (.abandon .station []) s = .next
        ((s.silence.freeWindows .check).freeChain.endAbandoned .station [] .done) := by
      refine (exec_abandon_taken hs hslot hrun).trans (congrArg Host.Outcome.next ((if_pos hholder).trans ?_))
      refine endAbandoned_grantHead (s := (s.silence.freeWindows .check).freeChain) ?_ ?_
      · simpa [State.freeChain, State.modChain] using hqueue
      · simpa [State.freeChain, State.modChain] using hload
    have hfreed := freeWindows_windowsFreed .check s.silence
    obtain ⟨w, hw⟩ : ∃ w, w = s.silence.freeWindows .check := ⟨_, rfl⟩
    have hframe := freeWindows_eq .check s.silence
    have hcapture := freeWindows_capture .check s.silence
    rw [← hw] at hexec hfreed hframe hcapture
    rw [endAbandoned_station] at hexec
    obtain ⟨hfree, hkept, hengine⟩ := hfreed
    refine ⟨_, hexec, ?_, ?_, ?_, ?_, fun h hc ht hst => ⟨?_, fun hin => ?_⟩, fun h hc => ?_, ?_, ?_, ?_, ?_, ?_, ?_, ?_, ?_, ?_, ?_⟩
    · rw [hframe]; rfl
    · rw [hframe]; rfl
    · simp [State.loopback, State.freeChain, State.modChain]
    · exact (congrArg Capture.holdoff hcapture)
    · have hu : (s.half h).freedBy .check (s.silence.tagOf .check) = true := (freedBy_iff _ _ _).mpr ⟨hc, ht, hst⟩
      exact congrArg Half.state (hfree h hu)
    · have hu : (s.half h).freedBy .check (s.silence.tagOf .check) = true := (freedBy_iff _ _ _).mpr ⟨hc, ht, hst⟩
      change h ∈ w.engine.queue at hin
      rw [hengine, List.mem_filter] at hin
      exact Bool.noConfusion ((congrArg Bool.not hu).symm.trans hin.2)
    · refine hkept h (Bool.eq_false_iff.mpr fun hu => hc ((freedBy_iff _ _ _).mp hu).1)
    · exact (congrArg (fun e : Engine => e.under) hengine :)
    all_goals rw [hframe]; rfl

end Sys2Proof.Machine
end

section
/-! PROOF. ABORT NEST (R19, R32, R33). -/

namespace Sys2Proof.Machine
open Sys2Proof

/-! ### One abort, state by state (R33) -/

section
variable (p : PortId) (r : Request) (params : List Byte) (b : Bool) (s : State)

theorem begun_freeWindows (c : Claimant) : (s.begun p r params b).freeWindows c = (s.freeWindows c).begun p r params b := by
  have htag : (s.begun p r params b).tagOf c = s.tagOf c := by
    cases c with
    | nest n => exact congrArg Nest.tag (begun_nest p r params b s n)
    | check => cases p <;> rfl
  have hone (h : HalfId) (t : State) : (t.begun p r params b).freeOne h = (t.freeOne h).begun p r params b := by
    cases p <;> cases h <;> rfl
  have hcapture (t : State) : (t.begun p r params b).capture = t.capture := by cases p <;> rfl
  unfold State.freeWindows
  simp only [htag, hone, hcapture]
  split <;> split <;> simp_all

theorem begun_abortOne (n : NestId) : (s.begun p r params b).abortOne n = (s.abortOne n).begun p r params b := by
  have hsilence : (s.begun p r params b).silence = s.silence.begun p r params b := by cases p <;> rfl
  have hleave : (s.begun p r params b).leaveQueue (.nest n) = (s.leaveQueue (.nest n)).begun p r params b := by cases p <;> rfl
  have hchain (t : State) : (t.begun p r params b).freeChain = t.freeChain.begun p r params b := by cases p <;> rfl
  unfold State.abortOne
  rw [begun_nest]
  cases (s.nest n).state <;>
    simp only [hsilence, hleave, begun_freeWindows, hchain, begun_modNest, begun_count]

end

theorem abortOne_measuring {n : NestId} {s : State} (h : (s.nest n).state = .measuring) : s.abortOne n =
    (((s.silence.freeWindows (.nest n)).freeChain).modNest n Nest.abortedTest).count Counts.addAborted := by
  unfold State.abortOne
  rw [h]
  rfl

theorem abortOne_analysing {n : NestId} {s : State} (h : (s.nest n).state = .analysing) : s.abortOne n =
    ((s.freeWindows (.nest n)).modNest n Nest.abortedTest).count Counts.addAborted := by
  unfold State.abortOne
  rw [h]
  rfl

theorem abortOne_waiting {n : NestId} {s : State} (h : (s.nest n).state = .waiting) : s.abortOne n =
    ((s.leaveQueue (.nest n)).modNest n Nest.abortedTest).count Counts.addAborted := by
  unfold State.abortOne
  rw [h]
  rfl

/-! ### The request (R32) -/

/-- ABORT NEST of a nest in test: its abort, a grant of the chain where it is free, and the activation that may follow (R19, R32). -/
theorem exec_abort {p : PortId} {n : NestId} {s : State} (hs : s.ready p) (htest : (s.nest n).state.inTest = true) :
    exec (.abortNest p [selector n] .atOnce) s = .next
      ((((s.abortOne n).grantHead).begun p .abortNest [selector n] true).settleActivation.ok p []) := by
  refine exec_taken (r := .abortNest) (by decide) (by cases p <;> rfl) hs ?_
  change takeAbortNest p (writeBytes (s.port p).params 0 [selector n]) (s.begun p .abortNest [selector n] true) = _
  rw [takeAbortNest, nestOf_selector]
  dsimp only
  have hall : (s.begun p .abortNest [selector n] true).abortAll [n] =
      ((s.abortOne n).grantHead).begun p .abortNest [selector n] true := by
    rw [State.abortAll, List.filter_singleton, begun_nest, htest]
    simp only [cond_true, List.foldl_cons, List.foldl_nil, begun_abortOne, begun_grantHead]
  rw [begun_nest, if_pos htest, hall]

theorem exec_abort_settled {p : PortId} {n : NestId} {s : State} (hs : s.ready p) (htest : (s.nest n).state.inTest = true)
    (hload : s.loader.state ≠ .pending) : exec (.abortNest p [selector n] .atOnce) s =
      .next (State.replied p .abortNest [selector n] .ok 0 [] (s.abortOne n).grantHead) := by
  have hloader : (s.abortOne n).grantHead.loader = s.loader := by simp
  rw [exec_abort hs htest, settleActivation_notPending (by rwa [begun_loader, hloader]), begun_ok]

theorem abortedTest_selector {n : NestId} {s : State} (hst : (s.nest n).state.inTest = false) {p : PortId} (hs : s.ready p) :
    exec (.abortNest p [selector n] .atOnce) s =
      .next (State.replied p .abortNest [selector n] .state (nestStateCode (s.nest n).state) [] s) := by
  refine exec_taken (r := .abortNest) (by decide) (by cases p <;> rfl) hs ?_
  change takeAbortNest p (writeBytes (s.port p).params 0 [selector n]) (s.begun p .abortNest [selector n] true) = _
  rw [takeAbortNest, nestOf_selector]
  dsimp only
  rw [begun_nest, if_neg (by simp [hst]), begun_refuse]

/-! ### What an abort leaves (R33) -/

/-- The counts after an abort (R33). -/
def State.abortedCounts (s : State) : Counts := { s.accounts.counts with aborted := s.accounts.counts.aborted + 1 }

/-- An abort from MEASURING: the generator is silent, the chain is free, and the windows not begun are freed (R33). -/
theorem abortOne_measuring_frame {n : NestId} {s : State} (h : (s.nest n).state = .measuring) :
    s.abortOne n = State.modNest n Nest.abortedTest { s with
      chain := { s.chain with holder := none }
      gen := { s.gen with mode := .silent, dac := 0, stopMark := false, claimant := none }
      capture := (s.abortOne n).capture, engine := (s.abortOne n).engine
      accounts := { s.accounts with counts := s.abortedCounts } } ∧
    s.WindowsFreed (.nest n) (s.nest n).tag (s.abortOne n) ∧
    (s.abortOne n).capture = { s.capture with
      half0 := (s.abortOne n).capture.half0, half1 := (s.abortOne n).capture.half1, holdoff := none } := by
  have hfreed := freeWindows_windowsFreed (.nest n) s.silence
  have hframe := freeWindows_eq (.nest n) s.silence
  have hcapture := freeWindows_capture (.nest n) s.silence
  rw [abortOne_measuring h]
  obtain ⟨w, hw⟩ : ∃ w, w = s.silence.freeWindows (.nest n) := ⟨_, rfl⟩
  rw [← hw] at hfreed hframe hcapture ⊢
  obtain ⟨hfree, hkept, hengine⟩ := hfreed
  refine ⟨?_, ⟨fun k hk => ?_, fun k hk => ?_, ?_⟩, ?_⟩
  · rw [hframe]
    cases n <;> rfl
  · refine Eq.trans ?_ (hfree k (by cases n <;> exact hk))
    cases n <;> rfl
  · refine Eq.trans ?_ (hkept k (by cases n <;> exact hk))
    cases n <;> rfl
  · refine Eq.trans ?_ (hengine.trans ?_)
    · cases n <;> rfl
    · cases n <;> rfl
  · refine Eq.trans ?_ (hcapture.trans ?_)
    · cases n <;> rfl
    · cases n <;> rfl

theorem abortOne_analysing_frame {n : NestId} {s : State} (h : (s.nest n).state = .analysing) :
    s.abortOne n = State.modNest n Nest.abortedTest { s with
      capture := (s.abortOne n).capture, engine := (s.abortOne n).engine
      accounts := { s.accounts with counts := s.abortedCounts } } ∧
    s.WindowsFreed (.nest n) (s.nest n).tag (s.abortOne n) ∧
    (s.abortOne n).capture = { s.capture with
      half0 := (s.abortOne n).capture.half0, half1 := (s.abortOne n).capture.half1 } := by
  have hfreed := freeWindows_windowsFreed (.nest n) s
  have hframe := freeWindows_eq (.nest n) s
  have hcapture := freeWindows_capture (.nest n) s
  rw [abortOne_analysing h]
  obtain ⟨w, hw⟩ : ∃ w, w = s.freeWindows (.nest n) := ⟨_, rfl⟩
  rw [← hw] at hfreed hframe hcapture ⊢
  obtain ⟨hfree, hkept, hengine⟩ := hfreed
  refine ⟨?_, ⟨fun k hk => ?_, fun k hk => ?_, ?_⟩, ?_⟩
  · rw [hframe]
    cases n <;> rfl
  · refine Eq.trans ?_ (hfree k hk)
    cases n <;> rfl
  · refine Eq.trans ?_ (hkept k hk)
    cases n <;> rfl
  · refine Eq.trans ?_ hengine
    cases n <;> rfl
  · refine Eq.trans ?_ (hcapture.trans ?_)
    · cases n <;> rfl
    · cases n <;> rfl

/-- The chain of a state in which nobody waits is granted to nobody (R36). -/
theorem abortOne_chain_of_measuring {n : NestId} {s : State} (h : (s.nest n).state = .measuring) :
    (s.abortOne n).chain = { s.chain with holder := none } := by
  rw [abortOne_measuring h]
  cases n <;> simp [State.freeChain, State.modChain]

theorem abortOne_gen_of_measuring {n : NestId} {s : State} (h : (s.nest n).state = .measuring) :
    (s.abortOne n).gen = { s.gen with mode := .silent, dac := 0, stopMark := false, claimant := none } := by
  rw [(abortOne_measuring_frame h).1]
  cases n <;> rfl

theorem abortOne_nest_self (n : NestId) (s : State) : (s.abortOne n).nest n = (s.nest n).abortedTest := by
  rw [State.NestsAgree.abortOne_nest]
  cases n <;> rfl

theorem abortOne_nest_other {n m : NestId} (h : m ≠ n) (s : State) : (s.abortOne n).nest m = s.nest m := by
  rw [State.NestsAgree.abortOne_nest, State.modNest_nest_other _ _ _ h]

/-! ### A pending activation that follows (R19, R20) -/

theorem dropHead_idle_nest {s : State} (h : s.marker.waitList = []) (m : NestId) :
    s.dropHead.nest m = s.nest m ∧ s.dropHead.marker.waitList = [] := by
  rw [dropHead_none h]
  exact ⟨rfl, h⟩

/-- No nest changes at the making of a head while no nest waits (R30, R155). -/
theorem makeHead_nest (k : Nat) {s : State} (h : s.marker.waitList = []) (m : NestId) : (State.makeHead k s).nest m = s.nest m := by
  induction k generalizing s with
  | zero => rfl
  | succ k ih =>
    cases hq : s.marker.queue with
    | nil => rw [makeHead_nil _ hq]
    | cons j rest =>
      cases hrole : s.marker.hasRole j.role with
      | true => rw [makeHead_role k hq hrole]; rfl
      | false =>
        rw [makeHead_noRole k hq hrole]
        obtain ⟨hnest, hwait⟩ := dropHead_idle_nest
          (s := (s.modMarker fun m => { m with head := ⟨none, 0, false, s.labelTimeout⟩ }).failed j .noDevice) h m
        exact (ih hwait).trans hnest

theorem remapMarker_nest {s : State} (h : s.marker.waitList = []) (m : NestId) : s.remapMarker.nest m = s.nest m := by
  rw [State.remapMarker, startBus_eq]
  exact makeHead_nest _ (s := s.rebuildDevices) h m

theorem replacedBy_nest {p : StagedPlan} {s : State} (h : s.marker.waitList = []) (m : NestId) : (s.replacedBy p).nest m = s.nest m :=
  remapMarker_nest (s := ((((s.withdraw.modUnits fun u => { u with failCount := 0 }).emptyRetest.closeShift
    .planChange).clearRing).modLoader (Loader.activated p)).remapLines) h m

theorem replacedBy_loader (p : StagedPlan) (s : State) : (s.replacedBy p).loader = { s.loader with
    state := .idle, staging := [], staged := none, active := some ⟨s.loader.staging, p.content, p.points⟩ } := by
  simp only [State.replacedBy, State.latchBoth_loader, State.remapMarker_loader]
  rfl

theorem replacedBy_accounts (p : StagedPlan) (s : State) :
    (s.replacedBy p).accounts = ((s.emptyRetest.closeShift .planChange).clearRing).accounts := by
  simp only [State.replacedBy, State.latchBoth_accounts, State.remapMarker_accounts]
  rfl

theorem settleMarkerStart_latched {s : State} {q : PortId} {e : Event} (h : s.latched q e = true) :
    s.settleMarkerStart.latched q e = true := by
  unfold State.settleMarkerStart
  split
  · cases q with
    | station => exact (BitVec.getLsbD_or ..).trans (Bool.or_eq_true_iff.mpr (.inl h))
    | line => exact h
  · exact h

theorem activate_latched {p : StagedPlan} {s : State} (h : s.loader.staged = some p) (q : PortId) :
    s.activate.latched q .planActivated = true := by
  rw [activate_staged h]
  refine settleMarkerStart_latched ?_
  cases q <;> exact (BitVec.getLsbD_or ..).trans (Bool.or_eq_true_iff.mpr (.inr rfl))

/-! ### What an answer of a port leaves unchanged -/

section
variable (p : PortId) (r : Request) (params : List Byte) (st : Status) (sub : Nat) (body : List Byte) (s : State)

theorem replied_chain : (State.replied p r params st sub body s).chain = s.chain := by cases p <;> rfl
theorem replied_gen : (State.replied p r params st sub body s).gen = s.gen := by cases p <;> rfl
theorem replied_capture : (State.replied p r params st sub body s).capture = s.capture := by cases p <;> rfl
theorem replied_engine : (State.replied p r params st sub body s).engine = s.engine := by cases p <;> rfl
theorem replied_loader : (State.replied p r params st sub body s).loader = s.loader := by cases p <;> rfl
theorem replied_amplifier : (State.replied p r params st sub body s).amplifier = s.amplifier := by cases p <;> rfl
theorem replied_loopback : (State.replied p r params st sub body s).loopback = s.loopback := by cases p <;> rfl
theorem replied_half (h : HalfId) : (State.replied p r params st sub body s).half h = s.half h := by cases p <;> cases h <;> rfl
theorem replied_port_slot : ((State.replied p r params st sub body s).port p).slot = st.slot := by cases p <;> rfl

theorem replied_windowsFreed {c : Claimant} {g : BitVec 16} {t : State} (h : s.WindowsFreed c g t) :
    s.WindowsFreed c g (State.replied p r params st sub body t) :=
  ⟨fun k hk => (replied_half ..).trans (h.freed k hk), fun k hk => (replied_half ..).trans (h.kept k hk),
    (replied_engine ..).trans h.engine⟩

end

section
variable (p : PortId) (body : List Byte) (s : State)

theorem ok_nest (n : NestId) : (s.ok p body).nest n = s.nest n := by cases p <;> cases n <;> rfl
theorem ok_slot : ((s.ok p body).port p).slot = .done := by cases p <;> rfl
theorem ok_loader : (s.ok p body).loader = s.loader := by cases p <;> rfl
theorem ok_chain : (s.ok p body).chain = s.chain := by cases p <;> rfl
theorem ok_gen : (s.ok p body).gen = s.gen := by cases p <;> rfl
theorem ok_accounts : (s.ok p body).accounts = s.accounts := by cases p <;> rfl
theorem ok_latched (q : PortId) (e : Event) : (s.ok p body).latched q e = s.latched q e := by cases p <;> cases q <;> rfl

end

theorem inTest_of_measuring {n : NestId} {s : State} (h : (s.nest n).state = .measuring) : (s.nest n).state.inTest = true := by
  rw [h]; rfl

theorem abortOne_units (n : NestId) (s : State) : (s.abortOne n).units = s.units := by simp

theorem settleMarkerStart_nest (s : State) (n : NestId) : s.settleMarkerStart.nest n = s.nest n := by
  cases n <;> simp [State.nest]

theorem keepLast_getLast? {α : Type} (n : Nat) (l : List α) (a : α) : (keepLast (n + 1) (l ++ [a])).getLast? = some a := by
  rw [keepLast, List.getLast?_drop, if_neg (by simp), List.getLast?_append]
  rfl

/-- A nest in test stays in test when the chain is granted (R36, R37). -/
theorem grantHead_inTest {s : State} {m : NestId} (h : (s.nest m).state.inTest = true) :
    (s.grantHead.nest m).state.inTest = true := by
  unfold State.grantHead
  split
  next c rest _ _ =>
    cases c with
    | check => cases m <;> exact h
    | nest k =>
      rw [grant_nest]
      cases k <;> cases m <;> first | rfl | exact h
  next => exact h

theorem planInUse_of_inTest {s : State} {m : NestId} (h : (s.nest m).state.inTest = true) : s.planInUse = true := by
  rw [State.planInUse]
  cases m
  · rw [show s.nestA.state.inTest = true from h]
    rfl
  · rw [show s.nestB.state.inTest = true from h, Bool.or_true]
    rfl

/-- What follows an abort that takes the outgoing plan out of use (R19, R20). -/
theorem activation_after_abort {p : PortId} {n : NestId} {s : State} (hs : s.ready p)
    (hload : s.loader.state = .pending) (hst : (s.nest n).state = .measuring)
    (hother : (s.nest (otherNest n)).state.inTest = false) (hqueue : s.chain.queue = []) :
    exec (.abortNest p [selector n] .atOnce) s = .next
      ((((s.abortOne n).begun p .abortNest [selector n] true).activate).ok p []) := by
  have hchain := abortOne_chain_of_measuring hst
  have hloader : (s.abortOne n).loader = s.loader := by simp
  have hself : ((s.abortOne n).nest n).state.inTest = false := by rw [abortOne_nest_self]; rfl
  have hothers : ((s.abortOne n).nest (otherNest n)).state.inTest = false := by
    rw [abortOne_nest_other (by cases n <;> decide)]
    exact hother
  have huse : (s.abortOne n).planInUse = false := by
    rw [State.planInUse, hchain]
    cases n
    · simp only [State.nest, otherNest] at hself hothers
      simp [hself, hothers]
    · simp only [State.nest, otherNest] at hself hothers
      simp [hself, hothers]
  rw [exec_abort hs (inTest_of_measuring hst), grantHead_idle (.inr (by rw [hchain]; exact hqueue)), State.settleActivation,
    begun_loader, begun_planInUse, hloader, if_pos ⟨hload, huse⟩]

/-- Settles O30: from each state of a test. -/
theorem abortStopsTheTest : Obligations.AbortStopsTheTest := by
  refine ⟨fun p n s hs hst hqueue hload => ?_, fun p n d s hs hst hheld hload => ?_, fun p n s hs hst hidle hload => ?_,
    fun p n c rest s hs hst hqueue hload => ?_, fun p n q s hs hload hstaged hst hother hqueue hwait => ?_,
    fun p n s hs hload htest hother => ?_, fun p n s hs htest => abortedTest_selector htest hs⟩
  · have hexec := exec_abort_settled hs (inTest_of_measuring hst) hload
    have hchain := abortOne_chain_of_measuring hst
    obtain ⟨hframe, hfreed, hcapture⟩ := abortOne_measuring_frame hst
    rw [grantHead_idle (.inr (by rw [hchain]; exact hqueue))] at hexec
    have hgen := abortOne_gen_of_measuring hst
    refine ⟨_, hexec, ?_, ?_, ?_, ?_, replied_windowsFreed (h := hfreed) .., ?_, ?_⟩
    · rw [replied_nest, abortOne_nest_self]
    · rw [replied_chain, hchain]
    · rw [replied_gen, hgen]
    · rw [replied_amplifier, State.amplifier, hchain]
      simp
    · rw [replied_capture]
      exact hcapture
    · rw [replied_chain, replied_gen, replied_capture, replied_engine]
      refine replied_congr _ _ _ _ _ _ ?_
      rw [hchain, hgen]
      exact hframe
  · rw [exec_abort_settled hs (by rw [hst]; rfl) hload]
    refine congrArg Host.Outcome.next (replied_congr _ _ _ _ _ _ ?_)
    rw [abortOne_waiting hst, grantHead_idle (.inl ?_)]
    · cases n <;> rfl
    · have hholder : (((s.leaveQueue (.nest n)).modNest n Nest.abortedTest).count Counts.addAborted).chain.holder = some d := by
        cases n <;> exact hheld
      rw [hholder]
      simp
  · have hexec := exec_abort_settled hs (by rw [hst]; rfl) hload
    obtain ⟨hframe, hfreed, hcapture⟩ := abortOne_analysing_frame hst
    have hchain : (s.abortOne n).chain = s.chain := by
      rw [hframe]
      cases n <;> rfl
    rw [grantHead_idle (by rw [hchain]; exact hidle)] at hexec
    refine ⟨_, hexec, replied_windowsFreed (h := hfreed) .., ?_, ?_⟩
    · rw [replied_capture]
      exact hcapture
    · rw [replied_capture, replied_engine]
      exact replied_congr _ _ _ _ _ _ hframe
  · have hexec := exec_abort_settled hs (inTest_of_measuring hst) hload
    have hchain := abortOne_chain_of_measuring hst
    have hheld : (s.abortOne n).held = false := by simpa [State.held] using hs.1
    obtain ⟨hgchain, hgnests, hgswitch, hggen, hgcapture, hgunits, hgframe⟩ :=
      grantHead_granted (rest := rest) hheld (by rw [hchain]) (by rw [hchain]; exact hqueue)
    have hcounts : (s.abortOne n).accounts.counts = s.abortedCounts := by
      rw [(abortOne_measuring_frame hst).1]
      cases n <;> rfl
    have hnest (m : NestId) : ((s.abortOne n).nest m).tag = (s.nest m).tag := by
      by_cases h : m = n
      · subst h
        rw [abortOne_nest_self]
        rfl
      · rw [abortOne_nest_other h]
    refine ⟨_, hexec, ?_, ?_, ?_, ?_, ?_, ?_, ?_, fun hc => ?_, fun m hc => ⟨?_, ?_, ?_⟩, fun hc => ⟨?_, ?_⟩, ?_, ?_⟩
    · rw [replied_chain, hgchain]
      cases c <;> rfl
    · rw [replied_chain, hgchain]
      cases c <;> rfl
    · rw [replied_gen, hggen]
    · rw [replied_gen, hggen]
    · rw [replied_gen, hggen]
    · rw [replied_gen, hggen]
    · rw [replied_capture, hgcapture]
    · rw [replied_nest, hgnests, if_neg hc, abortOne_nest_self]
    · rw [replied_nest, hgnests, if_pos hc]
    · rw [replied_nest, hgnests, if_pos hc, hnest]
    · rw [replied_amplifier, hgswitch.1, hc]
    · rw [replied_loopback, hgswitch.2, hc]
      rfl
    · rw [replied_amplifier, hgswitch.1, hc]
    · rw [replied_accounts, hgframe]
      exact hcounts
    · exact replied_port_slot ..
  · have hexec := activation_after_abort hs hload hst hother hqueue
    have hchain := abortOne_chain_of_measuring hst
    obtain ⟨hframe, -, -⟩ := abortOne_measuring_frame hst
    obtain ⟨x, hx⟩ : ∃ x, x = (s.abortOne n).begun p .abortNest [selector n] true := ⟨_, rfl⟩
    have hloader : x.loader = s.loader := by rw [hx, begun_loader]; simp
    have hwaiting : x.marker.waitList = [] := by
      rw [hx, begun_marker, hframe]
      cases n <;> exact hwait
    have haccounts : x.accounts = { s.accounts with counts := s.abortedCounts } := by
      rw [hx, begun_accounts, hframe]
      cases n <;> rfl
    have hunits : x.units = s.units := by rw [hx, begun_units, abortOne_units]
    have hplan : x.plan = s.plan := by rw [State.plan, hloader]; rfl
    have hact := activate_staged (s := x) (hloader ▸ hstaged)
    have hlatched := activate_latched (s := x) (hloader ▸ hstaged)
    rw [← hx] at hexec
    have hfinal : (x.activate.ok p []).accounts = ((x.emptyRetest.closeShift .planChange).clearRing).accounts := by
      rw [ok_accounts, hact, State.settleMarkerStart_accounts, replacedBy_accounts]
    have hcounts : x.emptyRetest.accounts.counts = { s.accounts.counts with
        aborted := s.accounts.counts.aborted + 1
        expired := s.accounts.counts.expired + BitVec.ofNat 32 s.units.retest.length } := by
      change Counts.addExpired x.units.retest.length x.accounts.counts = _
      rw [hunits, haccounts]
      rfl
    refine ⟨_, hexec, ?_, ?_, ?_, ⟨x.emptyRetest.shiftRecord .planChange, ?_, ?_, rfl, ?_, ?_⟩, ?_, fun k => ?_, ?_, ?_, ok_slot ..⟩
    · rw [ok_nest, hact, settleMarkerStart_nest, replacedBy_nest hwaiting, hx, begun_nest, abortOne_nest_self]
    · rw [ok_loader, hact, State.settleMarkerStart_loader, replacedBy_loader, hloader]
    · rw [hfinal]
      exact hcounts
    · rw [hfinal]
      exact keepLast_getLast? _ _ _
    · exact (congrArg (fun a : Accounts => a.shift) haccounts :)
    · exact congrArg (fun o => o.map PlanContent.id) hplan
    · rw [hfinal]
      change x.emptyRetest.accounts.counts.minus x.accounts.baseline = x.emptyRetest.accounts.counts.minus s.accounts.baseline
      rw [haccounts]
    · rw [hfinal]
      rfl
    · rw [ok_latched]
      exact hlatched k
    · rw [ok_chain, State.activate_chain, hx, begun_chain, hchain]
    · have hgen : x.gen = (s.abortOne n).gen := by
        rw [hx]
        cases p <;> rfl
      rw [ok_gen, State.activate_gen, hgen, abortOne_gen_of_measuring hst]
  · have hexec := exec_abort hs htest
    have hloader : (s.abortOne n).grantHead.loader = s.loader := by simp
    have hstill : ((s.abortOne n).grantHead.nest (otherNest n)).state.inTest = true := by
      refine grantHead_inTest ?_
      rw [abortOne_nest_other (by cases n <;> decide)]
      exact hother
    have huse := planInUse_of_inTest hstill
    rw [State.settleActivation, begun_planInUse, huse, if_neg (by simp), begun_ok] at hexec
    exact ⟨_, hexec, (replied_loader ..).trans hloader, replied_port_slot ..⟩

end Sys2Proof.Machine
end

section
/-! PROOF. STATION RESET (R178). -/

namespace Sys2Proof.Machine
open Sys2Proof

/-! ### The line map (R41, R42) -/

theorem setVirtual_line (f : InputFunction) (v : Bool) (l : Lines) : (l.setVirtual f v).line = l.line := by
  unfold Lines.setVirtual
  split <;> rfl

theorem restoreLost_line (l m : Lines) : (l.restoreLost m).line = m.line := by
  unfold Lines.restoreLost
  induction allInputs generalizing m with
  | nil => rfl
  | cons f fs ih =>
    rw [List.foldl_cons, ih]
    split
    · exact setVirtual_line _ _ _
    · rfl

theorem remap_line (fs : List LineFunction) (l : Lines) (i : Fin 8) :
    (l.remap fs).line[i] = l.line[i].remap (fs.getD i .unused) := by
  simp [Lines.remap, restoreLost_line]

theorem remap_function (g : LineFunction) (x : Line) : (x.remap g).function = g := by
  unfold Line.remap
  split
  next h => exact h
  next => split <;> rfl

theorem remap_pin (g : LineFunction) (x : Line) : (x.remap g).pin = x.pin := by
  unfold Line.remap
  split
  · rfl
  · split <;> rfl

theorem remap_same {g : LineFunction} {x : Line} (h : x.function = g) : x.remap g = x := if_pos h

theorem remap_changed {g : LineFunction} {x : Line} (h : x.function ≠ g) :
    (x.remap g).debounced = none ∧ ((x.remap g).timer = true ↔ ∃ f, g = .input f) := by
  unfold Line.remap
  rw [if_neg h]
  cases g <;> simp

/-! ### The blocks and the ports (R178) -/

theorem begun_endLineRequest (r : Request) (params : List Byte) (b : Bool) (s : State) :
    (s.begun .station r params b).endLineRequest = s.endLineRequest.begun .station r params b := by
  have hline : (s.begun .station r params b).line = s.line := rfl
  unfold State.endLineRequest
  rw [hline]
  split
  · split <;> rfl
  · rfl

/-- Every block reset, the Line Port's request ended, and RESET latched with the marks set (R178). -/
def State.stationCleared (s : State) : State := (s.resetBlocks.endLineRequest.latchBoth .reset).markUnverified

theorem leSerial_counter (n : Nat) : leSerial (if n = 0 then none else some n) = le 3 n := by
  split
  next h => rw [h]; rfl
  next => rfl

theorem endLineRequest_frame (s : State) : s.endLineRequest = { s with line := s.endLineRequest.line } := by
  unfold State.endLineRequest
  split
  · split <;> rfl
  · rfl

theorem stationCleared_frame (s : State) : s.stationCleared = { s.resetBlocks with
    station := { s.station with events := s.station.events ||| 0x8000, unverified := true }
    line := s.stationCleared.line } := by
  unfold State.stationCleared
  rw [endLineRequest_frame]
  rfl

theorem takeStationReset_begun (s : State) (q : Vector Byte 64) : takeStationReset .station q (s.begun .station .stationReset [] true) =
    s.stationCleared.replied .station .stationReset [] .ok 0
      (le 3 s.units.serialCounter ++ lePlanId (s.loader.active.map (·.content.id))) := by
  have hblocks : (s.begun .station .stationReset [] true).resetBlocks = s.resetBlocks.begun .station .stationReset [] true := rfl
  simp only [takeStationReset, hblocks, begun_endLineRequest, begun_latchBoth, begun_markUnverified]
  have hloader : s.stationCleared.loader.active = s.loader.active := by rw [stationCleared_frame]; rfl
  have hunits : s.stationCleared.units.serialCounter = s.units.serialCounter := by rw [stationCleared_frame]; rfl
  change State.ok .station
    (leSerial (if s.stationCleared.units.serialCounter = 0 then none else some s.stationCleared.units.serialCounter) ++
      lePlanId (s.stationCleared.loader.active.map (·.content.id))) (s.stationCleared.begun .station .stationReset [] true) = _
  rw [hloader, hunits, leSerial_counter, begun_ok]

theorem resetBlocks_line (s : State) (i : Fin 8) : s.resetBlocks.lines.line[i] = s.lines.line[i].remap (s.planLines.getD i .unused) :=
  remap_line s.planLines s.lines i

/-- The output functions of a station reset in its blocks: UNVERIFIED alone, where the plan asks for verification (R45, R178). -/
theorem resetBlocks_output (f : OutputFunction) (s : State) :
    s.resetBlocks.outputValue f = decide (f = .unverified ∧ 0 < s.windowLength) := by
  have hplan : s.resetBlocks.plan = s.plan := rfl
  have hlength : s.resetBlocks.windowLength = s.windowLength := rfl
  cases f with
  | busy n => cases n <;> rfl
  | pass n => cases n <;> rfl
  | fail n => cases n <;> rfl
  | unverified =>
    have hverified : s.resetBlocks.verified = false := rfl
    have hsome : 0 < s.windowLength → s.plan.isSome = true := by
      unfold State.windowLength
      cases s.plan <;> simp
    simp only [State.outputValue, hplan, hlength, hverified, Bool.not_false, Bool.and_true, true_and]
    by_cases h : 0 < s.windowLength
    · simp [h, hsome h]
    · simp [h]
  | yieldLow =>
    have halarm : s.resetBlocks.yieldAlarm = false := by
      unfold State.yieldAlarm
      split <;> rfl
    exact halarm

theorem stationCleared_line (s : State) : s.stationCleared.line = { s.endLineRequest.line with
    events := s.endLineRequest.line.events ||| 0x8000, unverified := true } := by
  have hline : s.resetBlocks.endLineRequest.line = s.endLineRequest.line := by
    have hsame : s.resetBlocks.line = s.line := rfl
    unfold State.endLineRequest
    rw [hsame]
    split
    · split <;> rfl
    · rfl
  rw [← hline]
  rfl

theorem endLineRequest_untaken {s : State} {r : RunningRequest} (h : s.line.running = some r) (ht : r.taken = false) :
    s.endLineRequest.line = { s.line with
      slot := .done, running := none, events := s.line.events ||| 0x4000
      reply := writeBytes s.line.reply 0 (replyHeader s.line.lastCode s.line.sequence .abandoned 0 0) } := by
  unfold State.endLineRequest
  simp only [h, ht, Bool.false_eq_true, if_false, State.answerLate, State.answer, State.latchOn, State.modPort, Port.answered,
    List.append_nil, List.length_nil]
  rfl

theorem endLineRequest_none {s : State} (h : ∀ r, s.line.running = some r → r.taken = true) : s.endLineRequest = s := by
  unfold State.endLineRequest
  split
  next r hr => exact if_pos (h r hr)
  next => rfl

theorem portReplied_marked (code : Byte) (body : List Byte) (e : BitVec 16) (v : Bool) (q : Port) :
    Port.replied .station code [] .ok 0 body { q with events := e, unverified := v } =
      { Port.replied .station code [] .ok 0 body q with events := e, unverified := v } := by
  simp only [Port.replied, Port.written, Port.putParams, Port.readFrom]

/-- Settles O24: the blocks one by one, the lines under the plan's map, and the two ports. -/
theorem stationResetClearsTheBlocks : Obligations.StationResetClearsTheBlocks := by
  intro s hs
  have hframe := stationCleared_frame s
  have hlive : s.stationCleared.held = false := by
    rw [hframe]
    exact hs.1
  obtain ⟨w, hw⟩ : ∃ w, w = s.stationCleared := ⟨_, rfl⟩
  rw [← hw] at hframe hlive
  have hlines (i : Fin 8) : w.lines.line[i] = s.lines.line[i].remap (s.planLines.getD i .unused) := by
    rw [hframe]
    exact resetBlocks_line s i
  have hline := hw ▸ stationCleared_line s
  have hexec := exec_taken (r := .stationReset) (by decide) rfl hs (takeStationReset_begun s (writeBytes s.station.params 0 []))
  obtain ⟨body, hbody⟩ : ∃ body, body = le 3 s.units.serialCounter ++ lePlanId (s.loader.active.map (·.content.id)) := ⟨_, rfl⟩
  rw [← hw, ← hbody] at hexec
  refine ⟨_, hexec, ?_⟩
  rw [← hbody]
  refine ⟨?_, ?_, ?_, ?_, ?_, ?_, ?_, ?_, ?_, ?_, fun i => ⟨?_, ?_, fun h => ?_, fun h => ?_⟩, fun n => ?_, ?_, ?_, fun i f hf => ?_,
    ?_, fun r hr ht => ?_, fun h => ?_, ?_, ?_, ?_, ?_⟩
  · rw [hframe]; rfl
  · rw [hframe]; rfl
  · rw [hframe]; rfl
  · rw [hframe]; rfl
  · rw [hframe]; rfl
  · rw [hframe]; rfl
  · rw [hframe]; rfl
  · rw [hframe]; rfl
  · rw [hframe]; rfl
  · rw [hframe]; rfl
  · exact (congrArg Line.function (hlines i)).trans (remap_function _ _)
  · exact (congrArg Line.pin (hlines i)).trans (remap_pin _ _)
  · have hfun := (congrArg Line.function (hlines i)).trans (remap_function _ _)
    exact (hlines i).trans (remap_same (h.symm.trans hfun))
  · have hfun := (congrArg Line.function (hlines i)).trans (remap_function _ _)
    obtain ⟨hdeb, htimer⟩ := remap_changed (g := s.planLines.getD i .unused) (x := s.lines.line[i]) fun e => h (hfun.trans e.symm)
    have hl : (w.replied .station .stationReset [] .ok 0 body).lines.line[i] = _ := hlines i
    rw [hl, remap_function]
    exact ⟨hdeb, htimer⟩
  · rw [hframe]
    cases n <;> exact ⟨rfl, rfl⟩
  · rw [hframe]; rfl
  · rw [hframe]; rfl
  · have hheld : (w.replied .station .stationReset [] .ok 0 body).held = false := hlive
    have hout : (w.replied .station .stationReset [] .ok 0 body).outputValue f =
        decide (f = .unverified ∧ 0 < s.windowLength) := by
      rw [← resetBlocks_output, hframe]
      rfl
    simp only [State.lineDrive, hheld, hf, hout, Bool.false_eq_true, if_false]
  · have hstation : w.station = { s.station with events := s.station.events ||| 0x8000, unverified := true } := by rw [hframe]
    exact (congrArg (Port.replied .station 0x1F [] .ok 0 body) hstation).trans (portReplied_marked ..)
  · refine hline.trans ?_
    rw [endLineRequest_untaken hr ht]
    simp only [BitVec.or_assoc]
    rfl
  · refine hline.trans ?_
    rw [endLineRequest_none h]
  · rw [hframe]; rfl
  · rw [hframe]; rfl
  · rw [hframe]; rfl
  · rw [hframe]; rfl

end Sys2Proof.Machine
end

section
/-! PROOF. Bodies field by field; READ POINTS and READ UNIT TABLE (R95, R125, R180, R181, R184). -/

namespace Sys2Proof.Machine
open Sys2Proof

/-! ### Fields by their place (R180) -/

theorem u8At_drop (l : List Byte) (k i : Nat) : u8At (l.drop k) i = u8At l (k + i) := by
  simp [u8At, List.getD_eq_getElem?_getD]

theorem u16At_drop (l : List Byte) (k i : Nat) : u16At (l.drop k) i = u16At l (k + i) := by
  simp only [u16At, u8At_drop, Nat.add_assoc]

section
variable {l rest : List Byte} {k n : Nat}

theorem u8At_field (h : l.drop k = byte n ++ rest) : u8At l k = n % 256 := by
  rw [← Nat.add_zero k, ← u8At_drop, h, u8At_append_left _ _ (by simp)]
  exact (u8At_le n Nat.zero_lt_one).trans (by simp)

theorem u16At_field (h : l.drop k = le 2 n ++ rest) : u16At l k = n % 65536 := by
  rw [← Nat.add_zero k, ← u16At_drop, h, u16At, u8At_append_left _ _ (by simp), u8At_append_left _ _ (by simp)]
  simp (disch := omega) only [u8At_le]
  omega

theorem u24At_field (h : l.drop k = le 3 n ++ rest) : u16At l k + 65536 * u8At l (k + 2) = n % 16777216 := by
  have hlen : (le 3 n).length = 3 := le_length 3 n
  rw [← u8At_drop l k 2, ← Nat.add_zero k, ← u16At_drop, Nat.add_zero, h, u16At, u8At_append_left _ _ (by omega),
    u8At_append_left _ _ (by omega), u8At_append_left _ _ (by omega)]
  simp (disch := omega) only [u8At_le]
  omega

theorem u32At_field (h : l.drop k = le 4 n ++ rest) : u32At l k = n % 4294967296 := by
  have hlen : (le 4 n).length = 4 := le_length 4 n
  rw [u32At, ← Nat.add_zero k, Nat.add_assoc, ← u16At_drop, ← u16At_drop, h]
  simp only [u16At]
  rw [u8At_append_left _ _ (by omega), u8At_append_left _ _ (by omega), u8At_append_left _ _ (by omega),
    u8At_append_left _ _ (by omega)]
  simp (disch := omega) only [u8At_le]
  omega

theorem u16At_word {v : BitVec 16} (h : l.drop k = le 2 v.toNat ++ rest) : u16At l k = v.toNat :=
  (u16At_field h).trans (Nat.mod_eq_of_lt v.isLt)

theorem u32At_count {v : BitVec 32} (h : l.drop k = leCount v ++ rest) : u32At l k = v.toNat :=
  (u32At_field h).trans (Nat.mod_eq_of_lt v.isLt)

end

/-! ### Pages of entries of one length -/

section
variable {α : Type} {f : α → List Byte} {w : Nat}

theorem flatten_map_length (hw : ∀ a, (f a).length = w) (l : List α) : ((l.map f).flatten).length = w * l.length := by
  induction l with
  | nil => simp
  | cons a l ih =>
    rw [List.map_cons, List.flatten_cons, List.length_append, ih, hw, List.length_cons, Nat.mul_succ, Nat.add_comm]

/-- Entry `i` of a page, and what follows it. -/
theorem flatten_map_drop (hw : ∀ a, (f a).length = w) {l : List α} {i : Nat} {a : α} (h : l[i]? = some a) :
    ((l.map f).flatten).drop (w * i) = f a ++ ((l.drop (i + 1)).map f).flatten := by
  induction l generalizing i with
  | nil => simp at h
  | cons b l ih =>
    cases i with
    | zero =>
      obtain rfl : b = a := by simpa using h
      rfl
    | succ i =>
      have hsplit : w * (i + 1) = (f b).length + w * i := by rw [hw, Nat.mul_succ, Nat.add_comm]
      rw [List.map_cons, List.flatten_cons, hsplit, List.drop_append, List.drop_eq_nil_of_le (Nat.le_add_right _ _),
        List.nil_append, Nat.add_sub_cancel_left, ih (by simpa using h), List.drop_succ_cons]

/-- Entry `i` of a page behind its head. -/
theorem page_drop (hw : ∀ a, (f a).length = w) {head : List Byte} {l : List α} {k i : Nat} {a : α} (hk : head.length = k)
    (h : l[i]? = some a) :
    (head ++ (l.map f).flatten).drop (k + w * i) = f a ++ ((l.drop (i + 1)).map f).flatten := by
  rw [← hk, List.drop_append, List.drop_eq_nil_of_le (Nat.le_add_right _ _), List.nil_append, Nat.add_sub_cancel_left,
    flatten_map_drop hw h]

theorem page_entry (hw : ∀ a, (f a).length = w) {head : List Byte} {l : List α} {k i : Nat} {a : α} (hk : head.length = k)
    (h : l[i]? = some a) : ((head ++ (l.map f).flatten).drop (k + w * i)).take w = f a := by
  rw [page_drop hw hk h, List.take_left' (hw a)]

end

/-- Entry `i` of the page that begins at `start`. -/
theorem page_getElem? {α : Type} {l : List α} {start n i : Nat} (hi : i < n) :
    ((l.drop start).take n)[i]? = l[start + i]? := by
  rw [List.getElem?_take, if_pos hi, List.getElem?_drop]

theorem page_length {α : Type} (l : List α) (start n : Nat) : ((l.drop start).take n).length = min n (l.length - start) := by
  simp

/-! ### READ POINTS (R95, R181) -/

theorem leLevel_length (v : Option Int) : (leLevel v).length = 2 := by
  cases v
  · rfl
  · exact le_length 2 _

theorem slotBytes_length (x : Option PointRecord × Nat) : (slotBytes x.2 x.1).length = 13 := by
  obtain ⟨r, i⟩ := x
  cases r <;> simp [slotBytes, leLevel_length, le_length]

theorem u8At_written_second (v : Vector Byte 64) (a b : Byte) : u8At (writeBytes v 0 [a, b]).toList 1 = b.toNat :=
  u8At_writeBytes v [a, b] 1 (by simp) (by decide)

/-- The head of a page of points (R181). -/
def pointsHead (x : Nest) (start : Nat) : List Byte :=
  le 2 x.tag.toNat ++ byte x.slots.length ++ byte start ++ byte ((x.slots.drop start).take 4).length

/-- The page of points from a start index (R181). -/
def pointsBody (x : Nest) (start : Nat) : List Byte :=
  pointsHead x start ++ ((((x.slots.drop start).take 4).zipIdx start).map fun y => slotBytes y.2 y.1).flatten

theorem pointsHead_length (x : Nest) (start : Nat) : (pointsHead x start).length = 5 := by
  simp [pointsHead, le_length]

theorem exec_readPoints {p : PortId} {n : NestId} {start : Byte} {s : State} (hs : s.ready p) :
    exec (.readPoints p [selector n, start] .atOnce) s = .next
      (if 127 < start.toNat then State.replied p .readPoints [selector n, start] .badParam 1 [] s
      else State.replied p .readPoints [selector n, start] .ok 0 (pointsBody (s.nest n) start.toNat) s) := by
  refine exec_taken (r := .readPoints) (by decide) (by cases p <;> rfl) hs ?_
  change takeReadPoints p (writeBytes (s.port p).params 0 [selector n, start]) (s.begun p .readPoints [selector n, start] true) = _
  simp only [takeReadPoints, u8At_written_second, nestOf_selector, begun_nest, begun_refuse, begun_ok]
  rfl

/-! ### READ UNIT TABLE (R125, R184) -/

theorem retestBytes_length (e : RetestEntry) : (retestBytes e).length = 4 := by
  simp [retestBytes, le_length]

/-- The head of a page of the unit table (R184). -/
def State.unitsHead (start : Nat) (s : State) : List Byte :=
  le 3 s.units.serialCounter ++ le 2 s.units.remaining ++ leWordOrFFFF (s.plan.map (·.policy.windowLength)) ++
    byte (s.verified.toNat + 2 * s.units.qualifiedA.toNat + 4 * s.units.qualifiedB.toNat + 8 * refOutcomeCode s.units.lastReference) ++
    byte s.units.failCount ++ byteOrFF (s.plan.map (·.policy.failLimit)) ++
    leSerial (s.units.heldA.map (·.serial)) ++ leSerial (s.units.heldB.map (·.serial)) ++
    byte s.units.retest.length ++ le 2 s.units.listSequence.toNat ++ byte start ++ byte ((s.units.retest.drop start).take 8).length

theorem unitsHead_length (start : Nat) (s : State) : (s.unitsHead start).length = 21 := by
  simp [State.unitsHead, leSerial, le_length]

theorem exec_readUnitTable {p : PortId} {start : Byte} {s : State} (hs : s.ready p) :
    exec (.readUnitTable p [start] .atOnce) s = .next
      (if 31 < start.toNat then State.replied p .readUnitTable [start] .badParam 0 [] s
      else State.replied p .readUnitTable [start] .ok 0
        (s.unitsHead start.toNat ++ (((s.units.retest.drop start.toNat).take 8).map retestBytes).flatten) s) := by
  refine exec_taken (r := .readUnitTable) (by decide) (by cases p <;> rfl) hs ?_
  change takeReadUnitTable p (writeBytes (s.port p).params 0 [start]) (s.begun p .readUnitTable [start] true) = _
  simp only [takeReadUnitTable, u8At_writeBytes_head, begun_units, begun_plan, begun_refuse, begun_ok]
  cases p <;> rfl

theorem verified_flags_lt (v a b : Bool) (o : Option RefOutcome) :
    v.toNat + 2 * a.toNat + 4 * b.toNat + 8 * refOutcomeCode o < 256 := by
  have ho : refOutcomeCode o ≤ 3 := by unfold refOutcomeCode; split <;> decide
  have := Bool.toNat_le v
  have := Bool.toNat_le a
  have := Bool.toNat_le b
  omega

/-- Settles O34: the head of each page by its places, and entry `i` behind it. -/
theorem pagedListReplies : Obligations.PagedListReplies := by
  refine ⟨fun p n start s hs hstart => ?_, fun p n start s hs hstart => ?_, fun p start s hs hstart => ?_, fun p start s hs hstart => ?_⟩
  · have hexec := exec_readPoints (n := n) (start := start) hs
    rw [if_neg (by omega)] at hexec
    have hentry (i : Nat) (hi : i < 4) (r : Option PointRecord) (h : (s.nest n).slots[start.toNat + i]? = some r) :
        ((pointsBody (s.nest n) start.toNat).drop (5 + 13 * i)).take 13 = slotBytes (start.toNat + i) r := by
      refine page_entry (a := (r, start.toNat + i)) slotBytes_length (pointsHead_length _ _) ?_
      rw [List.getElem?_zipIdx, page_getElem? hi, h]
      rfl
    refine ⟨_, hexec, ?_, u16At_word (by rfl), u8At_field (by rfl), (u8At_field (by rfl)).trans (Nat.mod_eq_of_lt (by omega)), ?_,
      fun i hi => ⟨fun r hr => hentry i hi _ hr, fun hr => hentry i hi _ hr⟩⟩
    · rw [pointsBody, List.length_append, pointsHead_length, flatten_map_length slotBytes_length, List.length_zipIdx, page_length]
    · refine (u8At_field (by rfl)).trans ?_
      rw [page_length]
      omega
  · have hexec := exec_readPoints (n := n) (start := start) hs
    rwa [if_pos hstart] at hexec
  · have hexec := exec_readUnitTable (start := start) hs
    rw [if_neg (by omega)] at hexec
    refine ⟨_, hexec, ?_, u24At_field (by rfl), u16At_field (by rfl), (u16At_field (by rfl)).trans ?_,
      (u8At_field (by rfl)).trans (Nat.mod_eq_of_lt (verified_flags_lt _ _ _ _)), u8At_field (by rfl), (u8At_field (by rfl)).trans ?_, u24At_field (by rfl),
      u24At_field (by rfl), u8At_field (by rfl), u16At_word (by rfl), (u8At_field (by rfl)).trans (Nat.mod_eq_of_lt (by omega)), ?_,
      fun i e hi he => ?_⟩
    · rw [List.length_append, unitsHead_length, flatten_map_length retestBytes_length, page_length]
    · cases s.plan <;> rfl
    · cases s.plan <;> rfl
    · refine (u8At_field (by rfl)).trans ?_
      rw [page_length]
      omega
    · refine (page_entry retestBytes_length (unitsHead_length _ _) ((page_getElem? hi).trans he)).trans ?_
      unfold retestBytes
      split <;> simp_all
  · have hexec := exec_readUnitTable (start := start) hs
    rwa [if_pos hstart] at hexec

end Sys2Proof.Machine
end

section
/-! PROOF. READ ACCOUNTS and READ SHIFT, page by page (R137, R139, R144, R145, R184). -/

namespace Sys2Proof.Machine
open Sys2Proof

theorem leCount_length (v : BitVec 32) : (leCount v).length = 4 := le_length 4 _

theorem leCounts_length (l : List (BitVec 32)) : (leCounts l).length = 4 * l.length := flatten_map_length leCount_length l

/-! ### READ ACCOUNTS (R144) -/

/-- The answer of the Yield Accounts to a page and a start (R144, R184). -/
def State.accountsAnswer (p : PortId) (params : List Byte) (page start : Nat) (s : State) : State :=
  if page = 0 then s.replied p .readAccounts params .ok 0 (byte 0 ++ leCounts s.accounts.counts.totals)
  else if page = 1 then s.replied p .readAccounts params .ok 0 (byte 1 ++ leCounts (s.accounts.counts.bins.toList.take 8))
  else if page = 2 then s.replied p .readAccounts params .ok 0 (byte 2 ++ leCounts (s.accounts.counts.bins.toList.drop 8))
  else if page = 3 then s.replied p .readAccounts params .ok 0 (byte 3 ++ s.summaryBody)
  else if page = 4 then
    if 63 < start then s.replied p .readAccounts params .badParam 1 []
    else s.replied p .readAccounts params .ok 0 (byte 4 ++ s.ringBody start)
  else s.replied p .readAccounts params .badParam 0 []

theorem exec_readAccounts {p : PortId} {params : List Byte} {page start : Nat} {s : State} (hs : s.ready p)
    (hpage : u8At (writeBytes (s.port p).params 0 params).toList 0 = page)
    (hstart : u8At (writeBytes (s.port p).params 0 params).toList 1 = start ∨ page ≠ 4) :
    exec (.readAccounts p params .atOnce) s = .next (s.accountsAnswer p params page start) := by
  have hsummary : (s.begun p .readAccounts params true).summaryBody = s.summaryBody := by cases p <;> rfl
  have hring (k : Nat) : (s.begun p .readAccounts params true).ringBody k = s.ringBody k := by cases p <;> rfl
  refine exec_taken (r := .readAccounts) (by decide) (by cases p <;> rfl) hs ?_
  change takeReadAccounts p (writeBytes (s.port p).params 0 params) (s.begun p .readAccounts params true) = _
  simp only [takeReadAccounts, hpage, begun_accounts, begun_ok, begun_refuse, hsummary, hring, State.accountsAnswer]
  rcases hstart with h | h
  · rw [h]
  · simp only [if_neg h]

/-- The yields are 10,000 parts of the units ended, and at most 10,000 (R137). -/
theorem yieldOf_le {n d : Nat} (h : n ≤ d) : (yieldOf n d).getD 0xFFFF % 65536 = if d = 0 then 0xFFFF else 10000 * n / d := by
  unfold yieldOf
  split
  next h0 => simp
  next h0 =>
    have : 10000 * n / d ≤ 10000 := by
      refine Nat.div_le_of_le_mul ?_
      rw [Nat.mul_comm d]
      exact Nat.mul_le_mul_left _ h
    simp only [Option.getD_some]
    exact Nat.mod_eq_of_lt (by omega)

theorem unsettledUnits_le (s : State) : s.unsettledUnits ≤ 2 := by
  have := Bool.toNat_le s.nestA.unsettled
  have := Bool.toNat_le s.nestB.unsettled
  unfold State.unsettledUnits
  omega

theorem endedField_toNat {c : Counts} (h : c.ended < 4294967296) : c.endedField.toNat = c.ended := by
  rw [Counts.endedField, if_pos (show c.ended < 2 ^ 32 from h), BitVec.toNat_ofNat, Nat.mod_eq_of_lt h]

theorem summary_length (s : State) : (byte 3 ++ s.summaryBody).length = 28 := by
  simp [State.summaryBody, leCount_length, leYield, le_length]

/-- The alarm byte (R139, R144). -/
theorem yieldAlarm_toNat (s : State) : s.yieldAlarm.toNat % 256 = match s.plan with
    | some c => if s.accounts.ring.length = 64 ∧
        (s.accounts.ring.countP fun e => e.kind = .firstPass) < c.policy.alarm * 64 / 10000 then 1 else 0
    | none => 0 := by
  rw [State.yieldAlarm, State.alarmLimit]
  cases s.plan with
  | none => rfl
  | some c =>
    simp only [Option.map_some, State.ringFirstPass]
    by_cases hlen : s.accounts.ring.length = 64
    · by_cases hlow : (s.accounts.ring.countP fun e => e.kind = .firstPass) < c.policy.alarm * 64 / 10000
      · simp [hlen, hlow]
      · simp [hlen, hlow]
    · simp [hlen]

theorem readTotals {p : PortId} {s : State} (hs : s.ready p) :
    ∃ body, exec (.readAccounts p [0] .atOnce) s = .next (State.replied p .readAccounts [0] .ok 0 body s) ∧
      body.length = 49 ∧ u8At body 0 = 0 ∧ u32At body 1 = s.accounts.counts.issued.toNat ∧
      u32At body 5 = s.accounts.counts.firstPass.toNat ∧ u32At body 9 = s.accounts.counts.retestPass.toNat ∧
      u32At body 13 = s.accounts.counts.finalFail.toNat ∧ u32At body 17 = s.accounts.counts.expired.toNat ∧
      u32At body 21 = s.accounts.counts.releasedUntested.toNat ∧ u32At body 25 = s.accounts.counts.aborted.toNat ∧
      u32At body 29 = s.accounts.counts.failVerdicts.toNat ∧ u32At body 33 = s.accounts.counts.retestVerdicts.toNat ∧
      u32At body 37 = s.accounts.counts.guardHits.toNat ∧ u32At body 41 = s.accounts.counts.noisyPoints.toNat ∧
      u32At body 45 = s.accounts.counts.overloadPoints.toNat := by
  have hexec := exec_readAccounts (params := [0]) (page := 0) (start := 0) hs (u8At_writeBytes_head _ 0 []) (.inr (by decide))
  rw [State.accountsAnswer, if_pos rfl] at hexec
  exact ⟨_, hexec, by rw [List.length_append, leCounts_length]; rfl, u8At_field (n := 0) (by rfl), u32At_count (by rfl),
    u32At_count (by rfl), u32At_count (by rfl), u32At_count (by rfl), u32At_count (by rfl), u32At_count (by rfl),
    u32At_count (by rfl), u32At_count (by rfl), u32At_count (by rfl), u32At_count (by rfl), u32At_count (by rfl), u32At_count (by rfl)⟩

/-- The eight counts of a page of bins (R184). -/
theorem binsPage_count {b : Nat} {l : List (BitVec 32)} {i : Nat} (hi : i < l.length) :
    u32At (byte b ++ leCounts l) (1 + 4 * i) = (l.getD i 0).toNat := by
  rw [List.getD_eq_getElem _ _ hi]
  exact u32At_count (page_drop leCount_length (byte_length b) (List.getElem?_eq_getElem hi))

theorem readBins {p : PortId} (high : Bool) {s : State} (hs : s.ready p) :
    ∃ body, exec (.readAccounts p (byte (1 + high.toNat)) .atOnce) s =
        .next (State.replied p .readAccounts (byte (1 + high.toNat)) .ok 0 body s) ∧
      body.length = 33 ∧ u8At body 0 = 1 + high.toNat ∧
      ∀ (i : Fin 8), u32At body (1 + 4 * i.val) = (s.accounts.counts.bins.toList.getD (8 * high.toNat + i.val) 0).toNat := by
  have hlen : s.accounts.counts.bins.toList.length = 16 := by simp
  have hpage : u8At (writeBytes (s.port p).params 0 (byte (1 + high.toNat))).toList 0 = 1 + high.toNat := by
    refine (u8At_writeBytes_head _ (BitVec.ofNat 8 (1 + high.toNat)) []).trans ?_
    cases high <;> rfl
  have hexec := exec_readAccounts (start := 0) hs hpage (.inr (by cases high <;> decide))
  cases high
  · refine ⟨_, hexec, ?_, u8At_field (n := 1) (by rfl), fun i => ?_⟩
    · rw [List.length_append, leCounts_length, List.length_take, hlen]
      rfl
    · refine (binsPage_count (by rw [List.length_take, hlen]; exact i.isLt)).trans ?_
      rw [List.getD_eq_getElem?_getD, List.getElem?_take, if_pos i.isLt, ← List.getD_eq_getElem?_getD]
      simp
  · refine ⟨_, hexec, ?_, u8At_field (n := 2) (by rfl), fun i => ?_⟩
    · rw [List.length_append, leCounts_length, List.length_drop, hlen]
      rfl
    · refine (binsPage_count (by rw [List.length_drop, hlen]; exact i.isLt)).trans ?_
      rw [List.getD_eq_getElem?_getD, List.getElem?_drop, ← List.getD_eq_getElem?_getD]
      rfl

/-- The first fields of the SUMMARY page (R144). -/
theorem summary_counts (s : State) : ∀ body, body = byte 3 ++ s.summaryBody →
    u32At body 1 = s.accounts.counts.refTests.toNat ∧ u32At body 5 = s.accounts.counts.refPass.toNat ∧
    u32At body 9 = s.accounts.counts.endedField.toNat ∧ u16At body 13 = s.accounts.counts.firstYield.getD 0xFFFF % 65536 ∧
    u16At body 15 = s.accounts.counts.finalYield.getD 0xFFFF % 65536 := by
  rintro _ rfl
  simp only [State.summaryBody, List.append_assoc]
  exact ⟨u32At_count (by rfl), u32At_count (by rfl), u32At_count (by rfl), u16At_field (by rfl), u16At_field (by rfl)⟩

/-- The last fields of the SUMMARY page (R144). -/
theorem summary_lists (s : State) : ∀ body, body = byte 3 ++ s.summaryBody →
    u8At body 17 = s.units.retest.length % 256 ∧ u8At body 18 = s.unsettledUnits % 256 ∧
    u16At body 19 = s.accounts.shift % 65536 ∧ u8At body 21 = s.accounts.shifts.length % 256 ∧
    u8At body 22 = s.accounts.ring.length % 256 ∧ u8At body 23 = s.ringFirstPass % 256 ∧
    u16At body 24 = s.accounts.ringSeq.toNat ∧ u8At body 26 = s.alarmLimit.getD 0xFF % 256 ∧
    u8At body 27 = s.yieldAlarm.toNat % 256 := by
  rintro _ rfl
  simp only [State.summaryBody, List.append_assoc]
  exact ⟨u8At_field (by rfl), u8At_field (by rfl), u16At_field (by rfl), u8At_field (by rfl), u8At_field (by rfl), u8At_field (by rfl),
    u16At_word (by rfl), u8At_field (by rfl), u8At_field (by rfl)⟩

theorem readSummary {p : PortId} {s : State} (hs : s.ready p) :
    ∃ body, exec (.readAccounts p [3] .atOnce) s = .next (State.replied p .readAccounts [3] .ok 0 body s) ∧
      body.length = 28 ∧ u8At body 0 = 3 ∧ u32At body 1 = s.accounts.counts.refTests.toNat ∧
      u32At body 5 = s.accounts.counts.refPass.toNat ∧
      (∀ (d f r : Nat), f = s.accounts.counts.firstPass.toNat → r = s.accounts.counts.retestPass.toNat →
        d = f + r + s.accounts.counts.finalFail.toNat + s.accounts.counts.expired.toNat →
        (d < 4294967296 → u32At body 9 = d) ∧
        u16At body 13 = (if d = 0 then 0xFFFF else 10000 * f / d) ∧
        u16At body 15 = (if d = 0 then 0xFFFF else 10000 * (f + r) / d)) ∧
      u8At body 17 = s.units.retest.length % 256 ∧ u8At body 18 = s.unsettledUnits ∧
      u16At body 19 = s.accounts.shift % 65536 ∧ u8At body 21 = s.accounts.shifts.length % 256 ∧
      u8At body 22 = s.accounts.ring.length % 256 ∧
      u8At body 23 = (s.accounts.ring.countP fun e => e.kind = .firstPass) % 256 ∧
      u16At body 24 = s.accounts.ringSeq.toNat ∧
      u8At body 26 = (match s.plan with | some c => c.policy.alarm * 64 / 10000 % 256 | none => 0xFF) ∧
      u8At body 27 = (match s.plan with
        | some c => if s.accounts.ring.length = 64 ∧
            (s.accounts.ring.countP fun e => e.kind = .firstPass) < c.policy.alarm * 64 / 10000 then 1 else 0
        | none => 0) := by
  have hexec := exec_readAccounts (params := [3]) (page := 3) (start := 0) hs (u8At_writeBytes_head _ 3 []) (.inr (by decide))
  obtain ⟨hrefs, hpass, hended, hfirst, hfinal⟩ := summary_counts s _ rfl
  obtain ⟨hretest, hunsettled, hshift, hshifts, hring, hringFirst, hseq, hlimit, halarm⟩ := summary_lists s _ rfl
  refine ⟨_, hexec, summary_length s, u8At_field (n := 3) (by rfl), hrefs, hpass, ?_, hretest, ?_, hshift, hshifts, hring, hringFirst,
    hseq, hlimit.trans ?_, halarm.trans (yieldAlarm_toNat s)⟩
  · rintro d f r rfl rfl hd
    have hd' : s.accounts.counts.ended = d := hd.symm
    refine ⟨fun hlt => ?_, hfirst.trans ?_, hfinal.trans ?_⟩
    · rw [hended, endedField_toNat (by omega), hd']
    · rw [Counts.firstYield, hd']
      exact yieldOf_le (by omega)
    · rw [Counts.finalYield, hd']
      exact yieldOf_le (by omega)
  · exact hunsettled.trans (Nat.mod_eq_of_lt (by have := unsettledUnits_le s; omega))
  · rw [State.alarmLimit]
    cases s.plan <;> rfl

/-- A ring entry (R184). -/
def ringBytes (e : RingEntry) : List Byte := le 3 e.serial ++ byte (completionCode e.kind)

theorem ringBytes_length (e : RingEntry) : (ringBytes e).length = 4 := by simp [ringBytes, le_length]

theorem readRing {p : PortId} {start : Byte} {s : State} (hs : s.ready p) (hstart : start.toNat ≤ 63) :
    ∃ body, exec (.readAccounts p [4, start] .atOnce) s = .next (State.replied p .readAccounts [4, start] .ok 0 body s) ∧
      body.length = 5 + 4 * min 8 (s.accounts.ring.length - start.toNat) ∧ u8At body 0 = 4 ∧
      u16At body 1 = s.accounts.ringSeq.toNat ∧ u8At body 3 = start.toNat ∧
      u8At body 4 = min 8 (s.accounts.ring.length - start.toNat) ∧
      ∀ i e, i < 8 → s.accounts.ring[start.toNat + i]? = some e →
        (body.drop (5 + 4 * i)).take 4 = le 3 e.serial ++ byte (completionCode e.kind) := by
  have hexec := exec_readAccounts (params := [4, start]) (page := 4) hs (u8At_writeBytes_head _ 4 [start])
    (.inl (u8At_written_second _ 4 start))
  have hbody : s.accountsAnswer p [4, start] 4 start.toNat = s.replied p .readAccounts [4, start] .ok 0
      (byte 4 ++ s.ringBody start.toNat) := by
    have hin : ¬63 < start.toNat := by omega
    simp [State.accountsAnswer, hin]
  have hpage : byte 4 ++ s.ringBody start.toNat = (byte 4 ++ (le 2 s.accounts.ringSeq.toNat ++ byte start.toNat ++
      byte ((s.accounts.ring.drop start.toNat).take 8).length)) ++ (((s.accounts.ring.drop start.toNat).take 8).map ringBytes).flatten := by
    rw [List.append_assoc]
    rfl
  rw [hbody, hpage] at hexec
  refine ⟨_, hexec, ?_, u8At_field (n := 4) (by rfl), u16At_word (by rfl), (u8At_field (by rfl)).trans (Nat.mod_eq_of_lt (by omega)), ?_,
    fun i e hi he => page_entry ringBytes_length (by simp [le_length]) ((page_getElem? hi).trans he)⟩
  · rw [List.length_append, flatten_map_length ringBytes_length, page_length]
    simp [le_length]
  · refine (u8At_field (by rfl)).trans ?_
    rw [page_length]
    omega

/-! ### READ SHIFT (R145) -/

/-- What every reply to READ SHIFT carries first (R145). -/
def State.shiftHead (s : State) : List Byte := le 2 s.accounts.shift ++ byte s.accounts.shifts.length

theorem exec_readShift {p : PortId} {pos part : Byte} {s : State} (hs : s.ready p) :
    exec (.readShift p [pos, part] .atOnce) s = .next
      (if 7 < pos.toNat then s.replied p .readShift [pos, part] .badParam 0 s.shiftHead
      else if 3 < part.toNat then s.replied p .readShift [pos, part] .badParam 1 s.shiftHead
      else
        match s.accounts.shifts.reverse[pos.toNat]? with
        | some r => s.replied p .readShift [pos, part] .ok 0
            (s.shiftHead ++ byte 1 ++ le 2 r.number ++ byte part.toNat ++ r.part part.toNat)
        | none => s.replied p .readShift [pos, part] .ok 0
            (s.shiftHead ++ byte 0 ++ le 2 0 ++ byte part.toNat ++ List.replicate (shiftPartLength part.toNat) 0)) := by
  refine exec_taken (r := .readShift) (by decide) (by cases p <;> rfl) hs ?_
  change takeReadShift p (writeBytes (s.port p).params 0 [pos, part]) (s.begun p .readShift [pos, part] true) = _
  simp only [takeReadShift, u8At_writeBytes_head, u8At_written_second, begun_accounts, begun_ok, begun_answer]
  rfl

theorem byte_toNat {n : Nat} (h : n < 256) : (BitVec.ofNat 8 n).toNat = n := by
  rw [BitVec.toNat_ofNat]
  omega

/-- A record held, one of its parts (R145). -/
theorem readShift_held {p : PortId} {pos : Fin 8} {part : Nat} {r : ShiftRecord} {s : State} (hs : s.ready p) (hpart : part < 4)
    (hr : s.accounts.shifts.reverse[pos.val]? = some r) : exec (.readShift p (byte pos.val ++ byte part) .atOnce) s =
      .next (s.replied p .readShift (byte pos.val ++ byte part) .ok 0
        (s.shiftHead ++ byte 1 ++ le 2 r.number ++ byte part ++ r.part part)) := by
  refine (exec_readShift (pos := BitVec.ofNat 8 pos.val) (part := BitVec.ofNat 8 part) hs).trans (congrArg Host.Outcome.next ?_)
  rw [byte_toNat (by omega), byte_toNat (by omega), if_neg (by omega), if_neg (by omega), hr]
  rfl

theorem readShift_absent {p : PortId} {pos : Fin 8} {part : Fin 4} {s : State} (hs : s.ready p)
    (hpos : s.accounts.shifts.length ≤ pos.val) : exec (.readShift p (byte pos.val ++ byte part.val) .atOnce) s =
      .next (s.replied p .readShift (byte pos.val ++ byte part.val) .ok 0
        (s.shiftHead ++ byte 0 ++ le 2 0 ++ byte part.val ++ List.replicate (shiftPartLength part.val) 0)) := by
  have hnone : s.accounts.shifts.reverse[pos.val]? = none := List.getElem?_eq_none (by simpa using hpos)
  refine (exec_readShift (pos := BitVec.ofNat 8 pos.val) (part := BitVec.ofNat 8 part.val) hs).trans (congrArg Host.Outcome.next ?_)
  rw [byte_toNat (by omega), byte_toNat (by omega), if_neg (by omega), if_neg (by omega), hnone]
  rfl

theorem leYield_length (v : Option Nat) : (leYield v).length = 2 := le_length 2 _

theorem readShift_header {p : PortId} {pos : Fin 8} {r : ShiftRecord} {s : State} (hs : s.ready p)
    (hr : s.accounts.shifts.reverse[pos.val]? = some r) :
    ∃ body, exec (.readShift p (byte pos.val ++ [0]) .atOnce) s =
        .next (State.replied p .readShift (byte pos.val ++ [0]) .ok 0 body s) ∧
      body.length = 29 ∧ u16At body 0 = s.accounts.shift % 65536 ∧ u8At body 2 = s.accounts.shifts.length % 256 ∧
      u8At body 3 = 1 ∧ u16At body 4 = r.number % 65536 ∧ u8At body 6 = 0 ∧
      u8At body 7 = (match r.reason with | .requested => 1 | .planChange => 2) ∧
      (body.drop 8).take 5 = lePlanId r.planId ∧ u32At body 13 = r.deltas.refTests.toNat ∧
      u32At body 17 = r.deltas.refPass.toNat ∧ (r.deltas.ended < 4294967296 → u32At body 21 = r.deltas.ended) ∧
      u16At body 25 = r.firstYield.getD 0xFFFF % 65536 ∧ u16At body 27 = r.finalYield.getD 0xFFFF % 65536 := by
  have hexec := readShift_held (part := 0) hs (by decide) hr
  have hend (h : r.deltas.ended < 4294967296) := endedField_toNat h
  have hlen : (r.part 0).length = 22 := by
    simp [ShiftRecord.part, leCount_length, leYield_length]
  obtain ⟨number, reason, planId, deltas, firstYield, finalYield⟩ := r
  refine ⟨_, hexec, ?_, u16At_field (by rfl), u8At_field (by rfl), u8At_field (n := 1) (by rfl), u16At_field (by rfl),
    u8At_field (n := 0) (by rfl), ?_, ?_,
    ?_, ?_, fun h => ?_, ?_, ?_⟩
  · simp [hlen, State.shiftHead, le_length]
  · refine (u8At_field (n := closeReasonCode reason) (by rfl)).trans ?_
    cases reason <;> rfl
  · cases planId <;> rfl
  · cases planId <;> exact u32At_count (by rfl)
  · cases planId <;> exact u32At_count (by rfl)
  · rw [← hend h]
    cases planId <;> exact u32At_count (by rfl)
  · cases planId <;> exact u16At_field (by rfl)
  · cases planId <;> exact u16At_field (by rfl)

end Sys2Proof.Machine
end

section
/-! PROOF. READ MARKER, page by page (R166, R183, R184). -/

namespace Sys2Proof.Machine
open Sys2Proof

/-! ### The request (R166) -/

/-- The answer of the Marker Controller to a page and a device index (R166, R184). -/
def State.markerAnswer (p : PortId) (params : List Byte) (page d : Nat) (s : State) : State :=
  if page = 0 then { s with freeCount := s.freeCount + 24 }.replied p .readMarker params .ok 0 (byte 0 ++ s.devicesBody)
  else if page = 1 then { s with freeCount := s.freeCount + 24 }.replied p .readMarker params .ok 0 (byte 1 ++ s.queueBody)
  else if page = 2 then s.replied p .readMarker params .ok 0 (byte 2 ++ countersBody s.marker)
  else if page = 3 then { s with freeCount := s.freeCount + 24 }.replied p .readMarker params .ok 0 (byte 3 ++ s.failedBody)
  else if page = 4 then
    if 3 < d then s.replied p .readMarker params .badParam 1 []
    else { s with freeCount := s.freeCount + 24 }.replied p .readMarker params .ok 0 (byte 4 ++ s.historyBody d)
  else s.replied p .readMarker params .badParam 0 []

theorem replied_spendUnstated (p : PortId) (r : Request) (params : List Byte) (body : List Byte) (n : Nat) (s : State) :
    (s.replied p r params .ok 0 body).spendUnstated n = { s with freeCount := s.freeCount + n }.replied p r params .ok 0 body := by
  cases p <;> rfl

theorem exec_readMarker {p : PortId} {params : List Byte} {page d : Nat} {s : State} (hs : s.ready p)
    (hpage : u8At (writeBytes (s.port p).params 0 params).toList 0 = page)
    (hd : u8At (writeBytes (s.port p).params 0 params).toList 1 = d ∨ page ≠ 4) :
    exec (.readMarker p params .atOnce) s = .next (s.markerAnswer p params page d) := by
  have hdevices : (s.begun p .readMarker params true).devicesBody = s.devicesBody := by cases p <;> rfl
  have hqueue : (s.begun p .readMarker params true).queueBody = s.queueBody := by cases p <;> rfl
  have hfailed : (s.begun p .readMarker params true).failedBody = s.failedBody := by cases p <;> rfl
  have hhistory (k : Nat) : (s.begun p .readMarker params true).historyBody k = s.historyBody k := by cases p <;> rfl
  refine exec_taken (r := .readMarker) (by decide) (by cases p <;> rfl) hs ?_
  change takeReadMarker p (writeBytes (s.port p).params 0 params) (s.begun p .readMarker params true) = _
  simp only [takeReadMarker, hpage, begun_marker, begun_ok, replied_spendUnstated, begun_refuse, hdevices, hqueue, hfailed, hhistory,
    State.markerAnswer, markerUnstated]
  rcases hd with h | h
  · rw [h]
  · simp only [if_neg h]

/-! ### Job records (R183) -/

/-- The nest of a job in its flags (R183). -/
def nestBit : NestId → Nat
  | .a => 0
  | .b => 1

theorem roleBit_eq (r : Role) : roleBit r = match r with | .label => 0 | .reject => 1 := by cases r <;> rfl

theorem nestBit_le (n : NestId) : nestBit n ≤ 1 := by cases n <;> decide

/-- The margins that a job record carries (R183). -/
def presentMargins (m : List (Option Int)) : Nat := ((List.range 4).map fun c => if ((m[c]?).join).isSome then 2 ^ (4 + c) else 0).sum

theorem presentMargins_le (m : List (Option Int)) : presentMargins m ≤ 240 := by
  have hbit (b : Bool) (c : Nat) : (if b = true then 2 ^ c else 0) ≤ 2 ^ c := by
    split
    · exact le_rfl
    · exact Nat.zero_le _
  have h0 := hbit ((m[0]?).join).isSome 4
  have h1 := hbit ((m[1]?).join).isSome 5
  have h2 := hbit ((m[2]?).join).isSome 6
  have h3 := hbit ((m[3]?).join).isSome 7
  simp only [presentMargins, List.range, List.range.loop, List.map_cons, List.map_nil, List.sum_cons, List.sum_nil, Nat.reduceAdd]
  omega

/-- The first 14 bytes of a job record (R183). -/
def State.jobHead (i : Nat) (j : Job) (s : State) : List Byte :=
  (match j.ticket with | some t => le 2 t.toNat | none => s.unstated i 2) ++ (le 3 j.serial ++
  (byte (nestBit j.nest + 2 * j.fails.toNat + 4 * roleBit j.role + 8 * j.reprint.toNat +
    presentMargins j.margins) ++
  (byte (j.bin + 16 * j.attempt) ++ (le 2 j.shift ++ (le 4 j.planId.toNat ++ byte j.restarts)))))

/-- A margin of a job record (R183). -/
def State.jobMargin (i : Nat) (j : Job) (s : State) (c : Nat) : List Byte :=
  match (j.margins[c]?).join with
  | some v => leSigned v
  | none => s.unstated (i + 2 + 2 * c) 2

theorem jobBytes_eq (i : Nat) (j : Job) (s : State) :
    s.jobBytes i j = s.jobHead i j ++ ((List.range 4).map (s.jobMargin i j)).flatten := by
  simp only [State.jobBytes, State.jobHead, List.append_assoc]
  rfl

theorem jobHead_length (i : Nat) (j : Job) (s : State) : (s.jobHead i j).length = 14 := by
  unfold State.jobHead
  cases j.ticket <;> simp [le_length]

theorem jobMargin_length (i : Nat) (j : Job) (s : State) (c : Nat) : (s.jobMargin i j c).length = 2 := by
  unfold State.jobMargin
  split
  · exact le_length 2 _
  · exact unstated_length _ _ _

theorem jobBytes_length (i : Nat) (j : Job) (s : State) : (s.jobBytes i j).length = 22 := by
  rw [jobBytes_eq, List.length_append, jobHead_length, flatten_map_length (jobMargin_length i j s)]
  rfl

/-- A job record in a body, from place `k` on (R183). -/
theorem jobBytes_standsAt {body rest : List Byte} {k i : Nat} {j : Job} {s : State} (h : body.drop k = s.jobBytes i j ++ rest) :
    j.StandsAt k body := by
  have hflags : nestBit j.nest + 2 * j.fails.toNat + 4 * roleBit j.role + 8 * j.reprint.toNat +
      presentMargins j.margins < 256 := by
    have := Bool.toNat_le j.fails
    have := Bool.toNat_le j.reprint
    have := presentMargins_le j.margins
    have hrole : roleBit j.role ≤ 1 := by cases j.role <;> decide
    have := nestBit_le j.nest
    omega
  have hat (n : Nat) : body.drop (k + n) = (s.jobHead i j ++ (((List.range 4).map (s.jobMargin i j)).flatten ++ rest)).drop n := by
    rw [← List.drop_drop, h, jobBytes_eq, List.append_assoc]
  have hplace (n : Nat) (hn : 2 ≤ n) : ∃ a b : Byte, body.drop (k + n) = (a :: b :: (le 3 j.serial ++
      (byte (nestBit j.nest + 2 * j.fails.toNat + 4 * roleBit j.role + 8 * j.reprint.toNat +
        presentMargins j.margins) ++
      (byte (j.bin + 16 * j.attempt) ++ (le 2 j.shift ++ (le 4 j.planId.toNat ++ (byte j.restarts ++
        (((List.range 4).map (s.jobMargin i j)).flatten ++ rest)))))))).drop n := by
    rw [hat, State.jobHead]
    simp only [List.append_assoc]
    cases j.ticket with
    | some t => exact ⟨_, _, rfl⟩
    | none => exact ⟨_, _, rfl⟩
  refine ⟨fun t ht => ?_, ?_, ?_, ?_, ?_, ?_, ?_, fun c v hc hv => ?_⟩
  · refine u16At_word (v := t) (l := body) (k := k) (rest := ((s.jobHead i j).drop 2) ++
      (((List.range 4).map (s.jobMargin i j)).flatten ++ rest)) ?_
    rw [← Nat.add_zero k, hat, State.jobHead, ht]
    rfl
  · obtain ⟨a, b, e⟩ := hplace 2 (by decide)
    exact u24At_field e
  · obtain ⟨a, b, e⟩ := hplace 5 (by decide)
    refine (u8At_field (e.trans (by rfl))).trans ((Nat.mod_eq_of_lt hflags).trans ?_)
    rw [roleBit_eq]
    rfl
  · obtain ⟨a, b, e⟩ := hplace 6 (by decide)
    exact u8At_field (e.trans (by rfl))
  · obtain ⟨a, b, e⟩ := hplace 7 (by decide)
    exact u16At_field (e.trans (by rfl))
  · obtain ⟨a, b, e⟩ := hplace 9 (by decide)
    exact (u32At_field (e.trans (by rfl))).trans (Nat.mod_eq_of_lt j.planId.isLt)
  · obtain ⟨a, b, e⟩ := hplace 13 (by decide)
    exact u8At_field (e.trans (by rfl))
  · rw [Nat.add_assoc, hat, ← List.append_assoc, List.drop_append_of_le_length, List.take_append_of_le_length,
      page_entry (jobMargin_length i j s) (jobHead_length i j s) (List.getElem?_range hc), State.jobMargin, hv]
    all_goals
      simp only [List.length_drop, List.length_append, jobHead_length, flatten_map_length (jobMargin_length i j s), List.length_range]
      omega

/-! ### Pages (R184) -/

/-- What stands from a later place of a body on. -/
theorem drop_later {body l : List Byte} {k : Nat} (h : body.drop k = l) (n : Nat) : body.drop (k + n) = l.drop n := by
  rw [← List.drop_drop, h]

theorem deviceBytes_length (s : State) (i : Nat) (d : Device) : (s.deviceBytes i d).length = 9 := by
  unfold State.deviceBytes
  cases d.abilities <;> cases d.history.bind (·.ticket) <;> simp [le_length]

theorem deviceBits_lt (d : Device) :
    d.stateBits + 32 * d.toggle.toNat + 64 * d.history.isSome.toNat + 128 * d.abilities.isSome.toNat < 256 := by
  have hrole : roleBit d.role ≤ 1 := by cases d.role <;> decide
  have hstate : deviceStateCode d.state ≤ 3 := by cases d.state <;> decide
  have hcause : deviceFaultCode d.cause ≤ 3 := by
    cases d.cause with
    | none => decide
    | some c => cases c <;> decide
  have := Bool.toNat_le d.toggle
  have := Bool.toNat_le d.history.isSome
  have := Bool.toNat_le d.abilities.isSome
  unfold Device.stateBits
  omega

/-- One device of the DEVICES page, from place `k` on (R184). -/
theorem deviceBytes_fields {body rest : List Byte} {k i : Nat} {d : Device} {s : State} (h : body.drop k = s.deviceBytes i d ++ rest) :
    u8At body k = d.address % 256 ∧
    u8At body (k + 1) = (match d.role with | .label => 0 | .reject => 1) + 2 * deviceStateCode d.state +
      8 * deviceFaultCode d.cause + 32 * d.toggle.toNat + 64 * d.history.isSome.toNat + 128 * d.abilities.isSome.toNat ∧
    u8At body (k + 2) = (d.resolved.getD 0 + 4 * d.naks) % 256 ∧
    (body.drop (k + 3)).take 4 = (match d.abilities with
      | some a => [a.version, a.formats, a.maxPages, a.kind]
      | none => [0xFF, 0xFF, 0xFF, 0xFF]) ∧
    ∀ v, d.history.bind (·.ticket) = some v → u16At body (k + 7) = v.toNat := by
  simp only [State.deviceBytes, List.append_assoc] at h
  refine ⟨u8At_field h, ?_, u8At_field ((drop_later h 2).trans (by rfl)), ?_, fun v hv => ?_⟩
  · refine (u8At_field ((drop_later h 1).trans (by rfl))).trans ((Nat.mod_eq_of_lt (deviceBits_lt d)).trans ?_)
    rw [Device.stateBits, roleBit_eq]
  · rw [drop_later h 3]
    cases d.abilities <;> rfl
  · rw [hv] at h
    refine u16At_word (rest := rest) ((drop_later h 7).trans ?_)
    cases d.abilities <;> rfl

theorem readDevices {p : PortId} {s : State} (hs : s.ready p) :
    ∃ k body, exec (.readMarker p [0] .atOnce) s =
        .next (State.replied p .readMarker [0] .ok 0 body { s with freeCount := k }) ∧
      body.length = 2 + 9 * s.marker.devices.length ∧ u8At body 0 = 0 ∧ u8At body 1 = s.marker.devices.length % 256 ∧
      ∀ i d, s.marker.devices[i]? = some d →
        u8At body (2 + 9 * i) = d.address % 256 ∧
        u8At body (3 + 9 * i) = (match d.role with | .label => 0 | .reject => 1) + 2 * deviceStateCode d.state +
          8 * deviceFaultCode d.cause + 32 * d.toggle.toNat + 64 * d.history.isSome.toNat + 128 * d.abilities.isSome.toNat ∧
        u8At body (4 + 9 * i) = (d.resolved.getD 0 + 4 * d.naks) % 256 ∧
        (body.drop (5 + 9 * i)).take 4 = (match d.abilities with
          | some a => [a.version, a.formats, a.maxPages, a.kind]
          | none => [0xFF, 0xFF, 0xFF, 0xFF]) ∧
        ∀ v, d.history.bind (·.ticket) = some v → u16At body (9 + 9 * i) = v.toNat := by
  have hexec := exec_readMarker (params := [0]) (page := 0) (d := 0) hs (u8At_writeBytes_head _ 0 []) (.inr (by decide))
  have hlen (x : Device × Nat) : (s.deviceBytes (2 * x.2) x.1).length = 9 := deviceBytes_length _ _ _
  have hbody : byte 0 ++ s.devicesBody = (byte 0 ++ byte s.marker.devices.length) ++
      (s.marker.devices.zipIdx.map fun x => s.deviceBytes (2 * x.2) x.1).flatten := (List.append_assoc ..).symm
  refine ⟨_, _, hexec, ?_, u8At_field (n := 0) (by rfl), u8At_field (by rfl), fun i d hd => ?_⟩
  · rw [hbody, List.length_append, flatten_map_length hlen, List.length_zipIdx]
    rfl
  · have hi : s.marker.devices.zipIdx[i]? = some (d, i) := by
      rw [List.getElem?_zipIdx, hd, Nat.zero_add]
      rfl
    have hplace := page_drop (k := 2) hlen (head := byte 0 ++ byte s.marker.devices.length) rfl hi
    rw [← hbody] at hplace
    obtain ⟨h0, h1, h2, h3, h7⟩ := deviceBytes_fields hplace
    rw [show 3 + 9 * i = 2 + 9 * i + 1 by omega, show 4 + 9 * i = 2 + 9 * i + 2 by omega, show 5 + 9 * i = 2 + 9 * i + 3 by omega,
      show 9 + 9 * i = 2 + 9 * i + 7 by omega]
    exact ⟨h0, h1, h2, h3, h7⟩

/-- One job of the QUEUE page (R184). -/
def State.queueEntry (s : State) (x : Job × Nat) : List Byte :=
  (match x.1.ticket with | some t => le 2 t.toNat | none => s.unstated (1 + 2 * x.2) 2) ++
    (le 3 x.1.serial ++ byte (roleBit x.1.role + 2 * x.1.reprint.toNat))

theorem queueEntry_length (s : State) (x : Job × Nat) : (s.queueEntry x).length = 6 := by
  unfold State.queueEntry
  cases x.1.ticket <;> simp [le_length]

/-- The head of the QUEUE page, `restarts` standing for those of the head job (R184). -/
def queueHead (m : Marker) (restarts : Nat) : List Byte :=
  byte 1 ++ (byte m.queue.length ++ (byteOrFF m.head.bound ++ (byteOrFF (if m.queue.isEmpty then none else some m.head.page) ++
    byte (restarts + 4 * m.head.busyWait.toNat + 8 * m.head.timer.isSome.toNat))))

theorem queueBody_eq (s : State) : ∃ restarts, (∀ j rest, s.marker.queue = j :: rest → restarts = j.restarts) ∧
    byte 1 ++ s.queueBody = queueHead s.marker restarts ++ (s.marker.queue.zipIdx.map s.queueEntry).flatten := by
  cases hq : s.marker.queue with
  | nil =>
    refine ⟨(Config.unstatedByte s.freeCount).toNat % 4, fun j rest h => (by cases h), ?_⟩
    simp only [State.queueBody, queueHead, hq, List.append_assoc]
    rfl
  | cons j rest =>
    refine ⟨j.restarts, fun _ _ h => by cases h; rfl, ?_⟩
    simp only [State.queueBody, queueHead, hq, List.append_assoc]
    rfl

theorem queueEntry_fields {body rest : List Byte} {k : Nat} {x : Job × Nat} {s : State} (h : body.drop k = s.queueEntry x ++ rest) :
    (∀ v, x.1.ticket = some v → u16At body k = v.toNat) ∧
    u16At body (k + 2) + 65536 * u8At body (k + 2 + 2) = x.1.serial % 16777216 ∧
    u8At body (k + 5) = (match x.1.role with | .label => 0 | .reject => 1) + 2 * x.1.reprint.toNat := by
  simp only [State.queueEntry, List.append_assoc] at h
  refine ⟨fun v hv => ?_, u24At_field (k := k + 2) (rest := byte (roleBit x.1.role + 2 * x.1.reprint.toNat) ++ rest) ?_, ?_⟩
  · rw [hv] at h
    exact u16At_word h
  · rw [drop_later h 2]
    cases x.1.ticket <;> rfl
  · refine (u8At_field (n := roleBit x.1.role + 2 * x.1.reprint.toNat) (rest := rest) ?_).trans ((Nat.mod_eq_of_lt ?_).trans ?_)
    · rw [drop_later h 5]
      cases x.1.ticket <;> rfl
    · have := Bool.toNat_le x.1.reprint
      have hrole : roleBit x.1.role ≤ 1 := by cases x.1.role <;> decide
      omega
    · rw [roleBit_eq]

theorem readQueue {p : PortId} {s : State} (hs : s.ready p) :
    ∃ k body, exec (.readMarker p [1] .atOnce) s =
        .next (State.replied p .readMarker [1] .ok 0 body { s with freeCount := k }) ∧
      body.length = 5 + 6 * s.marker.queue.length ∧ u8At body 0 = 1 ∧ u8At body 1 = s.marker.queue.length % 256 ∧
      u8At body 2 = s.marker.head.bound.getD 0xFF % 256 ∧
      (∀ j rest, s.marker.queue = j :: rest → u8At body 3 = s.marker.head.page % 256 ∧
        u8At body 4 = (j.restarts + 4 * s.marker.head.busyWait.toNat + 8 * s.marker.head.timer.isSome.toNat) % 256) ∧
      ∀ i j, s.marker.queue[i]? = some j →
        (∀ v, j.ticket = some v → u16At body (5 + 6 * i) = v.toNat) ∧
        u16At body (7 + 6 * i) + 65536 * u8At body (9 + 6 * i) = j.serial % 16777216 ∧
        u8At body (10 + 6 * i) = (match j.role with | .label => 0 | .reject => 1) + 2 * j.reprint.toNat := by
  have hexec := exec_readMarker (params := [1]) (page := 1) (d := 0) hs (u8At_writeBytes_head _ 1 []) (.inr (by decide))
  obtain ⟨restarts, hrestarts, hbody⟩ := queueBody_eq s
  have hanswer : s.markerAnswer p [1] 1 0 = { s with freeCount := s.freeCount + 24 }.replied p .readMarker [1] .ok 0
      (queueHead s.marker restarts ++ (s.marker.queue.zipIdx.map s.queueEntry).flatten) := by
    rw [← hbody]
    exact (if_neg (by decide)).trans (if_pos rfl)
  rw [hanswer] at hexec
  refine ⟨_, _, hexec, ?_, u8At_field (n := 1) (by rfl), u8At_field (by rfl), u8At_field (by rfl), fun j rest hq => ⟨?_, ?_⟩,
    fun i j hj => ?_⟩
  · rw [List.length_append, flatten_map_length (queueEntry_length s), List.length_zipIdx]
    rfl
  · refine (u8At_field (by rfl)).trans ?_
    rw [hq]
    rfl
  · refine (u8At_field (by rfl)).trans ?_
    rw [hrestarts j rest hq]
  · have hi : s.marker.queue.zipIdx[i]? = some (j, i) := by
      rw [List.getElem?_zipIdx, hj, Nat.zero_add]
      rfl
    have hplace := page_drop (k := 5) (queueEntry_length s) (head := queueHead s.marker restarts) rfl hi
    rw [show 7 + 6 * i = 5 + 6 * i + 2 by omega, show 9 + 6 * i = 5 + 6 * i + 2 + 2 by omega, show 10 + 6 * i = 5 + 6 * i + 5 by omega]
    exact queueEntry_fields hplace

/-- One waiting nest of the COUNTERS page (R184). -/
def waitingBytes (w : WaitingJob) : List Byte :=
  byte (nestBit w.nest + 2 * roleBit w.job.role) ++ le 3 w.job.serial

theorem waitingBytes_length (w : WaitingJob) : (waitingBytes w).length = 4 := by simp [waitingBytes, le_length]

/-- The head of the COUNTERS page (R184). -/
def countersHead (m : Marker) : List Byte :=
  byte 2 ++ (leCount m.enqueued ++ (leCount m.done ++ (leCount m.failed ++ (leCount m.dropped ++ (le 2 m.ticket.toNat ++
    (flag m.bus.isSome ++ byte m.waitList.length))))))

theorem countersBody_eq (m : Marker) : byte 2 ++ countersBody m = countersHead m ++ (m.waitList.map waitingBytes).flatten := by
  simp only [countersBody, countersHead, List.append_assoc]
  rfl

theorem readCounters {p : PortId} {s : State} (hs : s.ready p) :
    ∃ body, exec (.readMarker p [2] .atOnce) s = .next (State.replied p .readMarker [2] .ok 0 body s) ∧
      body.length = 21 + 4 * s.marker.waitList.length ∧ u8At body 0 = 2 ∧ u32At body 1 = s.marker.enqueued.toNat ∧
      u32At body 5 = s.marker.done.toNat ∧
      u32At body 9 = s.marker.failed.toNat ∧ u32At body 13 = s.marker.dropped.toNat ∧
      u16At body 17 = s.marker.ticket.toNat ∧ u8At body 19 = s.marker.bus.isSome.toNat ∧
      u8At body 20 = s.marker.waitList.length % 256 ∧
      ∀ i w, s.marker.waitList[i]? = some w →
        u8At body (21 + 4 * i) =
          (match w.nest with | .a => 0 | .b => 1) + 2 * (match w.job.role with | .label => 0 | .reject => 1) ∧
        u16At body (22 + 4 * i) + 65536 * u8At body (24 + 4 * i) = w.job.serial % 16777216 := by
  have hexec := exec_readMarker (params := [2]) (page := 2) (d := 0) hs (u8At_writeBytes_head _ 2 []) (.inr (by decide))
  have hanswer : s.markerAnswer p [2] 2 0 = s.replied p .readMarker [2] .ok 0
      (countersHead s.marker ++ (s.marker.waitList.map waitingBytes).flatten) := by
    rw [← countersBody_eq]
    exact (if_neg (by decide)).trans ((if_neg (by decide)).trans (if_pos rfl))
  rw [hanswer] at hexec
  refine ⟨_, hexec, ?_, u8At_field (n := 2) (by rfl), u32At_count (by rfl), u32At_count (by rfl), u32At_count (by rfl), u32At_count (by rfl),
    u16At_word (by rfl), ?_, u8At_field (by rfl), fun i w hw => ?_⟩
  · rw [List.length_append, flatten_map_length waitingBytes_length]
    rfl
  · exact (u8At_field (by rfl)).trans (Nat.mod_eq_of_lt (by have := Bool.toNat_le s.marker.bus.isSome; omega))
  · have hplace := page_drop (k := 21) waitingBytes_length (head := countersHead s.marker) rfl hw
    have hrole : roleBit w.job.role ≤ 1 := by cases w.job.role <;> decide
    rw [show 22 + 4 * i = 21 + 4 * i + 1 by omega, show 24 + 4 * i = 21 + 4 * i + 1 + 2 by omega]
    refine ⟨(u8At_field (hplace.trans (by rfl))).trans ((Nat.mod_eq_of_lt ?_).trans ?_),
      u24At_field ((drop_later hplace 1).trans (by rfl))⟩
    · have := nestBit_le w.nest
      omega
    · rw [roleBit_eq]
      rfl

theorem failedBody_length (s : State) : s.failedBody.length = 26 := by
  unfold State.failedBody
  split
  · simp [jobBytes_length]
  · rfl

theorem readFailed {p : PortId} {s : State} (hs : s.ready p) :
    ∃ k body, exec (.readMarker p [3] .atOnce) s =
        .next (State.replied p .readMarker [3] .ok 0 body { s with freeCount := k }) ∧
      body.length = 27 ∧ u8At body 0 = 3 ∧ (s.marker.lastFailed = none → body = 3 :: List.replicate 26 0) ∧
      ∀ f, s.marker.lastFailed = some f → u8At body 1 = 1 ∧ u8At body 2 = jobFaultCode f.cause ∧
        u8At body 3 = f.device.getD 0xFF % 256 ∧ u8At body 4 = f.page % 256 ∧ f.job.StandsAt 5 body := by
  have hexec := exec_readMarker (params := [3]) (page := 3) (d := 0) hs (u8At_writeBytes_head _ 3 []) (.inr (by decide))
  have hanswer : s.markerAnswer p [3] 3 0 = { s with freeCount := s.freeCount + 24 }.replied p .readMarker [3] .ok 0
      (byte 3 ++ s.failedBody) :=
    (if_neg (by decide)).trans ((if_neg (by decide)).trans ((if_neg (by decide)).trans (if_pos rfl)))
  rw [hanswer] at hexec
  refine ⟨_, _, hexec, ?_, u8At_field (n := 3) (by rfl), fun h => ?_, fun f hf => ?_⟩
  · rw [List.length_append, failedBody_length]
    rfl
  · rw [State.failedBody, h]
    rfl
  · have hbody : byte 3 ++ s.failedBody = byte 3 ++ (byte 1 ++ (byte (jobFaultCode f.cause) ++ (byteOrFF f.device ++ (byte f.page ++
        (s.jobBytes 0 f.job ++ []))))) := by
      rw [State.failedBody, hf]
      simp only [List.append_assoc, List.append_nil]
    have hcause : jobFaultCode f.cause < 256 := by cases f.cause <;> decide
    rw [hbody]
    exact ⟨u8At_field (n := 1) (by rfl), (u8At_field (by rfl)).trans (Nat.mod_eq_of_lt hcause), u8At_field (by rfl), u8At_field (by rfl),
      jobBytes_standsAt (i := 0) (s := s) (rest := []) (by rfl)⟩

theorem readHistory {p : PortId} (d : Fin 4) {s : State} (hs : s.ready p) :
    ∃ k body, exec (.readMarker p (byte 4 ++ byte d.val) .atOnce) s =
        .next (State.replied p .readMarker (byte 4 ++ byte d.val) .ok 0 body { s with freeCount := k }) ∧
      body.length = 25 ∧
      ((s.marker.devices[d.val]?).bind (·.history) = none → body = byte 4 ++ byte d.val ++ List.replicate 23 0) ∧
      ∀ j, (s.marker.devices[d.val]?).bind (·.history) = some j →
        u8At body 0 = 4 ∧ u8At body 1 = d.val ∧ u8At body 2 = 1 ∧ j.StandsAt 3 body := by
  have hexec := exec_readMarker (params := byte 4 ++ byte d.val) (page := 4) (d := d.val) hs (u8At_writeBytes_head _ 4 (byte d.val))
    (.inl ((u8At_written_second _ 4 (BitVec.ofNat 8 d.val)).trans (byte_fin d)))
  have hanswer : s.markerAnswer p (byte 4 ++ byte d.val) 4 d.val = { s with freeCount := s.freeCount + 24 }.replied p .readMarker
      (byte 4 ++ byte d.val) .ok 0 (byte 4 ++ s.historyBody d.val) :=
    (if_neg (by decide)).trans ((if_neg (by decide)).trans ((if_neg (by decide)).trans ((if_neg (by decide)).trans
      ((if_pos rfl).trans (if_neg (by omega))))))
  rw [hanswer] at hexec
  refine ⟨_, _, hexec, ?_, fun h => ?_, fun j hj => ?_⟩
  · unfold State.historyBody
    split
    · simp [jobBytes_length]
    · simp
  · rw [State.historyBody, h]
    rfl
  · have hbody : byte 4 ++ s.historyBody d.val = byte 4 ++ (byte d.val ++ (byte 1 ++ (s.jobBytes 0 j ++ []))) := by
      rw [State.historyBody, hj]
      simp only [List.append_assoc, List.append_nil]
    rw [hbody]
    exact ⟨u8At_field (n := 4) (by rfl), (u8At_field (by rfl)).trans (Nat.mod_eq_of_lt (by omega)), u8At_field (n := 1) (by rfl),
      jobBytes_standsAt (i := 0) (s := s) (rest := []) (by rfl)⟩

/-- Settles O35: page by page. -/
theorem accountAndCounterReplies : Obligations.AccountAndCounterReplies := by
  refine ⟨fun p s hs => readTotals hs, fun p high s hs => readBins high hs, fun p s hs => readSummary hs,
    fun p start s hs hstart => readRing hs hstart, fun p start s hs hstart => ?_, fun p page s hs hpage => ?_,
    fun p pos r s hs hr => readShift_header hs hr, fun p pos part r s hs hr => ⟨readShift_held hs part.isLt hr, rfl, ?_, ?_⟩,
    fun p pos part s hs hpos => ?_, fun p pos part s hs hbad => ?_, fun p s hs => readDevices hs, fun p s hs => readQueue hs,
    fun p s hs => readCounters hs, fun p s hs => readFailed hs, fun p d s hs => readHistory d hs, fun p page d s hs hbad => ?_⟩
  · refine (exec_readAccounts (params := [4, start]) (page := 4) hs (u8At_writeBytes_head _ 4 [start])
      (.inl (u8At_written_second _ 4 start))).trans (congrArg Host.Outcome.next ?_)
    simp [State.accountsAnswer, hstart]
  · refine (exec_readAccounts (params := [page]) (start := 0) hs (u8At_writeBytes_head _ page []) (.inr (by omega))).trans
      (congrArg Host.Outcome.next ?_)
    rw [State.accountsAnswer, if_neg (by omega), if_neg (by omega), if_neg (by omega), if_neg (by omega), if_neg (by omega)]
  · change leCounts _ ++ leCounts _ = leCounts _
    simp only [leCounts]
    rw [← List.flatten_append, ← List.map_append, List.take_append_drop]
  · change (leCounts _).length = 32
    rw [leCounts_length, List.length_take, Vector.length_toList]
    rfl
  · refine (readShift_absent hs hpos).trans ?_
    fin_cases part <;> rfl
  · refine (exec_readShift hs).trans (congrArg Host.Outcome.next ?_)
    by_cases h : 7 < pos.toNat
    · simp only [if_pos h]
      rfl
    · simp only [if_neg h, if_pos (hbad.resolve_left h)]
      rfl
  · by_cases h : 4 < page.toNat
    · refine (exec_readMarker (params := [page, d]) (d := 0) hs (u8At_writeBytes_head _ page [d]) (.inr (by omega))).trans
        (congrArg Host.Outcome.next ?_)
      rw [State.markerAnswer, if_neg (by omega), if_neg (by omega), if_neg (by omega), if_neg (by omega), if_neg (by omega), if_pos h]
    · obtain ⟨rfl, hd⟩ := hbad.resolve_left h
      refine (exec_readMarker (params := [4, d]) (page := 4) hs (u8At_writeBytes_head _ 4 [d])
        (.inl (u8At_written_second _ 4 d))).trans (congrArg Host.Outcome.next ?_)
      simp [State.markerAnswer, hd]

end Sys2Proof.Machine
end

section
/-! PROOF. READ NEST: the nest summary, field by field (R24, R181). -/

namespace Sys2Proof.Machine
open Sys2Proof

/-! ### Bit sets (R181) -/

/-- A sum of distinct powers of two has the bits of its terms. -/
theorem testBit_sum_powers (b : Nat → Bool) (n : Nat) :
    ((List.range n).map fun c => if b c = true then 2 ^ c else 0).sum < 2 ^ n ∧
    ∀ i, (((List.range n).map fun c => if b c = true then 2 ^ c else 0).sum).testBit i = (decide (i < n) && b i) := by
  induction n with
  | zero => simp
  | succ n ih =>
    obtain ⟨hlt, hbits⟩ := ih
    obtain ⟨S, hS⟩ : ∃ S, S = ((List.range n).map fun c => if b c = true then 2 ^ c else 0).sum := ⟨_, rfl⟩
    rw [← hS] at hlt hbits
    have hsum : ((List.range (n + 1)).map fun c => if b c = true then 2 ^ c else 0).sum = 2 ^ n * (b n).toNat + S := by
      rw [List.range_succ, List.map_append, List.sum_append, ← hS, Nat.add_comm]
      cases hb : b n <;> simp [hb]
    rw [hsum]
    constructor
    · have := Nat.mul_le_mul_left (2 ^ n) (Bool.toNat_le (b n))
      rw [Nat.pow_succ]
      omega
    · intro i
      rw [Nat.testBit_two_pow_mul_add _ hlt]
      rcases Nat.lt_trichotomy i n with h | rfl | h
      · simp [h, hbits, show i < n + 1 by omega]
      · cases b i <;> simp
      · have hsub : i - n = (i - n - 1) + 1 := by omega
        rw [if_neg (by omega), hsub, Nat.testBit_succ]
        cases b n <;> simp [show ¬i < n + 1 by omega]

theorem testBit_detectedBits {l : List Nat} (h0 : 0 ∉ l) {code : Nat} (hcode : 1 ≤ code) :
    (detectedBits l).testBit (code - 1) = true ↔ code ∈ l := by
  have hfold (l : List Nat) (a : Nat) (h0 : 0 ∉ l) : (l.foldl (fun a k => a ||| 2 ^ (k - 1)) a).testBit (code - 1) = true ↔
      a.testBit (code - 1) = true ∨ code ∈ l := by
    induction l generalizing a with
    | nil => simp
    | cons k l ih =>
      have hk : k ≠ 0 := fun e => h0 (by simp [e])
      rw [List.foldl_cons, ih _ (fun h => h0 (List.mem_cons_of_mem _ h)), Nat.testBit_or, Nat.testBit_two_pow, Bool.or_eq_true,
        decide_eq_true_eq, List.mem_cons, or_assoc]
      have : k - 1 = code - 1 ↔ code = k := by omega
      rw [this]
  rw [detectedBits, hfold l 0 h0]
  simp

/-! ### The parts of the summary (R181) -/

theorem claimantCode_le (c : Claimant) : claimantCode c ≤ 3 := by
  cases c with
  | nest n => cases n <;> decide
  | check => decide

theorem summaryFlags_lt (x : Nest) : nestStateCode x.state + 8 * kindCode x.kind + 16 * verdictCode x.verdict +
    64 * x.causeNoisy.toNat + 128 * x.causeOverload.toNat < 256 := by
  have hstate : nestStateCode x.state ≤ 7 := by cases x.state <;> decide
  have hkind : kindCode x.kind ≤ 1 := by
    cases x.kind with
    | none => decide
    | some k => cases k <;> decide
  have hverdict : verdictCode x.verdict ≤ 3 := by
    cases x.verdict with
    | none => decide
    | some v => cases v <;> decide
  have := Bool.toNat_le x.causeNoisy
  have := Bool.toNat_le x.causeOverload
  omega

theorem outstanding_le (n : NestId) (s : State) : s.outstanding n ≤ 2 := by
  unfold State.outstanding
  have := Bool.toNat_le (s.capture.half0.outstandingFor (.nest n) (s.nest n).tag)
  have := Bool.toNat_le (s.capture.half1.outstandingFor (.nest n) (s.nest n).tag)
  omega

theorem engineFlags_lt (n : NestId) (s : State) : refStateCode (s.nest n).refState +
    4 * (if s.holdsChain n then genModeCode s.gen.mode else 7) + 32 * s.engine.under.isSome.toNat + 64 * s.outstanding n < 256 := by
  have href : refStateCode (s.nest n).refState ≤ 3 := by cases (s.nest n).refState <;> decide
  have hmode : (if s.holdsChain n = true then genModeCode s.gen.mode else 7) ≤ 7 := by
    split
    · cases s.gen.mode <;> decide
    · exact le_rfl
  have := Bool.toNat_le s.engine.under.isSome
  have := outstanding_le n s
  omega

/-- The bin as byte 5 carries it, free while no verdict stands (R181; assumption log 9). -/
def State.summaryBin (n : NestId) (s : State) : Nat := ((s.nest n).bin.getD ((Config.unstatedByte s.freeCount).toNat)) % 16

theorem nestHead_eq (n : NestId) (s : State) : s.nestHead n =
    byte (nestStateCode (s.nest n).state + 8 * kindCode (s.nest n).kind + 16 * verdictCode (s.nest n).verdict +
      64 * (s.nest n).causeNoisy.toNat + 128 * (s.nest n).causeOverload.toNat) ++
    (byte (refStateCode (s.nest n).refState + 4 * (if s.holdsChain n then genModeCode s.gen.mode else 7) +
      32 * s.engine.under.isSome.toNat + 64 * s.outstanding n) ++
    (leSerial (s.nest n).serial ++
    (byte ((s.nest n).attempt.getD 0 + 8 * s.summaryBin n + 128 * (s.nest n).ticket.isSome.toNat) ++
    (le 2 (s.nest n).tag.toNat ++ (byte (s.nest n).slots.length ++ (byte ((s.nest n).slots.countP (·.isSome)) ++
    (byteOrFF (if s.holdsChain n then some s.gen.cursor else none) ++
    (byte ((s.nest n).overflow + 8 * (s.nest n).worst.length) ++
    (byte (match s.engine.under with | some h => claimantCode (s.half h).claimant | none => 0) ++
    byteOrFF (s.engine.under.map fun h => (s.half h).point)))))))))) := by
  simp only [State.nestHead, List.append_assoc]
  rfl

theorem nestHead_length (n : NestId) (s : State) : (s.nestHead n).length = 14 := by
  rw [nestHead_eq]
  simp [leSerial, le_length]

/-- The ticket of a nest (R181). -/
def State.ticketBytes (s : State) : Option (BitVec 16) → List Byte
  | some t => le 2 t.toNat
  | none => s.unstated 1 2

theorem ticketBytes_length (s : State) (v : Option (BitVec 16)) : (s.ticketBytes v).length = 2 := by
  cases v with
  | none => exact unstated_length _ _ _
  | some t => exact le_length 2 _

/-- The last start refusal (R181). -/
def refusalBytes (r : Option StartRefusal) : List Byte :=
  byte (match r with | some r => statusCode r.status | none => 0) ++ byte (match r with | some r => r.subcode | none => 0xFF)

/-- The counts of judged points (R181). -/
def judgedBytes (x : Nest) (c : Nat) : List Byte := byte (x.judged.getD c []).length

/-- One of the eight worst margins (R181). -/
def State.marginBytes (s : State) (x : Nest) (c : Nat) : List Byte := s.worstBytes (3 + 2 * c) ((x.worst[c]?).join)

theorem marginBytes_length (s : State) (x : Nest) (c : Nat) : (s.marginBytes x c).length = 3 := by
  unfold State.marginBytes State.worstBytes
  split
  · simp [leSigned, le_length]
  · simp

/-- Whether the worst margin of a curve is saturated (R181). -/
def Nest.saturatedAt (x : Nest) (c : Nat) : Bool := (((x.worst[c]?).join).map (·.saturated)).getD false

/-- The saturated marks (R181). -/
def saturatedBits (x : Nest) : Nat := ((List.range 8).map fun c => if x.saturatedAt c = true then 2 ^ c else 0).sum

/-- Two fail reasons (R181). -/
def nibblePair (l : List Nat) (i : Nat) : List Byte := byte (l.getD (2 * i) 0 + 16 * l.getD (2 * i + 1) 0)

theorem nibblePair_length (l : List Nat) (i : Nat) : (nibblePair l i).length = 1 := byte_length _

theorem judgedBytes_length (x : Nest) (c : Nat) : (judgedBytes x c).length = 1 := byte_length _

theorem saturatedAt_iff (x : Nest) (c : Nat) :
    x.saturatedAt c = true ↔ ∃ w, (x.worst[c]?).join = some w ∧ w.saturated = true := by
  unfold Nest.saturatedAt
  cases (x.worst[c]?).join <;> simp

theorem statusCode_lt (st : Status) : statusCode st < 256 := by cases st <;> decide

theorem nestTail_eq (n : NestId) (s : State) : s.nestTail n =
    ((List.range 4).map (nibblePair (s.nest n).failList)).flatten ++ (le 2 (detectedBits (s.nest n).detected) ++
    (s.ticketBytes (s.nest n).ticket ++ (refusalBytes (s.nest n).lastRefusal ++
    (((List.range 8).map (judgedBytes (s.nest n))).flatten ++ (((List.range 8).map (s.marginBytes (s.nest n))).flatten ++
    byte (saturatedBits (s.nest n))))))) := by
  simp only [State.nestTail, List.append_assoc]
  cases (s.nest n).lastRefusal <;> rfl

/-- What stands behind a piece of a body. -/
theorem drop_past {head l : List Byte} {k : Nat} (hk : head.length = k) : (head ++ l).drop k = l := by
  rw [← hk, List.drop_left]

section
variable {body : List Byte} {n : NestId} {s : State}

/-- Bytes 0 to 13 (R181). -/
theorem summaryHead_fields (h : body = s.nestHead n ++ s.nestTail n) :
    u8At body 0 = nestStateCode (s.nest n).state + 8 * kindCode (s.nest n).kind + 16 * verdictCode (s.nest n).verdict +
      64 * (s.nest n).causeNoisy.toNat + 128 * (s.nest n).causeOverload.toNat ∧
    u8At body 1 = refStateCode (s.nest n).refState + 4 * (if s.holdsChain n then genModeCode s.gen.mode else 7) +
      32 * s.engine.under.isSome.toNat + 64 * s.outstanding n ∧
    u16At body 2 + 65536 * u8At body 4 = ((s.nest n).serial.getD 0) % 16777216 ∧
    u8At body 5 = ((s.nest n).attempt.getD 0 + 8 * s.summaryBin n + 128 * (s.nest n).ticket.isSome.toNat) % 256 ∧
    u16At body 6 = (s.nest n).tag.toNat ∧ u8At body 8 = (s.nest n).slots.length % 256 ∧
    u8At body 9 = ((s.nest n).slots.countP (·.isSome)) % 256 ∧
    u8At body 10 = (if s.holdsChain n then some s.gen.cursor else none).getD 0xFF % 256 ∧
    u8At body 11 = ((s.nest n).overflow + 8 * (s.nest n).worst.length) % 256 ∧
    u8At body 12 = (match s.engine.under with | some h => claimantCode (s.half h).claimant | none => 0) % 256 ∧
    u8At body 13 = (s.engine.under.map fun h => (s.half h).point).getD 0xFF % 256 := by
  subst h
  simp only [nestHead_eq, List.append_assoc]
  exact ⟨(u8At_field (by rfl)).trans (Nat.mod_eq_of_lt (summaryFlags_lt _)),
    (u8At_field (by rfl)).trans (Nat.mod_eq_of_lt (engineFlags_lt _ _)), u24At_field (by rfl), u8At_field (by rfl), u16At_word (by rfl),
    u8At_field (by rfl), u8At_field (by rfl), u8At_field (by rfl), u8At_field (by rfl), u8At_field (by rfl), u8At_field (by rfl)⟩

/-- What stands in the summary from byte 14 on (R181). -/
theorem summary_places (h : body = s.nestHead n ++ s.nestTail n) :
    (∃ l, body.drop 14 = ((List.range 4).map (nibblePair (s.nest n).failList)).flatten ++ l) ∧
    (∃ l, body.drop 18 = le 2 (detectedBits (s.nest n).detected) ++ l) ∧
    (∃ l, body.drop 20 = s.ticketBytes (s.nest n).ticket ++ l) ∧
    (∃ l, body.drop 22 = refusalBytes (s.nest n).lastRefusal ++ l) ∧
    (∃ l, body.drop 24 = ((List.range 8).map (judgedBytes (s.nest n))).flatten ++ l) ∧
    (∃ l, body.drop 32 = ((List.range 8).map (s.marginBytes (s.nest n))).flatten ++ l) ∧
    body.drop 56 = byte (saturatedBits (s.nest n)) := by
  have h14 : body.drop 14 = s.nestTail n := h ▸ drop_past (nestHead_length n s)
  rw [nestTail_eq] at h14
  have h18 := (drop_later h14 4).trans (drop_past (by rw [flatten_map_length (nibblePair_length _)]; rfl))
  have h20 := (drop_later h18 2).trans (drop_past (le_length 2 _))
  have h22 := (drop_later h20 2).trans (drop_past (ticketBytes_length s _))
  have h24 := (drop_later h22 2).trans (drop_past (by simp [refusalBytes]))
  have h32 := (drop_later h24 8).trans (drop_past (by rw [flatten_map_length (judgedBytes_length _)]; rfl))
  have h56 := (drop_later h32 24).trans (drop_past (by rw [flatten_map_length (marginBytes_length s _)]; rfl))
  exact ⟨⟨_, h14⟩, ⟨_, h18⟩, ⟨_, h20⟩, ⟨_, h22⟩, ⟨_, h24⟩, ⟨_, h32⟩, h56⟩

/-- Entry `i` of a run of entries that stands in a body at place `k`. -/
theorem entry_drop {α : Type} {f : α → List Byte} {w : Nat} (hw : ∀ a, (f a).length = w) {l : List α} {rest : List Byte} {k i : Nat}
    {a : α} (h : body.drop k = (l.map f).flatten ++ rest) (ha : l[i]? = some a) : ∃ t, body.drop (k + w * i) = f a ++ t := by
  have hlen := flatten_map_length hw l
  have hi : i < l.length := (List.getElem?_eq_some_iff.mp ha).1
  have hle : w * i ≤ ((l.map f).flatten).length := by
    rw [hlen]
    exact Nat.mul_le_mul_left w hi.le
  rw [drop_later h, List.drop_append_of_le_length hle, flatten_map_drop hw ha, List.append_assoc]
  exact ⟨_, rfl⟩

end

theorem nestTail_length (n : NestId) (s : State) : (s.nestTail n).length = 43 := by
  rw [nestTail_eq]
  simp only [List.length_append, flatten_map_length (nibblePair_length _), flatten_map_length (judgedBytes_length _),
    flatten_map_length (marginBytes_length s _), ticketBytes_length, le_length, byte_length, refusalBytes, List.length_range]

theorem exec_readNest {p : PortId} {n : NestId} {s : State} (hs : s.ready p) :
    exec (.readNest p [selector n] .atOnce) s = .next (State.replied p .readNest [selector n] .ok 0 (s.nestHead n ++ s.nestTail n)
      { s with freeCount := s.freeCount + nestUnstated }) := by
  have hhead : (s.begun p .readNest [selector n] true).nestHead n = s.nestHead n := by cases p <;> cases n <;> rfl
  have htail : (s.begun p .readNest [selector n] true).nestTail n = s.nestTail n := by cases p <;> cases n <;> rfl
  refine exec_taken (r := .readNest) (by decide) (by cases p <;> rfl) hs ?_
  change takeReadNest p (writeBytes (s.port p).params 0 [selector n]) (s.begun p .readNest [selector n] true) = _
  rw [takeReadNest, nestOf_selector]
  simp only [hhead, htail, begun_ok, replied_spendUnstated]

/-- Settles O33: field by field. -/
theorem nestSummaryLayout : Obligations.NestSummaryLayout := by
  intro p n s hs
  obtain ⟨body, hbody⟩ : ∃ body, body = s.nestHead n ++ s.nestTail n := ⟨_, rfl⟩
  have hexec := exec_readNest (n := n) hs
  rw [← hbody] at hexec
  obtain ⟨h0, h1, h2, h5, h6, h8, h9, h10, h11, h12, h13⟩ := summaryHead_fields hbody
  obtain ⟨⟨l14, h14⟩, ⟨l18, h18⟩, ⟨l20, h20⟩, ⟨l22, h22⟩, ⟨l24, h24⟩, ⟨l32, h32⟩, h56⟩ := summary_places hbody
  have hticket := Bool.toNat_le (s.nest n).ticket.isSome
  have hbin : s.summaryBin n < 16 := Nat.mod_lt _ (by decide)
  refine ⟨_, body, hexec, ?_, h0, h1.trans ?_, h2, ?_, fun b hb => ?_, fun ha => ?_, h6, h8, h9, h10.trans ?_, h11, h12.trans ?_,
    h13.trans ?_, fun i hi => ?_, fun hzero code hlow hhigh => ?_, fun v hv => ?_, ?_, ?_, fun i hi => ?_,
    fun i hi => ⟨fun w hw => ?_, fun hw => ?_, ?_⟩⟩
  · rw [hbody, List.length_append, nestHead_length, nestTail_length]
  · simp only [State.holdsChain, decide_eq_true_eq]
    cases (s.nest n).refState <;> cases s.gen.mode <;> rfl
  · rw [h5]
    omega
  · rw [h5, State.summaryBin, hb]
    rfl
  · rw [h5]
    omega
  · simp only [State.holdsChain, decide_eq_true_eq]
    split <;> rfl
  · cases s.engine.under with
    | none => rfl
    | some h =>
      have hle := claimantCode_le (s.half h).claimant
      refine (Nat.mod_eq_of_lt (Nat.lt_of_le_of_lt hle (by decide))).trans ?_
      dsimp only
      cases (s.half h).claimant with
      | nest m => cases m <;> rfl
      | check => rfl
  · cases s.engine.under <;> rfl
  · obtain ⟨t, ht⟩ := entry_drop (nibblePair_length _) h14 (List.getElem?_range hi)
    rw [Nat.one_mul] at ht
    exact u8At_field ht
  · rw [u16At_field h18, show 65536 = 2 ^ 16 from rfl, Nat.testBit_mod_two_pow, Bool.and_eq_true, testBit_detectedBits hzero hlow]
    exact ⟨fun h => h.2, fun h => ⟨by rw [decide_eq_true_eq]; omega, h⟩⟩
  · rw [hv] at h20
    exact u16At_word h20
  · refine (u8At_field (h22.trans (List.append_assoc ..))).trans ?_
    cases (s.nest n).lastRefusal with
    | none => rfl
    | some r => exact Nat.mod_eq_of_lt (statusCode_lt r.status)
  · refine (u8At_field (rest := l22) ((drop_later h22 1).trans (by rfl))).trans ?_
    cases (s.nest n).lastRefusal <;> rfl
  · obtain ⟨t, ht⟩ := entry_drop (judgedBytes_length _) h24 (List.getElem?_range hi)
    rw [Nat.one_mul] at ht
    exact u8At_field ht
  · obtain ⟨t, ht⟩ := entry_drop (marginBytes_length s _) h32 (List.getElem?_range hi)
    rw [ht, List.take_left' (marginBytes_length s _ _), State.marginBytes, hw]
    rfl
  · obtain ⟨t, ht⟩ := entry_drop (marginBytes_length s _) h32 (List.getElem?_range hi)
    rw [State.marginBytes, hw] at ht
    rw [show 34 + 3 * i = 32 + 3 * i + 2 by omega]
    exact u8At_field (n := 0xFF) (rest := t) ((drop_later ht 2).trans (by rfl))
  · obtain ⟨hlt, hbits⟩ := testBit_sum_powers (s.nest n).saturatedAt 8
    rw [u8At_field (rest := []) (h56.trans (List.append_nil _).symm), saturatedBits, Nat.mod_eq_of_lt (b := 256) hlt, hbits, decide_eq_true hi,
      Bool.true_and, saturatedAt_iff]

end Sys2Proof.Machine
end

section
/-! PROOF. The judging of records as a list of readings (R94, R100 to R106). -/

namespace Sys2Proof.Machine
open Sys2Proof

/-! ### One reading (R101) -/

/-- Curve `curve`, curve `k`, reads `value` in a record: nothing, NO_RESPONSE, or a value to judge (R101, R103). -/
structure Reading where
  k      : Nat
  curve  : Curve
  record : PointRecord
  value  : Option (Option Int)

/-- What a reading makes of the judged set of its curve (R100). -/
def Reading.joins (x : Reading) (l : List Nat) : List Nat :=
  match x.value with
  | none => l
  | some _ => joinsJudged x.record.index l

/-- What a reading makes of the worst margin of its curve (R106). -/
def Reading.worsens (x : Reading) (w : Option Worst) : Option Worst :=
  match x.value with
  | some (some m) => some (worstAfter x.curve.condition (marginOf x.curve x.record.freq m) x.record.index
      (marginSaturates x.curve x.record.freq m) w)
  | some none => w
  | none => w

/-- The reason that a reading detects, if any (R101, R105). -/
def Reading.reason (x : Reading) : Option Nat :=
  match x.value with
  | none => none
  | some none => some 13
  | some (some m) => if x.curve.condition.fails (marginOf x.curve x.record.freq m) = true then some x.curve.reason else none

/-- A reason that may be detected joins the reasons (R105). -/
def Nest.detectSome (o : Option Nat) (n : Nest) : Nest :=
  match o with
  | none => n
  | some code => n.detect code

/-- The nest record after a reading (R100, R105, R106). -/
def Nest.hear (n : Nest) (x : Reading) : Nest :=
  { n.detectSome x.reason with judged := n.judged.modify x.k x.joins, worst := n.worst.modify x.k x.worsens }

theorem detect_judged (code : Nat) (n : Nest) (j : List (List Nat)) :
    Nest.detect code { n with judged := j } = { n.detect code with judged := j } := by
  unfold Nest.detect
  dsimp only
  split
  · rfl
  · split <;> rfl

theorem detect_frame (code : Nat) (n : Nest) : n.detect code = { n with
    detected := (n.detect code).detected, failList := (n.detect code).failList, overflow := (n.detect code).overflow } := by
  unfold Nest.detect
  dsimp only
  split
  · rfl
  · split <;> rfl

theorem detectSome_frame (o : Option Nat) (n : Nest) : n.detectSome o = { n with
    detected := (n.detectSome o).detected, failList := (n.detectSome o).failList, overflow := (n.detectSome o).overflow } := by
  cases o with
  | none => rfl
  | some code => exact detect_frame code n

theorem modify_same {α : Type} (l : List α) (k : Nat) {f : α → α} (hf : ∀ a, f a = a) : l.modify k f = l := by
  rw [show f = id from funext hf, List.modify_id]

theorem hear_none (n : Nest) (k : Nat) (u : Curve) (r : PointRecord) : n.hear ⟨k, u, r, none⟩ = n := by
  have hj : n.judged.modify k (Reading.joins ⟨k, u, r, none⟩) = n.judged := modify_same _ _ fun _ => rfl
  have hw : n.worst.modify k (Reading.worsens ⟨k, u, r, none⟩) = n.worst := modify_same _ _ fun _ => rfl
  simp only [Nest.hear, hj, hw]
  rfl

theorem hear_noResponse (n : Nest) (k : Nat) (u : Curve) (r : PointRecord) :
    n.hear ⟨k, u, r, some none⟩ = n.noResponse k r.index := by
  have hw : n.worst.modify k (Reading.worsens ⟨k, u, r, some none⟩) = (n.detect 13).worst := by
    rw [modify_same n.worst k (f := Reading.worsens ⟨k, u, r, some none⟩) fun _ => rfl, detect_frame]
  rw [Nest.noResponse, Nest.addJudged, detect_judged]
  simp only [Nest.hear, hw]
  rfl

theorem hear_value (n : Nest) (k : Nat) (u : Curve) (r : PointRecord) (m : Int) :
    n.hear ⟨k, u, r, some (some m)⟩ = n.judgeValue k u r.index r.freq m := by
  simp only [Nest.judgeValue, Nest.addJudged, Nest.hear, Reading.reason]
  split
  · rw [detect_judged]
    have hw : (n.detect u.reason).worst = n.worst := by rw [detect_frame]
    simp only [hw]
    rfl
  · rfl

/-- A visit of a curve to a record is a reading of what the curve reads in it (R101, R103). -/
theorem visit_eq_hear (isRef : Bool) (r : PointRecord) (n : Nest) (k : Nat) (u : Curve) :
    n.visit isRef r k u = n.hear ⟨k, u, r, u.reads n.refState isRef r⟩ := by
  unfold Nest.visit Curve.reads
  cases happ : u.applies r.freq with
  | false => simp [hear_none]
  | true =>
    simp only [Bool.not_true, Bool.false_eq_true, if_false, Bool.true_eq_false]
    cases hm : u.measure with
    | spl => cases r.spl <;> simp [hear_none, hear_value]
    | rel =>
      by_cases hg : n.refState = .valid
      · cases r.rel <;> simp [hg, hear_none, hear_value]
      · by_cases hno : isRef = true ∧ r.status = .noSignal
        · simp [hg, hno, hear_noResponse]
        · have : (isRef && decide (r.status = .noSignal)) = false := by
            rw [Bool.eq_false_iff]
            simpa using hno
          simp [hg, hno, this, hear_none]
    | thd =>
      by_cases hs : r.status = .noSignal
      · simp [hs, hear_noResponse]
      · cases h : r.thd <;> simp [hs, PointRecord.field, h, hear_none, hear_value]
    | rnb =>
      by_cases hs : r.status = .noSignal
      · simp [hs, hear_noResponse]
      · cases h : r.rnb <;> simp [hs, PointRecord.field, h, hear_none, hear_value]

/-! ### Readings in order -/

/-- The nest record after readings in order. -/
def Nest.hearAll (l : List Reading) (n : Nest) : Nest := l.foldl Nest.hear n

theorem hear_frame (n : Nest) (x : Reading) : n.hear x = { n with
    judged := (n.hear x).judged, worst := (n.hear x).worst, detected := (n.hear x).detected, failList := (n.hear x).failList
    overflow := (n.hear x).overflow } := by
  unfold Nest.hear
  rw [detectSome_frame]

theorem hearAll_frame (l : List Reading) (n : Nest) : n.hearAll l = { n with
    judged := (n.hearAll l).judged, worst := (n.hearAll l).worst, detected := (n.hearAll l).detected
    failList := (n.hearAll l).failList, overflow := (n.hearAll l).overflow } := by
  induction l generalizing n with
  | nil => rfl
  | cons x l ih =>
    have hframe := hear_frame n x
    have hrest := ih (n.hear x)
    change (n.hear x).hearAll l = { n with
      judged := ((n.hear x).hearAll l).judged, worst := ((n.hear x).hearAll l).worst, detected := ((n.hear x).hearAll l).detected
      failList := ((n.hear x).hearAll l).failList, overflow := ((n.hear x).hearAll l).overflow }
    generalize (n.hear x).hearAll l = y at hrest ⊢
    refine hrest.trans ?_
    rw [hframe]

theorem hearAll_refState (l : List Reading) (n : Nest) : (n.hearAll l).refState = n.refState := by rw [hearAll_frame]

theorem hearAll_slots (l : List Reading) (n : Nest) : (n.hearAll l).slots = n.slots := by rw [hearAll_frame]

theorem hearAll_append (l m : List Reading) (n : Nest) : n.hearAll (l ++ m) = (n.hearAll l).hearAll m := List.foldl_append ..

/-- The readings of curve `k` alone change its judged set (R100). -/
theorem hearAll_judged (l : List Reading) (n : Nest) (k : Nat) : (n.hearAll l).judged[k]? =
    (n.judged[k]?).map fun j => (l.filter fun x => x.k = k).foldl (fun j x => x.joins j) j := by
  induction l generalizing n with
  | nil => simp [Nest.hearAll]
  | cons x l ih =>
    change ((n.hear x).hearAll l).judged[k]? = _
    rw [ih, Nest.hear, List.getElem?_modify]
    by_cases hk : x.k = k
    · cases n.judged[k]? <;> simp [hk]
    · cases n.judged[k]? <;> simp [hk]

/-- The readings of curve `k` alone change its worst margin (R106). -/
theorem hearAll_worst (l : List Reading) (n : Nest) (k : Nat) : (n.hearAll l).worst[k]? =
    (n.worst[k]?).map fun w => (l.filter fun x => x.k = k).foldl (fun w x => x.worsens w) w := by
  induction l generalizing n with
  | nil => simp [Nest.hearAll]
  | cons x l ih =>
    change ((n.hear x).hearAll l).worst[k]? = _
    rw [ih, Nest.hear, List.getElem?_modify]
    by_cases hk : x.k = k
    · cases n.worst[k]? <;> simp [hk]
    · cases n.worst[k]? <;> simp [hk]

theorem mem_detect (code d : Nat) (n : Nest) : code ∈ (n.detect d).detected ↔ code ∈ n.detected ∨ code = d := by
  unfold Nest.detect
  split
  next h =>
    constructor
    · exact .inl
    · rintro (h' | rfl)
      · exact h'
      · exact h
  next h => dsimp only; split <;> simp

/-- The reasons detected are those of the readings (R105). -/
theorem hearAll_detected (l : List Reading) (n : Nest) (code : Nat) :
    code ∈ (n.hearAll l).detected ↔ code ∈ n.detected ∨ ∃ x ∈ l, x.reason = some code := by
  induction l generalizing n with
  | nil => simp [Nest.hearAll]
  | cons x l ih =>
    change code ∈ ((n.hear x).hearAll l).detected ↔ _
    have hone : code ∈ (n.hear x).detected ↔ code ∈ n.detected ∨ x.reason = some code := by
      unfold Nest.hear Nest.detectSome
      cases hr : x.reason with
      | none => simp
      | some d => exact (mem_detect code d n).trans (by simp [eq_comm])
    rw [ih, hone, List.exists_mem_cons_iff, or_assoc]

/-! ### The order of the reasons (R105) -/

/-- The first eight reasons stand in the fail list, the others are counted (R105). -/
structure Nest.ReasonsKept (n : Nest) : Prop where
  once     : n.detected.Nodup
  failList : n.failList = n.detected.take 8
  overflow : n.overflow = n.detected.length - 8

theorem detect_reasonsKept {n : Nest} (h : n.ReasonsKept) (code : Nat) :
    (n.detect code).ReasonsKept ∧ n.detected <+: (n.detect code).detected := by
  obtain ⟨honce, hlist, hover⟩ := h
  unfold Nest.detect
  split
  · exact ⟨⟨honce, hlist, hover⟩, List.prefix_refl _⟩
  next hnot =>
    have hnodup : (n.detected ++ [code]).Nodup := by
      rw [List.nodup_append]
      exact ⟨honce, by simp, fun a ha b hb => by
        rintro rfl
        exact hnot (List.mem_singleton.mp hb ▸ ha)⟩
    have hlen : n.failList.length = min 8 n.detected.length := by rw [hlist, List.length_take]
    dsimp only
    split
    next h8 =>
      refine ⟨⟨hnodup, ?_, ?_⟩, List.prefix_append _ _⟩
      · change n.failList ++ [code] = (n.detected ++ [code]).take 8
        rw [hlist, List.take_of_length_le (by omega), List.take_of_length_le (by simp; omega)]
      · change n.overflow = (n.detected ++ [code]).length - 8
        rw [hover, List.length_append, List.length_singleton]
        omega
    next h8 =>
      refine ⟨⟨hnodup, ?_, ?_⟩, List.prefix_append _ _⟩
      · change n.failList = (n.detected ++ [code]).take 8
        rw [hlist, List.take_append_of_le_length (by omega)]
      · change n.overflow + 1 = (n.detected ++ [code]).length - 8
        rw [hover, List.length_append, List.length_singleton]
        omega

theorem hearAll_reasonsKept (l : List Reading) {n : Nest} (h : n.ReasonsKept) :
    (n.hearAll l).ReasonsKept ∧ n.detected <+: (n.hearAll l).detected := by
  induction l generalizing n with
  | nil => exact ⟨h, List.prefix_refl _⟩
  | cons x l ih =>
    have hone : (n.hear x).ReasonsKept ∧ n.detected <+: (n.hear x).detected := by
      unfold Nest.hear Nest.detectSome
      cases x.reason with
      | none => exact ⟨⟨h.once, h.failList, h.overflow⟩, List.prefix_refl _⟩
      | some code =>
        obtain ⟨hk, hp⟩ := detect_reasonsKept h code
        exact ⟨⟨hk.once, hk.failList, hk.overflow⟩, hp⟩
    obtain ⟨hk, hp⟩ := ih hone.1
    exact ⟨hk, hone.2.trans hp⟩

/-! ### The visits as readings (R101, R102) -/

/-- The readings of a visit of every curve to a record (R101). -/
def readingsOf (curves : List Curve) (g : RefState) (isRef : Bool) (r : PointRecord) : List Reading :=
  curves.zipIdx.map fun x => ⟨x.2, x.1, r, x.1.reads g isRef r⟩

theorem visitAll_eq (curves : List Curve) (isRef : Bool) (r : PointRecord) (n : Nest) :
    n.visitAll curves isRef r = n.hearAll (readingsOf curves n.refState isRef r) := by
  unfold Nest.visitAll readingsOf
  obtain ⟨g, hg⟩ : ∃ g, g = n.refState := ⟨_, rfl⟩
  rw [← hg]
  induction curves.zipIdx generalizing n with
  | nil => rfl
  | cons x l ih =>
    rw [List.foldl_cons, visit_eq_hear, ih _ (by rw [hear_frame]; exact hg), ← hg]
    rfl

/-- With a VALID reference a REL curve reads the same in every record (R102). -/
theorem reads_rel {u : Curve} (h : u.measure = .rel) (isRef isRef' : Bool) (r : PointRecord) :
    u.reads .valid isRef r = u.reads .valid isRef' r := by
  simp only [Curve.reads, h, if_true]

theorem visitRel_eq (curves : List Curve) (r : PointRecord) {n : Nest} (hg : n.refState = .valid) :
    n.visitRel curves r = n.hearAll ((readingsOf curves .valid true r).filter fun x => x.curve.measure = .rel) := by
  unfold Nest.visitRel readingsOf
  induction curves.zipIdx generalizing n with
  | nil => rfl
  | cons x l ih =>
    rw [List.foldl_cons, List.map_cons, List.filter_cons]
    by_cases hrel : x.1.measure = .rel
    · simp only [hrel, if_true, decide_true]
      rw [visit_eq_hear, hg, reads_rel hrel false true, ih (by rw [hear_frame]; exact hg)]
      rfl
    · simp only [hrel, if_false, decide_false, Bool.false_eq_true]
      exact ih hg

/-- The readings of the reference visit: every measured record by the REL curves, the reference point's own by all (R102). -/
def referenceReadings (curves : List Curve) (reference : Nat) (slots : List (Option PointRecord)) : List Reading :=
  ((slots.filterMap id).filter (·.measured)).flatMap fun y =>
    (readingsOf curves .valid true y).filter fun x => x.curve.measure = .rel || x.record.index = reference

theorem visitReference_eq (curves : List Curve) (reference : Nat) {n : Nest} (hg : n.refState = .valid) :
    n.visitReference curves reference = n.hearAll (referenceReadings curves reference n.slots) := by
  unfold Nest.visitReference referenceReadings
  obtain ⟨slots, hslots⟩ : ∃ slots, slots = n.slots := ⟨_, rfl⟩
  rw [← hslots]
  clear hslots
  induction slots generalizing n with
  | nil => rfl
  | cons o l ih =>
    rw [List.foldl_cons]
    cases o with
    | none => exact ih hg
    | some y =>
      simp only [List.filterMap_cons, id_eq, List.filter_cons]
      cases hm : y.measured with
      | false => simpa using ih hg
      | true =>
        simp only [Bool.not_true, Bool.false_eq_true, if_false, if_true, List.flatMap_cons, hearAll_append]
        by_cases hy : y.index = reference
        · have hall : ((readingsOf curves .valid true y).filter fun x => x.curve.measure = .rel || x.record.index = reference) =
              readingsOf curves .valid true y := by
            rw [List.filter_eq_self]
            intro x hx
            obtain ⟨z, -, rfl⟩ := List.mem_map.mp hx
            simp [hy]
          rw [if_pos hy, hall, visitAll_eq, hg]
          exact ih (by rw [hearAll_refState]; exact hg)
        · have hrel : ((readingsOf curves .valid true y).filter fun x => x.curve.measure = .rel || x.record.index = reference) =
              (readingsOf curves .valid true y).filter fun x => x.curve.measure = .rel := by
            refine List.filter_congr fun x hx => ?_
            obtain ⟨z, -, rfl⟩ := List.mem_map.mp hx
            simp [hy]
          rw [if_neg hy, hrel, visitRel_eq _ _ hg]
          exact ih (by rw [hearAll_refState]; exact hg)

end Sys2Proof.Machine
end

section
/-! PROOF. The judgement of a record (R94, R100 to R106). -/

namespace Sys2Proof.Machine
open Sys2Proof

/-! ### Taking a record as readings (R94, R101 to R104) -/

/-- The record with its REL against the reference, where that is VALID (R94). -/
def Nest.completed (c : PlanContent) (r : PointRecord) (n : Nest) : PointRecord :=
  match n.referenceSpl c.sweep.reference with
  | some ref => r.fillRel ref
  | none => r

section
variable {c : PlanContent} {n : Nest} {r : PointRecord}

theorem measured_iff : r.measured = true ↔ r.status = .valid ∨ r.status = .noSignal := by simp [PointRecord.measured]

theorem completed_frame : (n.completed c r).index = r.index ∧ (n.completed c r).freq = r.freq ∧ (n.completed c r).status = r.status := by
  unfold Nest.completed
  split <;> exact ⟨rfl, rfl, rfl⟩

theorem take_unmeasured (h : r.measured = false) : n.take c r = n.takeUnmeasured c r := by
  rw [Nest.take, h]
  rfl

theorem take_plain (h : r.measured = true) (href : c.sweep.reference ≠ some r.index) : n.take c r =
    (n.store (n.completed c r)).hearAll (readingsOf c.limits n.refState false (n.completed c r)) := by
  rw [Nest.take, h, if_neg href]
  exact visitAll_eq c.limits false (n.completed c r) (n.store (n.completed c r))

/-- The reference point's record with no SPL to refer to: the reference is NOT_VALID (R103). -/
theorem take_notValid (h : r.measured = true) (href : c.sweep.reference = some r.index) (hno : r.status ≠ .valid ∨ r.spl = none) :
    n.take c r = ({ n.store r with refState := .notValid } : Nest).hearAll (readingsOf c.limits .notValid true r) := by
  rw [Nest.take, h, if_pos href, ← visitAll_eq c.limits true r { n.store r with refState := .notValid }]
  have hsplit : ∀ v, r.status = .valid → r.spl = some v → False := fun v hv hs => by
    rcases hno with h' | h'
    · exact h' hv
    · rw [h'] at hs
      cases hs
  cases hst : r.status <;> cases hspl : r.spl <;> first | rfl | exact (hsplit _ hst hspl).elim

/-- The nest record as the VALID reference record fills it, before the visit (R94). -/
def Nest.referenced (v : Int) (r : PointRecord) (n : Nest) : Nest :=
  { n with slots := fillSlots v (n.slots.set r.index (some (r.fillRel v))), refState := .valid }

theorem take_reference {v : Int} (href : c.sweep.reference = some r.index) (hst : r.status = .valid) (hspl : r.spl = some v) :
    n.take c r = (n.referenced v r).hearAll (referenceReadings c.limits r.index (n.referenced v r).slots) := by
  have hm : r.measured = true := measured_iff.mpr (.inl hst)
  rw [← visitReference_eq c.limits r.index (n := n.referenced v r) rfl, Nest.take, hm, if_pos href, hst, hspl]
  rfl

/-- Whatever its status, the reasons that a record brings are those of readings (R105). -/
theorem take_hears : ∃ (m : Nest) (l : List Reading), n.take c r = m.hearAll l ∧ m.detected = n.detected ∧ m.failList = n.failList ∧
    m.overflow = n.overflow := by
  cases hm : r.measured with
  | false =>
    refine ⟨n.takeUnmeasured c r, [], take_unmeasured hm, ?_⟩
    unfold Nest.takeUnmeasured Nest.store
    dsimp only
    split <;> exact ⟨rfl, rfl, rfl⟩
  | true =>
    by_cases href : c.sweep.reference = some r.index
    · by_cases hval : r.status = .valid ∧ ∃ v, r.spl = some v
      · obtain ⟨hst, v, hspl⟩ := hval
        exact ⟨_, _, take_reference href hst hspl, rfl, rfl, rfl⟩
      · refine ⟨_, _, take_notValid hm href ?_, rfl, rfl, rfl⟩
        by_cases hst : r.status = .valid
        · exact .inr (Option.eq_none_iff_forall_ne_some.mpr fun v hv => hval ⟨hst, v, hv⟩)
        · exact .inl hst
    · exact ⟨_, _, take_plain hm href, rfl, rfl, rfl⟩

end

/-! ### The readings of one curve -/

theorem zipIdx_filter {α : Type} {l : List α} {u : α} {i k : Nat} (h : l[k]? = some u) :
    (l.zipIdx i).filter (fun x => x.2 = i + k) = [(u, i + k)] := by
  induction l generalizing i k with
  | nil => simp at h
  | cons a l ih =>
    rw [List.zipIdx_cons, List.filter_cons]
    cases k with
    | zero =>
      obtain rfl : a = u := by simpa using h
      have hrest : (l.zipIdx (i + 1)).filter (fun x => x.2 = i) = [] := by
        rw [List.filter_eq_nil_iff]
        intro x hx
        have := List.le_snd_of_mem_zipIdx hx
        simp
        omega
      simp [hrest]
    | succ k =>
      have hne : ¬i = i + (k + 1) := by omega
      have hadd : i + (k + 1) = i + 1 + k := by omega
      rw [if_neg (by simp), hadd]
      exact ih (by simpa using h)

theorem readingsOf_filter {curves : List Curve} {k : Nat} {u : Curve} (h : curves[k]? = some u) (g : RefState) (isRef : Bool)
    (r : PointRecord) : (readingsOf curves g isRef r).filter (fun x => x.k = k) = [⟨k, u, r, u.reads g isRef r⟩] := by
  have hz := zipIdx_filter (i := 0) h
  rw [Nat.zero_add] at hz
  rw [readingsOf, List.filter_map]
  change ((curves.zipIdx.filter fun x => x.2 = k).map _) = _
  rw [hz]
  rfl

theorem mem_readingsOf {curves : List Curve} {g : RefState} {isRef : Bool} {r : PointRecord} {x : Reading} :
    x ∈ readingsOf curves g isRef r ↔ ∃ k u, curves[k]? = some u ∧ x = ⟨k, u, r, u.reads g isRef r⟩ := by
  rw [readingsOf, List.mem_map]
  constructor
  · rintro ⟨⟨u, k⟩, hz, rfl⟩
    exact ⟨k, u, List.mem_zipIdx_iff_getElem?.mp hz, rfl⟩
  · rintro ⟨k, u, hk, rfl⟩
    exact ⟨(u, k), List.mem_zipIdx_iff_getElem?.mpr hk, rfl⟩

theorem reason_iff (x : Reading) (code : Nat) : x.reason = some code ↔ (x.value = some none ∧ code = 13) ∨
    ∃ m, x.value = some (some m) ∧ x.curve.condition.fails (marginOf x.curve x.record.freq m) = true ∧ code = x.curve.reason := by
  unfold Reading.reason
  cases x.value with
  | none => simp
  | some o =>
    cases o with
    | none =>
      constructor
      · exact fun h => .inl ⟨rfl, (Option.some.inj h).symm⟩
      · rintro (⟨-, rfl⟩ | ⟨m, h, -⟩)
        · rfl
        · cases h
    | some m =>
      by_cases hf : x.curve.condition.fails (marginOf x.curve x.record.freq m) = true
      · dsimp only
        rw [if_pos hf]
        constructor
        · exact fun h => .inr ⟨m, rfl, hf, (Option.some.inj h).symm⟩
        · rintro (⟨h, -⟩ | ⟨_, _, _, rfl⟩)
          · cases h
          · rfl
      · dsimp only
        rw [if_neg hf]
        constructor
        · exact fun h => (by cases h)
        · rintro (⟨h, -⟩ | ⟨m', h, hf', -⟩)
          · cases h
          · cases h
            exact absurd hf' hf

/-- The reasons that the readings of one record detect (R105). -/
theorem readingsOf_reason {curves : List Curve} {g : RefState} {isRef : Bool} {r : PointRecord} {code : Nat} :
    (∃ x ∈ readingsOf curves g isRef r, x.reason = some code) ↔ ∃ u ∈ curves,
      (u.reads g isRef r = some none ∧ code = 13) ∨
      (∃ m, u.reads g isRef r = some (some m) ∧ u.condition.fails (marginOf u r.freq m) = true ∧ code = u.reason) := by
  constructor
  · rintro ⟨x, hx, hr⟩
    obtain ⟨k, u, hk, rfl⟩ := mem_readingsOf.mp hx
    exact ⟨u, List.mem_of_getElem? hk, (reason_iff _ _).mp hr⟩
  · rintro ⟨u, hu, h⟩
    obtain ⟨k, hk⟩ := List.getElem?_of_mem hu
    exact ⟨_, mem_readingsOf.mpr ⟨k, u, hk, rfl⟩, (reason_iff _ _).mpr h⟩

/-- What one record brings to curve `k` (R100, R105, R106). -/
theorem hearRecord_curve {curves : List Curve} {k : Nat} {u : Curve} (h : curves[k]? = some u) (g : RefState) (isRef : Bool)
    (y : PointRecord) (n : Nest) (hk : k < n.worst.length) :
    match u.reads g isRef y with
    | none => (n.hearAll (readingsOf curves g isRef y)).judged[k]? = n.judged[k]? ∧
        (n.hearAll (readingsOf curves g isRef y)).worst[k]? = n.worst[k]?
    | some none => (n.hearAll (readingsOf curves g isRef y)).judged[k]? = (n.judged[k]?).map (joinsJudged y.index) ∧
        (n.hearAll (readingsOf curves g isRef y)).worst[k]? = n.worst[k]? ∧
        13 ∈ (n.hearAll (readingsOf curves g isRef y)).detected
    | some (some m) => (n.hearAll (readingsOf curves g isRef y)).judged[k]? = (n.judged[k]?).map (joinsJudged y.index) ∧
        (n.hearAll (readingsOf curves g isRef y)).worst[k]? = some (some (worstAfter u.condition (marginOf u y.freq m) y.index
          (marginSaturates u y.freq m) (n.worst[k]?).join)) ∧
        (u.condition.fails (marginOf u y.freq m) = true → u.reason ∈ (n.hearAll (readingsOf curves g isRef y)).detected) := by
  have hj := hearAll_judged (readingsOf curves g isRef y) n k
  have hw := hearAll_worst (readingsOf curves g isRef y) n k
  have hd (code : Nat) := (hearAll_detected (readingsOf curves g isRef y) n code).trans (or_congr_right readingsOf_reason)
  rw [readingsOf_filter h] at hj hw
  have hu := List.mem_of_getElem? h
  obtain ⟨w, hwk⟩ : ∃ w, n.worst[k]? = some w := ⟨_, List.getElem?_eq_getElem hk⟩
  split
  next hr =>
    rw [hj, hw]
    simp [Reading.joins, Reading.worsens, hr]
  next hr =>
    refine ⟨?_, ?_, (hd 13).mpr (.inr ⟨u, hu, .inl ⟨hr, rfl⟩⟩)⟩
    · rw [hj]
      simp [Reading.joins, hr]
    · rw [hw]
      simp [Reading.worsens, hr]
  next m hr =>
    refine ⟨?_, ?_, fun hf => (hd u.reason).mpr (.inr ⟨u, hu, .inr ⟨m, hr, hf, rfl⟩⟩)⟩
    · rw [hj]
      simp [Reading.joins, hr]
    · rw [hw, hwk]
      simp [Reading.worsens, hr]

/-! ### The readings of the reference visit (R102) -/

theorem flatMap_ite {α β : Type} (l : List α) (p : α → Bool) (f : α → β) :
    (l.flatMap fun a => if p a = true then [f a] else []) = (l.filter p).map f := by
  induction l with
  | nil => rfl
  | cons a l ih =>
    rw [List.flatMap_cons, ih, List.filter_cons]
    cases p a <;> rfl

/-- The reference visit brings to curve `k` the records that it visits, in index order (R102). -/
theorem referenceReadings_filter {curves : List Curve} {k : Nat} {u : Curve} (h : curves[k]? = some u) (reference : Nat) (x : Nest) :
    (referenceReadings curves reference x.slots).filter (fun y => y.k = k) =
      (x.visited u reference).map fun y => ⟨k, u, y, u.reads .valid true y⟩ := by
  have hone (y : PointRecord) : ((readingsOf curves .valid true y).filter
      fun x => x.curve.measure = .rel || x.record.index = reference).filter (fun x => x.k = k) =
      if (decide (u.measure = .rel) || decide (y.index = reference)) = true then [⟨k, u, y, u.reads .valid true y⟩] else [] := by
    rw [List.filter_filter]
    have hcomm : ((readingsOf curves .valid true y).filter fun x => decide (x.k = k) &&
        (decide (x.curve.measure = .rel) || decide (x.record.index = reference))) =
        ((readingsOf curves .valid true y).filter fun x => x.k = k).filter
          fun x => x.curve.measure = .rel || x.record.index = reference := by
      rw [List.filter_filter]
      exact List.filter_congr fun x _ => Bool.and_comm _ _
    rw [hcomm, readingsOf_filter h, List.filter_cons]
    rfl
  rw [referenceReadings, List.filter_flatMap]
  simp only [hone]
  rw [flatMap_ite, List.filter_filter, Nest.visited]
  refine congrArg (List.map _) (List.filter_congr fun y _ => ?_)
  rw [Bool.and_comm]
  rfl

theorem referenceReadings_reason {curves : List Curve} {reference : Nat} {x : Nest} {code : Nat} :
    (∃ y ∈ referenceReadings curves reference x.slots, y.reason = some code) ↔
      ∃ u ∈ curves, ∃ y ∈ x.visited u reference, (u.reads .valid true y = some none ∧ code = 13) ∨
        (∃ m, u.reads .valid true y = some (some m) ∧ u.condition.fails (marginOf u y.freq m) = true ∧ code = u.reason) := by
  constructor
  · rintro ⟨z, hz, hr⟩
    rw [referenceReadings, List.mem_flatMap] at hz
    obtain ⟨y, hy, hz⟩ := hz
    obtain ⟨hz, hc⟩ := List.mem_filter.mp hz
    obtain ⟨k, u, hk, rfl⟩ := mem_readingsOf.mp hz
    obtain ⟨hy, hm⟩ := List.mem_filter.mp hy
    exact ⟨u, List.mem_of_getElem? hk, y, List.mem_filter.mpr ⟨hy, Bool.and_eq_true_iff.mpr ⟨hm, hc⟩⟩, (reason_iff _ _).mp hr⟩
  · rintro ⟨u, hu, y, hy, h⟩
    obtain ⟨k, hk⟩ := List.getElem?_of_mem hu
    obtain ⟨hy, hc⟩ := List.mem_filter.mp hy
    obtain ⟨hm, hc⟩ := Bool.and_eq_true_iff.mp hc
    refine ⟨⟨k, u, y, u.reads .valid true y⟩, List.mem_flatMap.mpr ⟨y, List.mem_filter.mpr ⟨hy, hm⟩, ?_⟩, (reason_iff _ _).mpr h⟩
    exact List.mem_filter.mpr ⟨mem_readingsOf.mpr ⟨k, u, hk, rfl⟩, hc⟩

theorem foldl_joins (g : RefState) (isRef : Bool) (k : Nat) (u : Curve) (l : List PointRecord) (j : List Nat) :
    (l.map fun y => (⟨k, u, y, u.reads g isRef y⟩ : Reading)).foldl (fun j x => x.joins j) j =
      (l.filter fun y => (u.reads g isRef y).isSome).foldl (fun l y => joinsJudged y.index l) j := by
  induction l generalizing j with
  | nil => rfl
  | cons y l ih =>
    rw [List.map_cons, List.foldl_cons, ih, List.filter_cons]
    cases u.reads g isRef y <;> simp [Reading.joins]

theorem mem_foldl_joinsJudged {l : List PointRecord} {j : List Nat} {i : Nat} (h : i ∈ j ∨ ∃ y ∈ l, y.index = i) :
    i ∈ l.foldl (fun l y => joinsJudged y.index l) j := by
  induction l generalizing j with
  | nil => simpa using h
  | cons y l ih =>
    refine ih ?_
    have hjoin : y.index ∈ joinsJudged y.index j ∧ ∀ a ∈ j, a ∈ joinsJudged y.index j := by
      unfold joinsJudged
      split
      next hin => exact ⟨hin, fun a ha => ha⟩
      next => exact ⟨by simp, fun a ha => by simp [ha]⟩
    rcases h with hj | ⟨z, hz, rfl⟩
    · exact .inl (hjoin.2 i hj)
    · rcases List.mem_cons.mp hz with rfl | hz
      · exact .inl hjoin.1
      · exact .inr ⟨z, hz, rfl⟩

end Sys2Proof.Machine
end

section
/-! PROOF. The clauses on a record that is taken (R94, R101 to R106). -/

namespace Sys2Proof.Machine
open Sys2Proof

theorem clampLevel_eq (v : Int) : clampLevel v = max (-15000) (min 15000 v) := by
  unfold clampLevel clampTo
  split
  · omega
  · split <;> omega

section
variable {c : PlanContent} {n : Nest} {r : PointRecord}

/-- What a record that is no VALID reference brings to each curve, and which reasons it detects (R101, R103). -/
theorem judged_by {base x : Nest} {y : PointRecord} {g : RefState} {isRef : Bool} (hx : x = base.hearAll (readingsOf c.limits g isRef y))
    (hg : base.refState = g) (hi : y.index = r.index) (hf : y.freq = r.freq) (hj : base.judged = n.judged) (hw : base.worst = n.worst)
    (hd : base.detected = n.detected) :
    x.refState = g ∧
    (∀ k u, c.limits[k]? = some u → k < n.judged.length → k < n.worst.length →
      match u.reads g isRef y with
      | none => x.judged[k]? = n.judged[k]? ∧ x.worst[k]? = n.worst[k]?
      | some none =>
        x.judged[k]? = (n.judged[k]?).map (joinsJudged r.index) ∧ x.worst[k]? = n.worst[k]? ∧ 13 ∈ x.detected
      | some (some m) =>
        x.judged[k]? = (n.judged[k]?).map (joinsJudged r.index) ∧
        x.worst[k]? = some (some (worstAfter u.condition (marginOf u r.freq m) r.index (marginSaturates u r.freq m)
          (n.worst[k]?).join)) ∧
        (u.condition.fails (marginOf u r.freq m) = true → u.reason ∈ x.detected)) ∧
    (∀ code, code ∈ x.detected ↔ code ∈ n.detected ∨ ∃ u ∈ c.limits,
      (u.reads g isRef y = some none ∧ code = 13) ∨
      (∃ m, u.reads g isRef y = some (some m) ∧ u.condition.fails (marginOf u r.freq m) = true ∧ code = u.reason)) := by
  refine ⟨by rw [hx, hearAll_refState, hg], fun k u hk _ hkw => ?_, fun code => ?_⟩
  · have h := hearRecord_curve hk g isRef y base (hw ▸ hkw)
    rw [← hx, hj, hw, hi, hf] at h
    exact h
  · rw [hx, hearAll_detected, readingsOf_reason, hd, hf]

theorem stored_slot {x : Nest} {y z : PointRecord} {i : Nat} (hslots : x.slots = n.slots.set i (some z))
    (h : x.slots[i]? = some (some y)) : y = z := by
  rw [hslots, List.getElem?_set] at h
  split at h
  next =>
    split at h
    · cases h; rfl
    · cases h
  next hne => exact absurd rfl hne

/-- A measured record that is no VALID reference record (R101, R103). -/
theorem record_judged {x : Nest} {y : PointRecord} {isRef : Bool} {g : RefState} (hx : x = n.take c r)
    (hm : r.status = .valid ∨ r.status = .noSignal) (hy : x.slots[r.index]? = some (some y))
    (hcase : (c.sweep.reference ≠ some r.index ∧ isRef = false ∧ g = n.refState) ∨
      (c.sweep.reference = some r.index ∧ r.status = .noSignal ∧ isRef = true ∧ g = .notValid)) :
    ∃ base : Nest, x = base.hearAll (readingsOf c.limits g isRef y) ∧ base.refState = g ∧ y.index = r.index ∧ y.freq = r.freq ∧
      base.judged = n.judged ∧ base.worst = n.worst ∧ base.detected = n.detected := by
  obtain ⟨hi, hf, -⟩ := completed_frame (c := c) (n := n) (r := r)
  rcases hcase with ⟨href, rfl, rfl⟩ | ⟨href, hno, rfl, rfl⟩
  · have htake := hx.trans (take_plain (measured_iff.mpr hm) href)
    obtain rfl := stored_slot (n := n) (by rw [htake, hearAll_slots, ← hi]; rfl) hy
    exact ⟨_, htake, rfl, hi, hf, rfl, rfl, rfl⟩
  · have htake := hx.trans (take_notValid (measured_iff.mpr hm) href (.inl (by rw [hno]; decide)))
    obtain rfl := stored_slot (n := n) (by rw [htake, hearAll_slots]; rfl) hy
    exact ⟨_, htake, rfl, rfl, rfl, rfl, rfl, rfl⟩

/-- The reasons keep their order, and the overflow its count (R105). -/
theorem take_reasonsKept (h : n.ReasonsKept) : (n.take c r).ReasonsKept ∧ n.detected <+: (n.take c r).detected := by
  obtain ⟨m, l, htake, hd, hl, ho⟩ := take_hears (c := c) (n := n) (r := r)
  have hm : m.ReasonsKept := ⟨hd ▸ h.once, by rw [hl, hd]; exact h.failList, by rw [ho, hd]; exact h.overflow⟩
  obtain ⟨hk, hp⟩ := hearAll_reasonsKept l hm
  rw [htake]
  exact ⟨hk, hd ▸ hp⟩

/-- A NOISY, OVERLOAD or SKIPPED record (R103, R104). -/
theorem take_unmeasured_eq (h : r.status = .noisy ∨ r.status = .overload ∨ r.status = .skipped) : n.take c r = { n with
    slots := n.slots.set r.index (some r)
    causeOverload := n.causeOverload || decide (r.status = .overload)
    causeNoisy := n.causeNoisy || decide (r.status = .noisy ∨ (r.status = .overload ∧
      c.sweep.reference = some r.index ∧ ∃ u ∈ c.limits, u.measure = .rel))
    refState := if c.sweep.reference = some r.index then .notValid else n.refState } := by
  have hany : (c.limits.any fun k => decide (k.measure = .rel)) = decide (∃ u ∈ c.limits, u.measure = .rel) := by
    rw [Bool.eq_iff_iff]
    simp
  have hm : r.measured = false := by rcases h with h | h | h <;> simp [PointRecord.measured, h]
  rw [take_unmeasured hm, Nest.takeUnmeasured, hany]
  by_cases href : c.sweep.reference = some r.index
  · rcases h with h | h | h <;> by_cases hrel : ∃ u ∈ c.limits, u.measure = .rel <;> simp [h, href, hrel, Nest.store]
  · rcases h with h | h | h <;> simp [h, href, Nest.store]

/-! ### The reference record (R94, R102) -/

theorem fillRel_reference {v : Int} (h : r.spl = some v) : r.fillRel v = { r with rel := some 0 } := by
  rw [PointRecord.fillRel, h, Option.map_some, Int.sub_self]
  rfl

theorem fillSlots_eq (v : Int) (slots : List (Option PointRecord)) : fillSlots v slots = slots.map fun o => o.map fun y =>
    if (y.status = .valid ∨ y.status = .noSignal) ∧ y.rel = none then
      { y with rel := y.spl.map fun w => max (-15000) (min 15000 (w - v)) }
    else y := by
  unfold fillSlots
  refine List.map_congr_left fun o _ => ?_
  refine congrArg (fun f => Option.map f o) (funext fun y => ?_)
  by_cases hm : y.status = .valid ∨ y.status = .noSignal
  · cases hr : y.rel <;> simp [measured_iff.mpr hm, hm, PointRecord.fillRel, clampLevel_eq]
  · have hno : y.measured = false := Bool.eq_false_iff.mpr fun h => hm (measured_iff.mp h)
    simp [hno, hm]

/-- What the visit of the VALID reference record brings to each curve, and the reasons it detects (R102). -/
theorem reference_judged {v : Int} {x : Nest} (href : c.sweep.reference = some r.index) (hst : r.status = .valid) (hspl : r.spl = some v)
    (hx : x = n.take c r) :
    (∀ (k : Nat) (u : Curve), c.limits[k]? = some u →
      x.judged[k]? = (n.judged[k]?).map (fun (l : List Nat) =>
        ((x.visited u r.index).filter fun y => (u.reads .valid true y).isSome).foldl (fun l y => joinsJudged y.index l) l) ∧
      x.worst[k]? = (n.worst[k]?).map (fun (w : Option Worst) => (x.visited u r.index).foldl (fun (w : Option Worst) y =>
        match u.reads .valid true y with
        | some (some m) =>
          some (worstAfter u.condition (marginOf u y.freq m) y.index (marginSaturates u y.freq m) w)
        | some none => w
        | none => w) w)) ∧
    (∀ code, code ∈ x.detected ↔ code ∈ n.detected ∨ ∃ u ∈ c.limits, ∃ y ∈ x.visited u r.index,
      (u.reads .valid true y = some none ∧ code = 13) ∨
      (∃ m, u.reads .valid true y = some (some m) ∧ u.condition.fails (marginOf u y.freq m) = true ∧ code = u.reason)) := by
  have htake := hx.trans (take_reference href hst hspl)
  have hslots : x.slots = (n.referenced v r).slots := by rw [htake, hearAll_slots]
  rw [← hslots] at htake
  refine ⟨fun k u hk => ⟨?_, ?_⟩, fun code => ?_⟩
  · have hj := hearAll_judged (referenceReadings c.limits r.index x.slots) (n.referenced v r) k
    rw [← htake, referenceReadings_filter hk] at hj
    simp only [foldl_joins] at hj
    exact hj
  · have hw := hearAll_worst (referenceReadings c.limits r.index x.slots) (n.referenced v r) k
    rw [← htake, referenceReadings_filter hk] at hw
    simp only [List.foldl_map] at hw
    exact hw
  · have hd := hearAll_detected (referenceReadings c.limits r.index x.slots) (n.referenced v r) code
    rw [← htake] at hd
    exact hd.trans (or_congr_right referenceReadings_reason)

/-- The reference point's own record is visited (R102). -/
theorem reference_visited {v : Int} (href : c.sweep.reference = some r.index) (hst : r.status = .valid) (hspl : r.spl = some v)
    (hlen : r.index < n.slots.length) (u : Curve) : { r with rel := some 0 } ∈ (n.take c r).visited u r.index := by
  have hslots : (n.take c r).slots = (n.referenced v r).slots := by rw [take_reference href hst hspl, hearAll_slots]
  refine List.mem_filter.mpr ⟨?_, by simp [hst]⟩
  rw [hslots]
  refine List.mem_filterMap.mpr ⟨some { r with rel := some 0 }, ?_, rfl⟩
  refine List.mem_map.mpr ⟨some (r.fillRel v), ?_, ?_⟩
  · exact List.mem_iff_getElem?.mpr ⟨r.index, List.getElem?_set_self hlen⟩
  · rw [fillRel_reference hspl]
    simp

/-- The slots after a later record, with the reference VALID (R94). -/
theorem take_slots_later {i : Nat} {q : PointRecord} {v : Int} (hm : r.status = .valid ∨ r.status = .noSignal)
    (href : c.sweep.reference = some i) (hne : i ≠ r.index) (hq : n.slots[i]? = some (some q)) (hst : q.status = .valid)
    (hspl : q.spl = some v) : (n.take c r).slots = n.slots.set r.index
      (some { r with rel := r.spl.map fun w => max (-15000) (min 15000 (w - v)) }) := by
  have hspl' : n.referenceSpl c.sweep.reference = some v := by
    simp [Nest.referenceSpl, Nest.slot, href, hq, hst, hspl]
  have hcomp : n.completed c r = r.fillRel v := by rw [Nest.completed, hspl']
  rw [take_plain (measured_iff.mpr hm) (by rw [href]; simpa using hne), hearAll_slots, hcomp]
  simp only [Nest.store, PointRecord.fillRel, clampLevel_eq]

theorem mem_visited_rel {x : Nest} {u : Curve} {y : PointRecord} {reference : Nat} (hu : u.measure = .rel) (hy : some y ∈ x.slots)
    (hm : y.status = .valid ∨ y.status = .noSignal) : y ∈ x.visited u reference :=
  List.mem_filter.mpr ⟨List.mem_filterMap.mpr ⟨some y, hy, rfl⟩, by simpa [hu] using hm⟩

theorem reads_valid_rel {u : Curve} {y : PointRecord} {m : Int} (hu : u.measure = .rel) (happ : u.applies y.freq = true)
    (hrel : y.rel = some m) : u.reads .valid true y = some (some m) := by
  simp [Curve.reads, happ, hu, hrel]

end

end Sys2Proof.Machine
end

section
/-! PROOF. ANALYSIS_COMPLETION step by step (R58, R59, R79). -/

namespace Sys2Proof.Machine
open Sys2Proof

/-! ### The half is freed (R79) -/

/-- The completion of the window in half `h` before its result is handed over: the outputs are fixed, the half is free (R79). -/
def State.analysed (h : HalfId) (s : State) : State :=
  State.freeOne h { s with engine := s.engine.finished (analyse (s.half h)) (s.half h).length }

theorem exec_completion {h : HalfId} {s : State} (hs : s.held = false) (hu : s.engine.under = some h) : exec .analysisCompletion s =
    .next ((s.analysed h).handOver (s.half h) (analyse (s.half h))).beginAnalysis := by
  change Host.Outcome.next _ = _
  rw [hs]
  simp only [hu, Bool.false_eq_true, if_false]
  rfl

theorem analysed_half (h g : HalfId) (s : State) : (s.analysed h).half g = if g = h then { s.half h with state := .free } else s.half g :=
  freeOne_half h g _

theorem analysed_engine (h : HalfId) (s : State) :
    (s.analysed h).engine.under = none ∧ (s.analysed h).engine.queue = s.engine.queue.filter (· ≠ h) := by
  cases h <;> exact ⟨rfl, rfl⟩

theorem analysed_rest (h : HalfId) (s : State) : s.analysed h = { s with
    engine := (s.analysed h).engine
    capture := { s.capture with half0 := (s.analysed h).capture.half0, half1 := (s.analysed h).capture.half1 } } := by
  cases h <;> rfl

theorem analysed_nest (h : HalfId) (n : NestId) (s : State) : (s.analysed h).nest n = s.nest n := by cases h <;> cases n <;> rfl

/-- With no other window waiting the engine stays IDLE (R78). -/
theorem beginAnalysis_empty {s : State} (h : s.engine.queue = []) : s.beginAnalysis = s := by
  rw [State.beginAnalysis, h]
  cases s.engine.under <;> rfl

/-! ### The record is taken (R25, R58, R79) -/

theorem recordOf_measured (m : Int) (x : Half) (a : Analysed) : (recordOf m x a).status = .valid ∨ (recordOf m x a).status = .noSignal := by
  unfold recordOf
  dsimp only
  split
  · exact .inr rfl
  · exact .inl rfl

theorem take_grows (c : PlanContent) (m : Int) (x : Half) (a : Analysed) (n : Nest) : n.Grows (n.take c (recordOf m x a)) :=
  Nest.Grows.take c n (by rcases recordOf_measured m x a with h | h <;> rw [h] <;> decide)

section
variable {n : NestId} {c : PlanContent} {s : State}

/-- A record offered under the current tag is taken; a first reason under stop-on-fail stops the sweep (R25, R58). -/
theorem offerRecord_taken {r : PointRecord} (hplan : s.plan = some c) (hstate : (s.nest n).state = .measuring ∨ (s.nest n).state = .analysing) :
    s.offerRecord n (s.nest n).tag r =
      if c.sweep.stopOnFail = true ∧ (s.nest n).failList = [] ∧ ((s.nest n).take c r).failList ≠ [] then
        (s.modNest n (Nest.take c r)).stopSweep n c
      else s.modNest n (Nest.take c r) := by
  simp only [State.offerRecord, hplan, hstate, and_true, if_true, State.modNest_nest]

/-- The hand-over of a nest's result (R79). -/
theorem handOver_nest {x : Half} {a : Analysed} (howner : x.claimant = .nest n) (htag : x.tag = (s.nest n).tag)
    (hstate : (s.nest n).state = .measuring ∨ (s.nest n).state = .analysing) (hplan : s.plan = some c) : s.handOver x a =
      if ((s.offerRecord n (s.nest n).tag (recordOf c.sweep.minResponse x a)).nest n).state = .analysing ∧
          (s.offerRecord n (s.nest n).tag (recordOf c.sweep.minResponse x a)).outstanding n = 0 then
        ((s.offerRecord n (s.nest n).tag (recordOf c.sweep.minResponse x a)).makeVerdict n).settleActivation
      else s.offerRecord n (s.nest n).tag (recordOf c.sweep.minResponse x a) := by
  have htakes : s.takesResult x = true := by
    simp only [State.takesResult, howner, State.tagOf, htag, decide_true, Bool.true_and]
    simpa using hstate
  have hmin : s.minResponse = c.sweep.minResponse := by rw [State.minResponse, hplan]
  simp only [State.handOver, htakes, if_true, howner, htag, hmin]

end

/-! ### The SKIPPED records (R59) -/

theorem foldl_take_skipped_eq (c : PlanContent) {l : List PointRecord} (hl : ∀ r ∈ l, r.status = .skipped) (x : Nest) :
    l.foldl (fun x r => x.take c r) x = { x with
      slots := l.foldl (fun z r => z.set r.index (some r)) x.slots
      refState := if ∃ r ∈ l, c.sweep.reference = some r.index then .notValid else x.refState } := by
  induction l generalizing x with
  | nil => simp
  | cons r l ih =>
    have hr : r.status = .skipped := hl r (by simp)
    rw [List.foldl_cons, ih fun y hy => hl y (by simp [hy]), take_unmeasured_eq (.inr (.inr hr)), List.foldl_cons]
    by_cases hhead : c.sweep.reference = some r.index <;> simp [hr, hhead]

theorem foldl_set_other {l : List PointRecord} {i : Nat} (h : ∀ r ∈ l, r.index ≠ i) (z : List (Option PointRecord)) :
    (l.foldl (fun z r => z.set r.index (some r)) z)[i]? = z[i]? := by
  induction l generalizing z with
  | nil => rfl
  | cons r l ih =>
    rw [List.foldl_cons, ih fun y hy => h y (by simp [hy]), List.getElem?_set_ne (h r (by simp))]

theorem foldl_set_mem {l : List PointRecord} {r : PointRecord} (hr : r ∈ l) (h : ∀ y ∈ l, y.index = r.index → y = r)
    {z : List (Option PointRecord)} (hlen : r.index < z.length) :
    (l.foldl (fun z r => z.set r.index (some r)) z)[r.index]? = some (some r) := by
  induction l generalizing z with
  | nil => cases hr
  | cons y l ih =>
    rw [List.foldl_cons]
    by_cases hl : r ∈ l
    · exact ih hl (fun w hw => h w (by simp [hw])) (by rw [List.length_set]; exact hlen)
    · obtain rfl : r = y := by simpa [hl] using hr
      rw [foldl_set_other (fun w hw hi => hl (h w (List.mem_cons_of_mem _ hw) hi ▸ hw)), List.getElem?_set_self hlen]

section
variable {n : NestId} {s : State}

/-- The SKIPPED record of a point from the cursor on (R59). -/
def State.skippedAt (i : Nat) (p : PointEntry) (s : State) : PointRecord :=
  ⟨i, p.freq, .skipped, if i = s.gen.cursor then s.capture.attempt else 1, none, none, none, none⟩

theorem mem_skippedRecords (hclaim : s.gen.claimant = some (.nest n)) (hindex : ∀ (i : Nat) (p : PointEntry), s.planPoints[i]? = some p → p.index = i)
    {r : PointRecord} : r ∈ s.skippedRecords ↔ ∃ i p, s.gen.cursor ≤ i ∧ s.planPoints[i]? = some p ∧ r = s.skippedAt i p := by
  have hpoints : s.sweepPoints = s.planPoints := by simp only [State.sweepPoints, hclaim, State.pointsOf]
  rw [State.skippedRecords, hpoints, List.mem_map]
  constructor
  · rintro ⟨p, hp, rfl⟩
    obtain ⟨j, hj⟩ := List.getElem?_of_mem hp
    rw [List.getElem?_drop] at hj
    refine ⟨s.gen.cursor + j, p, by omega, hj, ?_⟩
    rw [State.skippedAt, ← hindex _ _ hj]
  · rintro ⟨i, p, hi, hp, rfl⟩
    refine ⟨p, List.mem_iff_getElem?.mpr ⟨i - s.gen.cursor, ?_⟩, ?_⟩
    · rw [List.getElem?_drop, Nat.add_sub_cancel' hi]
      exact hp
    · rw [State.skippedAt, ← hindex _ _ hp]

/-- The nest record after the SKIPPED records (R59). -/
theorem skipped_taken (c : PlanContent) (x : Nest) (hclaim : s.gen.claimant = some (.nest n))
    (hindex : ∀ (i : Nat) (p : PointEntry), s.planPoints[i]? = some p → p.index = i) {y : Nest}
    (hy : y = s.skippedRecords.foldl (fun x r => x.take c r) x) :
    (∀ i, i < x.slots.length → s.gen.cursor ≤ i → ∀ p, s.planPoints[i]? = some p → y.slots[i]? = some (some (s.skippedAt i p))) ∧
    (∀ i, i < s.gen.cursor → y.slots[i]? = x.slots[i]?) ∧
    y = { x with
      slots := y.slots
      refState := match c.sweep.reference with
        | some i => if s.gen.cursor ≤ i ∧ i < s.planPoints.length then .notValid else x.refState
        | none => x.refState } := by
  have hmem {r : PointRecord} := mem_skippedRecords hclaim hindex (r := r)
  rw [foldl_take_skipped_eq c (State.NestsAgree.skippedRecords_status s)] at hy
  refine ⟨fun i hlen hi p hp => ?_, fun i hi => ?_, ?_⟩
  · rw [hy]
    refine foldl_set_mem (r := s.skippedAt i p) (hmem.mpr ⟨i, p, hi, hp, rfl⟩) (fun w hw hwi => ?_) hlen
    obtain ⟨j, q, -, hq, rfl⟩ := hmem.mp hw
    obtain rfl : j = i := hwi
    obtain rfl : q = p := Option.some.inj (hq.symm.trans hp)
    rfl
  · rw [hy]
    refine foldl_set_other (fun w hw hwi => ?_) _
    obtain ⟨j, q, hj, -, rfl⟩ := hmem.mp hw
    obtain rfl : j = i := hwi
    omega
  · have href : (if ∃ r ∈ s.skippedRecords, c.sweep.reference = some r.index then RefState.notValid else x.refState) =
        match c.sweep.reference with
        | some i => if s.gen.cursor ≤ i ∧ i < s.planPoints.length then .notValid else x.refState
        | none => x.refState := by
      cases hr : c.sweep.reference with
      | none => simp
      | some i =>
        dsimp only
        refine if_congr ⟨?_, ?_⟩ rfl rfl
        · rintro ⟨w, hw, hwi⟩
          obtain ⟨j, q, hj, hq, rfl⟩ := hmem.mp hw
          obtain rfl : i = j := Option.some.inj hwi
          exact ⟨hj, (List.getElem?_eq_some_iff.mp hq).1⟩
        · rintro ⟨hi, hlen⟩
          exact ⟨_, hmem.mpr ⟨i, _, hi, List.getElem?_eq_getElem hlen, rfl⟩, rfl⟩
    rw [href] at hy
    rw [hy]

/-! ### The stop of the sweep (R58, R59, R71) -/

/-- What a stop leaves of the part: the window in progress is free (R71). -/
def State.windowStopped (s : State) : State :=
  match s.gen.mode, s.fillingHalf with
  | .window, some h => s.freeOne h
  | _, _ => s

theorem stopSweep_reached {c : PlanContent} (hstate : (s.nest n).state = .measuring) (hclaim : s.gen.claimant = some (.nest n))
    (hmode : s.gen.mode = .settle ∨ s.gen.mode = .window ∨ s.gen.mode = .holdoff) : s.stopSweep n c =
      State.modNest n (fun x => s.skippedRecords.foldl (fun x r => x.take c r) x)
        ((s.windowStopped.modCapture fun x => { x with holdoff := none }).modGen fun g => { g with mode := .runOut, stopMark := true }) := by
  have hreach : s.stopReaches n = true := by
    simp only [State.stopReaches, hstate, hclaim, decide_true, Bool.true_and]
    simpa [or_assoc] using hmode
  rw [State.stopSweep, hreach]
  rfl

theorem stopSweep_unreached {c : PlanContent} (hmode : ¬(s.gen.mode = .settle ∨ s.gen.mode = .window ∨ s.gen.mode = .holdoff)) :
    s.stopSweep n c = s := by
  have hreach : s.stopReaches n = false := by
    rw [Bool.eq_false_iff]
    simp only [State.stopReaches, ne_eq, Bool.and_eq_true, Bool.or_eq_true, decide_eq_true_eq, or_assoc]
    exact fun h => hmode h.2
  rw [State.stopSweep, hreach]
  rfl

theorem windowStopped_rest (s : State) : s.windowStopped = { s with
    engine := { s.engine with queue := s.windowStopped.engine.queue }
    capture := { s.capture with half0 := s.windowStopped.capture.half0, half1 := s.windowStopped.capture.half1 } } := by
  unfold State.windowStopped
  split
  next h _ _ => cases h <;> rfl
  · rfl

/-- The window in progress is freed; a half that is free stays free (R71). -/
theorem windowStopped_half (s : State) : (∀ h, (s.half h).state = .free → (s.windowStopped.half h).state = .free) ∧
    (∀ h, s.gen.mode = .window → s.fillingHalf = some h → (s.windowStopped.half h).state = .free) ∧
    (s.engine.queue = [] → s.windowStopped.engine.queue = []) := by
  refine ⟨fun h hfree => ?_, fun h hmode hfill => ?_, fun hq => ?_⟩
  · unfold State.windowStopped
    split
    · rw [freeOne_half]
      split
      · rfl
      · exact hfree
    · exact hfree
  · rw [State.windowStopped, hmode, hfill]
    dsimp only
    rw [freeOne_half, if_pos rfl]
  · unfold State.windowStopped
    split
    next h _ _ =>
      have hqueue : (s.freeOne h).engine.queue = s.engine.queue.filter (· ≠ h) := by cases h <;> rfl
      rw [hqueue, hq]
      rfl
    · exact hq

end

end Sys2Proof.Machine
end

section
/-! PROOF. The judgement of records and the stop of the sweep (O55). -/

namespace Sys2Proof.Machine
open Sys2Proof

section
variable {n : NestId} {h : HalfId} {c : PlanContent} {x : Nest} {s : State}

/-- The completion leaves another FILLING half as it is (R63, R79). -/
theorem analysed_fillingHalf {g : HalfId} (hg : s.fillingHalf = some g) (hne : g ≠ h) : (s.analysed h).fillingHalf = some g := by
  have hfill : ∀ i, (s.analysed h).half i = if i = h then { s.half h with state := .free } else s.half i := fun i => analysed_half h i s
  have h0 : (s.analysed h).capture.half0 = (s.analysed h).half .zero := rfl
  have h1 : (s.analysed h).capture.half1 = (s.analysed h).half .one := rfl
  have hs0 : s.half .zero = s.capture.half0 := rfl
  have hs1 : s.half .one = s.capture.half1 := rfl
  unfold State.fillingHalf at hg ⊢
  rw [h0, h1, hfill, hfill, hs0, hs1]
  cases h <;> cases g
  case zero.zero => exact absurd rfl hne
  case one.one => exact absurd rfl hne
  case zero.one =>
    split at hg
    · cases hg
    · simpa using hg
  case one.zero =>
    split at hg
    next h0 => simp [h0]
    · split at hg <;> cases hg

/-- What a first reason under stop-on-fail makes of the state that took the record (R58, R59, R71). -/
structure State.Stopped (n : NestId) (c : PlanContent) (x : Nest) (u t : State) : Prop where
  gen     : t.gen = { u.gen with mode := .runOut, stopMark := true }
  holdoff : t.capture.holdoff = none
  under   : t.engine.under = u.engine.under
  queue   : u.engine.queue = [] → t.engine.queue = []
  free    : ∀ g, (u.half g).state = .free → (t.half g).state = .free
  window  : ∀ g, u.gen.mode = .window → u.fillingHalf = some g → (t.half g).state = .free
  nest    : t.nest n = u.skippedRecords.foldl (fun x r => x.take c r) x

theorem stopSweep_stopped (hstate : (s.nest n).state = .measuring) (hclaim : s.gen.claimant = some (.nest n))
    (hmode : s.gen.mode = .settle ∨ s.gen.mode = .window ∨ s.gen.mode = .holdoff) (hx : s.nest n = x) :
    s.Stopped n c x (s.stopSweep n c) := by
  obtain ⟨hfree, hwindow, hqueue⟩ := windowStopped_half s
  have hrest := windowStopped_rest s
  rw [stopSweep_reached hstate hclaim hmode]
  have hgen : s.windowStopped.gen = s.gen := by rw [hrest]
  have hunder : s.windowStopped.engine.under = s.engine.under := by rw [hrest]
  have hnest : s.windowStopped.nest n = s.nest n := by
    rw [hrest]
    cases n <;> rfl
  generalize s.windowStopped = w at hfree hwindow hqueue hgen hunder hnest ⊢
  constructor
  case gen => rw [← hgen]; cases n <;> rfl
  case holdoff => cases n <;> rfl
  case under => rw [← hunder]; cases n <;> rfl
  case queue => cases n <;> exact hqueue
  case free =>
    intro g hg
    have := hfree g hg
    cases n <;> cases g <;> exact this
  case window =>
    intro g hm hg
    have := hwindow g hm hg
    cases n <;> cases g <;> exact this
  case nest =>
    rw [State.modNest_nest, ← hx, ← hnest]
    cases n <;> rfl

/-- The completion that brings the first reason under stop-on-fail (R58, R59, R71). -/
theorem completion_stops (hs : s.held = false) (hunder : s.engine.under = some h) (hqueue : s.engine.queue = [h])
    (howner : (s.half h).claimant = .nest n) (hstate : (s.nest n).state = .measuring) (htag : (s.half h).tag = (s.nest n).tag)
    (hplan : s.plan = some c) (hstop : c.sweep.stopOnFail = true) (hclaim : s.gen.claimant = some (.nest n))
    (hx : x = (s.nest n).take c (recordOf c.sweep.minResponse (s.half h) (analyse (s.half h)))) (hnil : (s.nest n).failList = [])
    (hfail : x.failList ≠ []) (hindex : ∀ (i : Nat) (p : PointEntry), s.planPoints[i]? = some p → p.index = i) :
    ∃ t, exec .analysisCompletion s = .next t ∧ (t.half h).state = .free ∧ t.engine.under = none ∧
      (s.gen.mode = .settle ∨ s.gen.mode = .window ∨ s.gen.mode = .holdoff →
        t.gen = { s.gen with mode := .runOut, stopMark := true } ∧ t.capture.holdoff = none ∧
        (∀ g, s.gen.mode = .window → s.fillingHalf = some g → (t.half g).state = .free) ∧
        (∀ i, i < x.slots.length → t.gen.cursor ≤ i → ∀ p, s.planPoints[i]? = some p →
          (t.nest n).slots[i]? = some (some (s.skippedAt i p))) ∧
        (∀ i, i < s.gen.cursor → (t.nest n).slots[i]? = x.slots[i]?) ∧
        t.nest n = { x with
          slots := (t.nest n).slots
          refState := match c.sweep.reference with
            | some i => if s.gen.cursor ≤ i ∧ i < s.planPoints.length then .notValid else x.refState
            | none => x.refState }) ∧
      (s.gen.mode = .runOut ∨ s.gen.mode = .fadeOut →
        t.nest n = x ∧ t = State.modNest n (fun _ => x) { s with engine := t.engine, capture := t.capture }) := by
  have hnest0 : (s.analysed h).nest n = s.nest n := analysed_nest h n s
  have hrest := analysed_rest h s
  have hplan0 : (s.analysed h).plan = some c := by rw [hrest]; exact hplan
  have hhalf0 := analysed_half h h s
  obtain ⟨hunder0, hqueue0⟩ := analysed_engine h s
  rw [if_pos rfl] at hhalf0
  have hempty : (s.analysed h).engine.queue = [] := by rw [hqueue0, hqueue]; simp
  have hgrows : (s.nest n).Grows x := hx ▸ take_grows ..
  obtain ⟨w, hw⟩ : ∃ w, w = (s.analysed h).modNest n (Nest.take c (recordOf c.sweep.minResponse (s.half h) (analyse (s.half h)))) :=
    ⟨_, rfl⟩
  have hwnest : w.nest n = x := by rw [hw, State.modNest_nest, hnest0, hx]
  have hwmode : (w.nest n).state = .measuring := by rw [hwnest, hgrows.state, hstate]
  have hoffer : (s.analysed h).offerRecord n (s.nest n).tag (recordOf c.sweep.minResponse (s.half h) (analyse (s.half h))) =
      w.stopSweep n c := by
    have := offerRecord_taken (r := recordOf c.sweep.minResponse (s.half h) (analyse (s.half h))) hplan0 (.inl (hnest0.symm ▸ hstate))
    rw [hnest0, if_pos ⟨hstop, hnil, hx ▸ hfail⟩, ← hw] at this
    exact this
  have hexec (t : State) (ht : w.stopSweep n c = t) (hm : (t.nest n).state = .measuring) (hq : t.engine.queue = []) :
      exec .analysisCompletion s = .next t := by
    rw [exec_completion hs hunder, handOver_nest howner (hnest0.symm ▸ htag) (.inl (hnest0.symm ▸ hstate)) hplan0, hnest0, hoffer, ht,
      if_neg (by rw [hm]; rintro ⟨h, -⟩; cases h), beginAnalysis_empty hq]
  have hwgen : w.gen = s.gen := by rw [hw, hrest]; cases n <;> rfl
  have hwengine : w.engine = (s.analysed h).engine := by rw [hw]; cases n <;> rfl
  have hwhalf (g : HalfId) : w.half g = (s.analysed h).half g := by rw [hw]; cases n <;> cases g <;> rfl
  have hclaim' : w.gen.claimant = some (.nest n) := by rw [hwgen, hclaim]
  have hpoints : w.planPoints = s.planPoints := by rw [hw, hrest]; cases n <;> rfl
  have hskipped (i : Nat) (p : PointEntry) : w.skippedAt i p = s.skippedAt i p := by rw [hw, hrest]; cases n <;> rfl
  by_cases hmode : s.gen.mode = .settle ∨ s.gen.mode = .window ∨ s.gen.mode = .holdoff
  · have hstopped := stopSweep_stopped (c := c) hwmode hclaim' (hwgen ▸ hmode) hwnest
    obtain ⟨hlater, hbefore, hframe⟩ := skipped_taken c x hclaim' (hpoints.symm ▸ hindex) hstopped.nest
    simp only [hwgen, hpoints, hskipped] at hlater hbefore hframe
    have hfreed : (w.half h).state = .free := by rw [hwhalf, hhalf0]
    refine ⟨w.stopSweep n c, hexec _ rfl ?_ (hstopped.queue (hwengine ▸ hempty)), hstopped.free h hfreed,
      hstopped.under.trans (hwengine ▸ hunder0), fun _ => ⟨hwgen ▸ hstopped.gen, hstopped.holdoff, fun g hwin hfill => ?_, ?_, hbefore,
      hframe⟩, fun hother => ?_⟩
    · rw [hframe]
      exact hgrows.state.trans hstate
    · by_cases hg : g = h
      · exact hg ▸ hstopped.free h hfreed
      · refine hstopped.window g (hwgen ▸ hwin) ?_
        rw [← analysed_fillingHalf hfill hg, hw]
        cases n <;> rfl
    · rw [hstopped.gen, hwgen]
      exact hlater
    · rcases hother with h | h <;> simp [h] at hmode
  · have hsame := stopSweep_unreached (n := n) (c := c) (hwgen ▸ hmode)
    refine ⟨w, hexec w hsame hwmode (hwengine ▸ hempty), by rw [hwhalf, hhalf0], hwengine ▸ hunder0, fun h => absurd h hmode,
      fun _ => ⟨hwnest, ?_⟩⟩
    rw [← hwnest, hw, hrest]
    cases n <;> rfl

end

/-- Settles O55: a record is taken as the list of its readings, and the stop of the sweep as the SKIPPED records in order. -/
theorem recordsAreJudged : Obligations.RecordsAreJudged := by
  unfold Obligations.RecordsAreJudged
  refine ⟨fun c n x r y isRef g hx hm hy hcase => ?_, fun c n r h1 h2 h3 => ?_, fun c n r h => take_unmeasured_eq h,
    fun c n r v hm => ⟨fun href hst hspl => ?_, fun i q href hne hq hst hspl => take_slots_later hm href hne hq hst hspl⟩,
    fun c n x r v href hst hspl hx => ?_, ?_⟩
  · obtain ⟨base, hbase, hg, hi, hf, hj, hw, hd⟩ := record_judged hx hm hy hcase
    exact judged_by hbase hg hi hf hj hw hd
  · obtain ⟨⟨honce, hlist, hover⟩, hprefix⟩ := take_reasonsKept (c := c) (r := r) (n := n) ⟨h1, h2, h3⟩
    exact ⟨honce, hlist, hover, hprefix⟩
  · have htake := take_reference (n := n) href hst hspl
    obtain ⟨hcurve, hreasons⟩ := reference_judged (n := n) href hst hspl rfl
    refine ⟨by rw [htake, hearAll_refState]; rfl, ?_, fun k u y m hk hrel hlen hy hym hyrel happ => ?_⟩
    · rw [htake, hearAll_slots, Nest.referenced, fillRel_reference hspl, fillSlots_eq]
    · have hvisited : y ∈ (n.take c r).visited u r.index := mem_visited_rel hrel hy hym
      have hreads := reads_valid_rel hrel happ hyrel
      obtain ⟨hjudged, -⟩ := hcurve k u hk
      refine ⟨?_, fun hfails => (hreasons u.reason).mpr
        (.inr ⟨u, List.mem_of_getElem? hk, y, hvisited, .inr ⟨m, hreads, hfails, rfl⟩⟩)⟩
      rw [List.getD_eq_getElem?_getD, hjudged, List.getElem?_eq_getElem hlen]
      exact mem_foldl_joinsJudged (.inr ⟨y, List.mem_filter.mpr ⟨hvisited, by rw [hreads]; rfl⟩, rfl⟩)
  · obtain ⟨hcurve, hreasons⟩ := reference_judged href hst hspl hx
    exact ⟨hcurve, hreasons, fun hlen u => hx ▸ reference_visited href hst hspl hlen u⟩
  · intro n h c x s hs hunder hqueue howner hstate htag hplan hstop hclaim hx hnil hfail hindex
    exact completion_stops hs hunder hqueue howner hstate htag hplan hstop hclaim hx hnil hfail hindex

end Sys2Proof.Machine
end

section
/-! PROOF. Completions that end no test, and the end of a CHAIN CHECK (R39, R78 to R80). -/

namespace Sys2Proof.Machine
open Sys2Proof

/-! ### The next window (R78) -/

section
variable {h : HalfId} {s : State}

/-- The half freed, and the next window begun (R78, R79). -/
theorem analysed_begins {rest : List HalfId} (hqueue : s.engine.queue = h :: rest) (hnot : h ∉ rest) :
    s.HalfFinished h rest (s.analysed h).beginAnalysis := by
  obtain ⟨hunder, hq⟩ := analysed_engine h s
  have hfilter : (s.analysed h).engine.queue = rest := by
    rw [hq, hqueue, List.filter_cons, if_neg (by simp)]
    exact List.filter_eq_self.mpr fun g hg => by simpa using fun e : g = h => hnot (e ▸ hg)
  have hhalf (g : HalfId) := analysed_half h g s
  have hrest := analysed_rest h s
  by_cases hnext : ∃ g more, rest = g :: more ∧ (s.half g).state = .queued
  · obtain ⟨g, more, rfl, hg⟩ := hnext
    have hne : g ≠ h := fun e => hnot (e ▸ List.mem_cons_self)
    have hgq : ((s.analysed h).half g).state = .queued := by rw [hhalf, if_neg hne, hg]
    have hbegin := beginAnalysis_idle hunder hfilter hgq
    rw [hbegin]
    refine ⟨?_, fun e => (by cases e), fun g' more' e _ => ?_, ?_⟩
    · rw [← if_pos rfl (c := h = h) (t := { s.half h with state := .free }) (e := s.half h), ← hhalf h]
      cases h <;> cases g <;> first | rfl | exact absurd rfl hne
    · obtain ⟨rfl, rfl⟩ := List.cons.inj e
      have hsame := hhalf g
      rw [if_neg hne] at hsame
      refine ⟨?_, ?_⟩
      · rw [← hsame]
        cases g <;> rfl
      · rw [← hfilter]
    · rw [hrest]
      cases g <;> rfl
  · have hbegin : (s.analysed h).beginAnalysis = s.analysed h := by
      cases hr : rest with
      | nil => exact beginAnalysis_empty (hfilter.trans hr)
      | cons g more =>
        have hne : g ≠ h := fun e => hnot (hr ▸ e ▸ List.mem_cons_self)
        have hgq : ((s.analysed h).half g).state ≠ .queued := by
          rw [hhalf, if_neg hne]
          exact fun hg => hnext ⟨g, more, hr, hg⟩
        simp only [State.beginAnalysis, hunder, hfilter, hr, if_neg hgq]
    rw [hbegin]
    refine ⟨by rw [hhalf, if_pos rfl], fun e => ⟨hunder, hfilter.trans e, fun g hg => by rw [hhalf, if_neg hg]⟩,
      fun g more e hg => absurd ⟨g, more, e, hg⟩ hnext, hrest⟩

theorem analysed_takesResult (x : Half) (s : State) : (s.analysed h).takesResult x = s.takesResult x := by
  rw [analysed_rest]
  unfold State.takesResult State.tagOf
  cases x.claimant with
  | nest n => cases n <;> rfl
  | check => rfl

/-- A discarded result ends no test (R80). -/
theorem completion_discarded {rest : List HalfId} (hs : s.held = false) (hunder : s.engine.under = some h)
    (hqueue : s.engine.queue = h :: rest) (hnot : h ∉ rest) (hd : s.discards h) :
    ∃ t, exec .analysisCompletion s = .next t ∧ s.HalfFinished h rest t := by
  have hno : (s.analysed h).takesResult (s.half h) = false := by
    rw [analysed_takesResult, Bool.eq_false_iff]
    exact fun htakes => (takesResult_half h s).mp htakes hd
  exact ⟨_, by rw [exec_completion hs hunder, handOver_discarded hno], analysed_begins hqueue hnot⟩

end

/-! ### The record of a test that goes on (R25, R79) -/

section
variable {n : NestId} {h : HalfId} {c : PlanContent} {x : Nest} {s : State}

/-- The state in which the record of the freed half has been taken (R79). -/
def State.recordTaken (n : NestId) (h : HalfId) (x : Nest) (s : State) : State := (s.analysed h).modNest n fun _ => x

theorem recordTaken_nest (n : NestId) (h : HalfId) (x : Nest) (s : State) : (s.recordTaken n h x).nest n = x := State.modNest_nest ..

theorem recordTaken_half (n : NestId) (h : HalfId) (x : Nest) (s : State) (g : HalfId) :
    (s.recordTaken n h x).half g = if g = h then { s.half h with state := .free } else s.half g := by
  rw [← analysed_half h g s]
  cases n <;> cases g <;> rfl

theorem recordTaken_engine (n : NestId) (h : HalfId) (x : Nest) (s : State) :
    (s.recordTaken n h x).engine = (s.analysed h).engine := by
  cases n <;> rfl

theorem recordTaken_rest (n : NestId) (h : HalfId) (x : Nest) (s : State) : s.recordTaken n h x = State.modNest n (fun _ => x) { s with
    engine := (s.recordTaken n h x).engine
    capture := { s.capture with half0 := (s.recordTaken n h x).capture.half0, half1 := (s.recordTaken n h x).capture.half1 } } := by
  cases n <;> cases h <;> rfl

/-- Without a stop of the sweep the completion takes the record, and an ANALYSING nest with no window outstanding comes to its verdict
(R29, R58, R79). -/
theorem completion_taken (hs : s.held = false) (hunder : s.engine.under = some h) (howner : (s.half h).claimant = .nest n)
    (htag : (s.half h).tag = (s.nest n).tag) (hplan : s.plan = some c)
    (hstate : (s.nest n).state = .analysing ∨ ((s.nest n).state = .measuring ∧ c.sweep.stopOnFail = false))
    (hx : x = (s.nest n).take c (recordOf c.sweep.minResponse (s.half h) (analyse (s.half h)))) :
    exec .analysisCompletion s = .next (State.beginAnalysis
      (if x.state = .analysing ∧ (s.recordTaken n h x).outstanding n = 0 then
        ((s.recordTaken n h x).makeVerdict n).settleActivation
      else s.recordTaken n h x)) := by
  have hnest0 : (s.analysed h).nest n = s.nest n := analysed_nest h n s
  have hplan0 : (s.analysed h).plan = some c := by rw [analysed_rest]; exact hplan
  have htest : ((s.analysed h).nest n).state = .measuring ∨ ((s.analysed h).nest n).state = .analysing := by
    rw [hnest0]
    rcases hstate with h | ⟨h, -⟩
    · exact .inr h
    · exact .inl h
  have hmod : (s.analysed h).modNest n (Nest.take c (recordOf c.sweep.minResponse (s.half h) (analyse (s.half h)))) =
      s.recordTaken n h x := by
    rw [State.recordTaken, hx, ← hnest0]
    cases n <;> rfl
  have hoffer : (s.analysed h).offerRecord n (s.nest n).tag (recordOf c.sweep.minResponse (s.half h) (analyse (s.half h))) =
      s.recordTaken n h x := by
    have htaken := offerRecord_taken (r := recordOf c.sweep.minResponse (s.half h) (analyse (s.half h))) hplan0 htest
    rw [hnest0, hmod] at htaken
    rw [htaken]
    split
    next hstop =>
      rcases hstate with hst | ⟨-, hoff⟩
      · have hreach : (s.recordTaken n h x).stopReaches n = false := by
          have hxs : x.state = .analysing := by rw [hx, (take_grows ..).state, hst]
          simp [State.stopReaches, recordTaken_nest, hxs]
        rw [State.stopSweep, hreach]
        rfl
      · rw [hoff] at hstop
        exact absurd hstop.1 (by simp)
    · rfl
  rw [exec_completion hs hunder, handOver_nest howner (hnest0.symm ▸ htag) htest hplan0, hnest0, hoffer, recordTaken_nest]

/-- The record of a nest that goes on MEASURING (R25). -/
theorem completion_measuring (hs : s.held = false) (hunder : s.engine.under = some h) (hqueue : s.engine.queue = [h])
    (howner : (s.half h).claimant = .nest n) (hstate : (s.nest n).state = .measuring) (htag : (s.half h).tag = (s.nest n).tag)
    (hplan : s.plan = some c) (hstop : c.sweep.stopOnFail = false)
    (hx : x = (s.nest n).take c (recordOf c.sweep.minResponse (s.half h) (analyse (s.half h)))) :
    exec .analysisCompletion s = .next (s.recordTaken n h x) ∧ x.state = .measuring := by
  have hxs : x.state = .measuring := by rw [hx, (take_grows ..).state, hstate]
  have hempty : (s.recordTaken n h x).engine.queue = [] := by
    rw [recordTaken_engine, (analysed_engine h s).2, hqueue]
    simp
  refine ⟨?_, hxs⟩
  rw [completion_taken hs hunder howner htag hplan (.inr ⟨hstate, hstop⟩) hx, if_neg (by rw [hxs]; rintro ⟨h, -⟩; cases h),
    beginAnalysis_empty hempty]

/-- Without a reference point the record stands as it is in its slot (R94). -/
theorem take_slots_noReference {r : PointRecord} (hm : r.status = .valid ∨ r.status = .noSignal) (href : c.sweep.reference = none)
    (x : Nest) : (x.take c r).slots = x.slots.set r.index (some r) := by
  have hspl : x.completed c r = r := by rw [Nest.completed, Nest.referenceSpl, href]; rfl
  rw [take_plain (measured_iff.mpr hm) (by rw [href]; simp), hearAll_slots, hspl]
  rfl

end

/-! ### The end of a CHAIN CHECK (R39) -/

theorem checkPasses_both (a b : Int) : (checkPasses a && checkPasses b) = true ↔ -2050 ≤ a ∧ a ≤ -1950 ∧ -2050 ≤ b ∧ b ≤ -1950 := by
  simp [checkPasses, and_assoc]

theorem endCheckIfDue_waits {s : State} (h : s.chain.checkFaded = false ∨ s.chain.checkA = none ∨ s.chain.checkB = none) :
    s.endCheckIfDue = s := by
  unfold State.endCheckIfDue
  split
  next hf ha hb => rcases h with h | h | h <;> simp_all
  · rfl

theorem checkReply_length (p : Nat) (a b : Int) : (byte p ++ leSigned a ++ leSigned b).length = 5 := by
  simp [byte, leSigned]

/-- The chain is freed, and a failed check withdraws verification and latches CHAIN_FAULT (R39, R129). -/
def State.checkJudged (pass : Bool) (s : State) : State :=
  if pass then s.freeChain else s.freeChain.withdraw.latchBoth .chainFault

theorem endCheckIfDue_due {a b : Int} {ps : Vector Byte 64} {s : State} (hholder : s.chain.holder = some .check)
    (hfaded : s.chain.checkFaded = true) (ha : s.chain.checkA = some a) (hb : s.chain.checkB = some b) (hqueue : s.chain.queue = [])
    (hload : s.loader.state ≠ .pending) (hrun : s.station.running = some ⟨.chainCheck, ps, true⟩) :
    s.endCheckIfDue = s.checkEnded a b (checkPasses a && checkPasses b) := by
  obtain ⟨w, hw⟩ : ∃ w, w = s.checkJudged (checkPasses a && checkPasses b) := ⟨_, rfl⟩
  have hwrun : w.runs .station .chainCheck = true := by
    have : (w.port .station).running = some ⟨.chainCheck, ps, true⟩ := by
      rw [hw, State.checkJudged]
      split <;> exact hrun
    rw [State.runs, this]
    rfl
  have hend : s.endCheckIfDue = (if w.runs .station .chainCheck then w.answerLate .station .ok 0 (checkReply a b)
      else w).grantHead.settleActivation := by
    simp only [State.endCheckIfDue, hholder, hfaded, ha, hb, hw, State.checkJudged]
  have hwqueue : w.chain.queue = [] := by
    rw [hw, State.checkJudged]
    split <;> exact hqueue
  have hwload : w.loader.state ≠ .pending := by
    rw [hw, State.checkJudged]
    split <;> exact hload
  have hlate : (w.answerLate .station .ok 0 (checkReply a b)).grantHead.settleActivation = w.answerLate .station .ok 0 (checkReply a b) := by
    rw [grantHead_idle (s := w.answerLate .station .ok 0 (checkReply a b)) (.inr hwqueue),
      settleActivation_notPending (s := w.answerLate .station .ok 0 (checkReply a b)) hwload]
  rw [hend, hwrun, if_pos rfl, hlate, answerLate_station, hw, State.checkJudged, State.checkEnded, checkReply, checkReply_length]
  have hcode (p : Nat) : byte p = [BitVec.ofNat 8 p] := by simp [byte, le]
  have hfault : (1#16 <<< 6 : BitVec 16) = 0x0040 := rfl
  have hboth : (0x0040 ||| 0x4000 : BitVec 16) = 0x4040 := rfl
  have hnone (x : BitVec 16) : x ||| 0 = x := BitVec.or_zero
  have hpass : BitVec.ofNat 8 1 = (1 : Byte) := rfl
  have hfail : BitVec.ofNat 8 2 = (2 : Byte) := rfl
  rw [hcode]
  generalize leSigned a = la
  generalize leSigned b = lb
  cases checkPasses a && checkPasses b
  · simp only [Bool.false_eq_true, if_false, State.freeChain, State.modChain, withdraw_eq, State.latchBoth, State.latchOn, State.modPort,
      Port.latch, eventBit, Bool.not_false, Bool.or_true, BitVec.or_assoc, hfaded, ha, hb, hfault, hboth, hfail]
  · simp only [if_true, State.freeChain, State.modChain, Bool.not_true, Bool.or_false, hnone, hfaded, ha, hb, hpass]

section
variable {h : HalfId} {s : State}

/-- The hand-over of a CHAIN CHECK's result (R39). -/
theorem completion_check (hs : s.held = false) (hunder : s.engine.under = some h) (howner : (s.half h).claimant = .check)
    (hholder : s.chain.holder = some .check) (htag : (s.half h).tag = s.chain.checkTag) : exec .analysisCompletion s =
      .next (((s.analysed h).takeCheckResult (s.half h) (analyse (s.half h)).lfs).endCheckIfDue).beginAnalysis := by
  have htakes : (s.analysed h).takesResult (s.half h) = true := by
    rw [analysed_takesResult]
    simp [State.takesResult, howner, State.tagOf, htag, hholder]
  rw [exec_completion hs hunder, State.handOver, htakes, howner]
  rfl

theorem analysed_empty (hqueue : s.engine.queue = [h]) : (s.analysed h).engine.queue = [] := by
  rw [(analysed_engine h s).2, hqueue]
  simp

theorem takeCheckResult_chain (x : Half) (lfs : Int) (s : State) : s.takeCheckResult x lfs = { s with
    chain := match x.input with
      | .a => { s.chain with checkA := some lfs }
      | .b => { s.chain with checkB := some lfs } } := by
  unfold State.takeCheckResult
  cases x.input <;> rfl

/-- A result that does not end the check (R39). -/
theorem completion_checkWaits (hs : s.held = false) (hunder : s.engine.under = some h) (hqueue : s.engine.queue = [h])
    (howner : (s.half h).claimant = .check) (hholder : s.chain.holder = some .check) (htag : (s.half h).tag = s.chain.checkTag)
    (hwaits : s.chain.checkFaded = false ∨ (match (s.half h).input with | .a => s.chain.checkB | .b => s.chain.checkA) = none) :
    exec .analysisCompletion s = .next ((s.analysed h).takeCheckResult (s.half h) (analyse (s.half h)).lfs) := by
  have hchain : (s.analysed h).chain = s.chain := by rw [analysed_rest]
  rw [completion_check hs hunder howner hholder htag, endCheckIfDue_waits, beginAnalysis_empty]
  · rw [takeCheckResult_chain]
    exact analysed_empty hqueue
  · rw [takeCheckResult_chain, hchain]
    cases hi : (s.half h).input <;> rw [hi] at hwaits
    · exact hwaits.imp_right .inr
    · exact hwaits.imp_right .inl

theorem checkEnded_takeCheckResult (x : Half) (lfs a b : Int) (pass : Bool) (s : State) :
    (s.takeCheckResult x lfs).checkEnded a b pass = s.checkEnded a b pass := by
  rw [takeCheckResult_chain]
  cases x.input <;> simp only [State.checkEnded]

/-- The result that ends the check (R39, R185). -/
theorem completion_checkEnds {a b : Int} {ps : Vector Byte 64} (hs : s.held = false) (hunder : s.engine.under = some h)
    (hqueue : s.engine.queue = [h]) (howner : (s.half h).claimant = .check) (hholder : s.chain.holder = some .check)
    (htag : (s.half h).tag = s.chain.checkTag) (hfaded : s.chain.checkFaded = true)
    (hresult : ((s.half h).input = .a ∧ a = (analyse (s.half h)).lfs ∧ s.chain.checkB = some b) ∨
      ((s.half h).input = .b ∧ b = (analyse (s.half h)).lfs ∧ s.chain.checkA = some a))
    (hnobody : s.chain.queue = []) (hload : s.loader.state ≠ .pending) (hrun : s.station.running = some ⟨.chainCheck, ps, true⟩) :
    exec .analysisCompletion s = .next ((s.analysed h).checkEnded a b (checkPasses a && checkPasses b)) := by
  obtain ⟨w, hw⟩ : ∃ w, w = (s.analysed h).takeCheckResult (s.half h) (analyse (s.half h)).lfs := ⟨_, rfl⟩
  have hwc := hw.trans (takeCheckResult_chain ..)
  have hempty := analysed_empty hqueue
  rw [analysed_rest] at hwc hempty
  have hchain : w.chain.holder = some .check ∧ w.chain.checkFaded = true ∧ w.chain.checkA = some a ∧ w.chain.checkB = some b ∧
      w.chain.queue = [] := by
    rw [hwc]
    rcases hresult with ⟨hi, ha, hb⟩ | ⟨hi, hb, ha⟩ <;> rw [hi] <;> simp [hholder, hfaded, hnobody, ha, hb]
  obtain ⟨hwholder, hwfaded, hwa, hwb, hwqueue⟩ := hchain
  have hend := endCheckIfDue_due hwholder hwfaded hwa hwb hwqueue (by rw [hwc]; exact hload) (by rw [hwc]; exact hrun)
  rw [completion_check hs hunder howner hholder htag, ← hw, hend, beginAnalysis_empty (s := State.checkEnded _ _ _ w), hw,
    checkEnded_takeCheckResult]
  exact (congrArg (fun x : State => x.engine.queue) hwc).trans hempty

end

end Sys2Proof.Machine
end

section
/-! PROOF. The verdict of a production unit in the accounts and the Unit Table (R107 to R110, R122, R130, R134). -/

namespace Sys2Proof.Machine
open Sys2Proof

/-! ### The nest record (R107 to R109) -/

theorem noteCause_eq (curves : List Curve) (x : Nest) : x.noteCause curves = { x with
    causeOverload := x.causeOverload || decide (x.resolve curves = .retest ∧ x.hasStatus .overload = true)
    causeNoisy := x.causeNoisy || decide (x.resolve curves = .retest ∧ x.hasStatus .overload = false) } := by
  unfold Nest.noteCause
  cases hr : x.resolve curves <;> dsimp only
  case retest =>
    cases hov : x.hasStatus .overload <;> simp
  all_goals simp

theorem detect_detected (code : Nat) (n : Nest) :
    (n.detect code).detected = if code ∉ n.detected then n.detected ++ [code] else n.detected := by
  unfold Nest.detect
  by_cases h : code ∈ n.detected
  · rw [if_pos h, if_neg (not_not_intro h)]
  · rw [if_neg h, if_pos h]
    dsimp only
    split <;> rfl

theorem detect_verdict (code : Nat) (n : Nest) (w : Verdict) (f : List Nat → Nat) :
    ∃ d l o, ({ n.detect code with verdict := some w, bin := some (f (n.detect code).detected) } : Nest) =
      { n with verdict := some w, bin := some (f d), detected := d, failList := l, overflow := o } := by
  unfold Nest.detect
  split
  · exact ⟨_, _, _, rfl⟩
  · dsimp only
    split <;> exact ⟨_, _, _, rfl⟩

/-- The outcome class of a recorded verdict (R109). -/
def outcomeOf (w : Verdict) (k : Nat) (pend : Bool) : OutcomeClass :=
  if pend then .retestPending else if w = .pass then (if k = 1 then .firstPass else .retestPass) else .finalFail

theorem attemptPolicy_eq {r w : Verdict} {k most : Nat} {last pend : Bool} (hlast : last = decide (most ≤ k))
    (hw : w = if r = .retest ∧ last = true then .fail else r) (hpend : pend = (decide (w ≠ .pass) && !last)) :
    attemptPolicy r k most = (w, outcomeOf w k pend, decide (r = .retest ∧ last = true)) := by
  subst hlast hw hpend
  cases r <;> by_cases h : most ≤ k <;> simp [attemptPolicy, outcomeOf, h]

section
variable {n : NestId} {c : PlanContent} {x : Nest} {v k : Nat} {r w : Verdict} {last pend suspect : Bool} {s : State}

theorem policy_of_ruling (h : s.AtRuling n c x v k r w last pend suspect) :
    attemptPolicy (x.resolve c.limits) (x.attempt.getD 0) c.policy.maxAttempts =
      (w, outcomeOf w k pend, decide (r = .retest ∧ last = true)) := by
  rw [h.attempt, ← h.resolved]
  exact attemptPolicy_eq h.atLast h.recorded h.pending

/-- The nest record of a production verdict (R105, R107 to R109). -/
theorem ruledAs_eq (h : s.AtRuling n c x v k r w last pend suspect) : x.ruledAs c = { x with
    verdict := some w, bin := some (c.bins.binOf w (x.ruledAs c).detected), detected := (x.ruledAs c).detected
    failList := (x.ruledAs c).failList, overflow := (x.ruledAs c).overflow
    causeOverload := x.causeOverload || decide (r = .retest ∧ x.hasStatus .overload = true)
    causeNoisy := x.causeNoisy || decide (r = .retest ∧ x.hasStatus .overload = false) } := by
  have hsome : ∃ d l o, x.ruledAs c = { x with
      verdict := some w, bin := some (c.bins.binOf w d), detected := d, failList := l, overflow := o
      causeOverload := x.causeOverload || decide (r = .retest ∧ x.hasStatus .overload = true)
      causeNoisy := x.causeNoisy || decide (r = .retest ∧ x.hasStatus .overload = false) } := by
    obtain ⟨z, hz⟩ : ∃ z, z = x.noteCause c.limits := ⟨_, rfl⟩
    rw [Nest.ruledAs, policy_of_ruling h, ← hz]
    rw [noteCause_eq, ← h.resolved] at hz
    dsimp only
    split
    · obtain ⟨d, l, o, hd⟩ := detect_verdict 14 z w fun d => c.bins.binOf w d
      exact ⟨d, l, o, hd.trans (by subst hz; rfl)⟩
    · exact ⟨z.detected, z.failList, z.overflow, by subst hz; rfl⟩
  obtain ⟨d, l, o, hd⟩ := hsome
  rw [hd]

theorem ruledAs_detected (h : s.AtRuling n c x v k r w last pend suspect) : (x.ruledAs c).detected =
    if r = .retest ∧ last = true ∧ 14 ∉ x.detected then x.detected ++ [14] else x.detected := by
  rw [Nest.ruledAs, policy_of_ruling h]
  dsimp only
  by_cases hlimit : r = .retest ∧ last = true
  · rw [if_pos (by simpa using hlimit), detect_detected, noteCause_detected]
    simp [hlimit]
  · rw [if_neg (by simpa using hlimit), noteCause_detected, if_neg fun h => hlimit ⟨h.1, h.2.1⟩]

end

/-! ### The counts (R134) -/

theorem addVerdict_eq (w : Verdict) (k b : Nat) {last pend : Bool} (hpend : pend = (decide (w ≠ .pass) && !last))
    (hretest : w = .retest → last = false) (c : Counts) : Counts.addVerdict (outcomeOf w k pend) w b c = { c with
      firstPass := c.firstPass + (if w = .pass ∧ k = 1 then 1 else 0)
      retestPass := c.retestPass + (if w = .pass ∧ k ≠ 1 then 1 else 0)
      finalFail := c.finalFail + (if w = .fail ∧ last = true then 1 else 0)
      failVerdicts := c.failVerdicts + (if w = .fail then 1 else 0)
      retestVerdicts := c.retestVerdicts + (if w = .retest then 1 else 0)
      bins := (c.addBin b).bins } := by
  subst hpend
  cases w with
  | pass => by_cases hk : k = 1 <;> simp [outcomeOf, Counts.addVerdict, hk, Counts.addBin]
  | fail => cases last <;> simp [outcomeOf, Counts.addVerdict, Counts.addBin]
  | retest => simp [outcomeOf, Counts.addVerdict, Counts.addBin, hretest rfl]

theorem addBin_get (b : Nat) (c : Counts) (i : Fin 16) :
    (c.addBin b).bins[i] = if i.val = b then c.bins[i] + 1 else c.bins[i] := by
  obtain ⟨i, hi⟩ := i
  simp only [Counts.addBin, Fin.getElem_fin, Vector.getElem_setIfInBounds]
  by_cases h : b = i
  · subst h
    simp [hi]
  · simp [h, Ne.symm h]

/-! ### The ring and the list (R109, R122, R134, R138) -/

/-- What a verdict does to the ring, the list and the held entry, before the consecutive fails are counted (R122, R134). -/
def State.booked (n : NestId) (v k : Nat) (w : Verdict) (pend : Bool) (b : Nat) (s : State) : State :=
  let s := s.count (Counts.addVerdict (outcomeOf w k pend) w b)
  let s :=
    match (outcomeOf w k pend).completion with
    | some e => s.addRing ⟨v, e⟩
    | none => s
  let s := s.modUnits (UnitTable.setHeld n none)
  if outcomeOf w k pend = .retestPending then s.insertRetest ⟨v, k, w, b⟩ else s

theorem takeOutcome_eq {n : NestId} {v k b : Nat} {w : Verdict} {pend : Bool} {s : State} (hv : (s.nest n).serial = some v)
    (hk : (s.nest n).attempt = some k) :
    s.takeOutcome n (outcomeOf w k pend) w b = (s.booked n v k w pend b).countFails w := by
  simp only [State.takeOutcome, State.booked, hv, hk, Option.getD_some] <;> rfl

section
variable {n : NestId} {v k b : Nat} {w : Verdict} {pend : Bool} {s : State}

theorem booked_settled (h : pend = false) : s.booked n v k w pend b =
    ((s.count (Counts.addVerdict (outcomeOf w k pend) w b)).addRing
      ⟨v, if w = .pass then (if k = 1 then .firstPass else .retestPass) else .finalFail⟩).modUnits (UnitTable.setHeld n none) := by
  subst h
  by_cases hw : w = .pass
  · by_cases hk : k = 1 <;> simp [State.booked, outcomeOf, hw, hk, OutcomeClass.completion]
  · simp [State.booked, outcomeOf, hw, OutcomeClass.completion]

theorem booked_pending (h : pend = true) : s.booked n v k w pend b =
    ((s.count (Counts.addVerdict (outcomeOf w k pend) w b)).modUnits (UnitTable.setHeld n none)).insertRetest ⟨v, k, w, b⟩ := by
  subst h
  simp [State.booked, outcomeOf, OutcomeClass.completion]

/-- What stands in the books of the part after the ring, the list and the held entry have taken a verdict (R122, R134, R138, R139). -/
structure State.Booked (n : NestId) (v k : Nat) (w : Verdict) (pend : Bool) (b : Nat) (s t : State) : Prop where
  counts   : t.accounts.counts = { Counts.addVerdict (outcomeOf w k pend) w b s.accounts.counts with
    expired := s.accounts.counts.expired + (if pend = true ∧ 32 ≤ s.units.retest.length then 1 else 0) }
  accounts : t.accounts = { s.accounts with
    counts := t.accounts.counts, ring := t.accounts.ring, ringSeq := t.accounts.ringSeq }
  settled  : s.Settled v k w pend b t
  held     : t.units.held n = none ∧ t.units.held (otherNest n) = s.units.held (otherNest n)
  events   : ∀ p, (t.port p).events = (s.port p).events |||
    (if s.yieldAlarm = false ∧ t.yieldAlarm = true then 0x0800 else 0)
  frame    : s.OnlyLedger t

theorem addVerdict_expired (o : OutcomeClass) (w : Verdict) (b : Nat) (c : Counts) : (c.addVerdict o w b).expired = c.expired := by
  cases o
  case retestPending => cases w <;> rfl
  all_goals rfl

theorem counts_expired (c : Counts) (e : BitVec 32) (h : c.expired = e) : c = { c with expired := e + 0 } := by
  have hzero : e + 0 = c.expired := (BitVec.add_zero e).trans h.symm
  rw [hzero]

theorem held_setHeld (n : NestId) (u : UnitTable) : (u.setHeld n none).held n = none ∧
    (u.setHeld n none).held (otherNest n) = u.held (otherNest n) := by
  cases n <;> exact ⟨rfl, rfl⟩

theorem setHeld_lists (n : NestId) (u : UnitTable) :
    (u.setHeld n none).retest = u.retest ∧ (u.setHeld n none).listSequence = u.listSequence := by
  cases n <;> exact ⟨rfl, rfl⟩

/-- A settled unit (R134, R138). -/
theorem booked_of_settled (h : pend = false) : s.Booked n v k w pend b (s.booked n v k w pend b) := by
  rw [booked_settled h]
  obtain ⟨e, he⟩ : ∃ e : RingEntry, e = ⟨v, if w = .pass then (if k = 1 then .firstPass else .retestPass) else .finalFail⟩ := ⟨_, rfl⟩
  obtain ⟨z, hz⟩ : ∃ z, z = s.count (Counts.addVerdict (outcomeOf w k pend) w b) := ⟨_, rfl⟩
  have hring := addRing_accounts e z
  have hunits : (z.addRing e).units = s.units := by rw [State.addRing_units, hz]; rfl
  obtain ⟨hretest, hsequence⟩ := setHeld_lists n s.units
  rw [← he, ← hz]
  have haccounts : ((z.addRing e).modUnits (UnitTable.setHeld n none)).accounts = (z.addRing e).accounts := rfl
  have hacc : z.accounts = { s.accounts with counts := Counts.addVerdict (outcomeOf w k pend) w b s.accounts.counts } := by rw [hz]; rfl
  rw [hacc] at hring
  refine ⟨?_, ?_, ⟨fun _ => ⟨?_, ?_, ?_, ?_⟩, fun hp => ?_, fun _ _ hp => ?_⟩, ?_, fun p => ?_, ?_⟩
  · rw [haccounts, hring, h]
    exact counts_expired _ _ (addVerdict_expired ..)
  · rw [haccounts, hring]
  · exact (congrArg (fun u => (UnitTable.setHeld n none u).retest) hunits).trans hretest
  · exact (congrArg (fun u => (UnitTable.setHeld n none u).listSequence) hunits).trans hsequence
  · rw [haccounts, hring, ← he]
  · rw [haccounts, hring]
  · rw [h] at hp; cases hp
  · rw [h] at hp; cases hp
  · have := held_setHeld n (z.addRing e).units
    rw [hunits] at this
    exact (congrArg (fun u => (UnitTable.setHeld n none u).held n = none ∧
      (UnitTable.setHeld n none u).held (otherNest n) = s.units.held (otherNest n)) hunits).mpr this
  · have hevents := addRing_events e z p
    have halarm : z.yieldAlarm = s.yieldAlarm := by rw [hz]; rfl
    have hport : (z.port p).events = (s.port p).events := by rw [hz]; cases p <;> rfl
    rw [halarm, hport] at hevents
    refine Eq.trans ?_ hevents
    cases p <;> rfl
  · exact .trans (t := z) (hz ▸ rfl) ((State.OnlyLedger.addRing e z).trans (State.OnlyLedger.setHeld n none _))

/-- A unit that joins a list with room (R122). -/
theorem booked_of_listed (h : pend = true) (hlen : s.units.retest.length < 32) : s.Booked n v k w pend b (s.booked n v k w pend b) := by
  obtain ⟨z, hz⟩ : ∃ z, z = (s.count (Counts.addVerdict (outcomeOf w k pend) w b)).modUnits (UnitTable.setHeld n none) := ⟨_, rfl⟩
  obtain ⟨hretest, hsequence⟩ := setHeld_lists n s.units
  have hzunits : z.units = s.units.setHeld n none := by rw [hz]; rfl
  have hinsert := insertRetest_free (s := z) (e := ⟨v, k, w, b⟩) (by rw [hzunits, hretest]; exact hlen)
  rw [booked_pending h, ← hz, hinsert]
  refine ⟨?_, ?_, ⟨fun hp => ?_, fun _ _ => ⟨?_, ?_, ?_, ?_⟩, fun old rest _ hlist hfull => ?_⟩, ?_, fun p => ?_, ?_⟩
  · rw [if_neg (by omega), hz]
    exact counts_expired _ _ (addVerdict_expired ..)
  · rw [hz]; rfl
  · rw [h] at hp; cases hp
  · rw [hz]; exact congrArg (· ++ [_]) hretest
  · rw [hz]; exact congrArg (· + 1) hsequence
  · rw [hz]; rfl
  · rw [hz]; rfl
  · rw [hlist, List.length_cons] at hlen
    omega
  · rw [hz]
    exact held_setHeld n s.units
  · have halarm : (z.modUnits fun u => UnitTable.bump { u with retest := u.retest ++ [⟨v, k, w, b⟩] }).yieldAlarm = s.yieldAlarm := by
      rw [hz]; rfl
    rw [halarm, if_neg (by rintro ⟨h1, h2⟩; rw [h1] at h2; cases h2)]
    refine Eq.trans ?_ (BitVec.or_zero).symm
    rw [hz]
    cases p <;> rfl
  · rw [hz]
    cases n <;> rfl

/-- A unit that joins a full list, whose oldest entry expires (R122, R138). -/
theorem booked_of_evicted (h : pend = true) {old : RetestEntry} {rest : List RetestEntry} (hlist : s.units.retest = old :: rest)
    (hlen : 31 ≤ rest.length) : s.Booked n v k w pend b (s.booked n v k w pend b) := by
  obtain ⟨z, hz⟩ : ∃ z, z = (s.count (Counts.addVerdict (outcomeOf w k pend) w b)).modUnits (UnitTable.setHeld n none) := ⟨_, rfl⟩
  obtain ⟨hretest, hsequence⟩ := setHeld_lists n s.units
  have hzunits : z.units = s.units.setHeld n none := by rw [hz]; rfl
  have hinsert := insertRetest_full (s := z) (e := ⟨v, k, w, b⟩) (by rw [hzunits, hretest]; exact hlist) hlen
  have hfull : 32 ≤ s.units.retest.length := by rw [hlist, List.length_cons]; omega
  have hframe : s.OnlyLedger (z.insertRetest ⟨v, k, w, b⟩) :=
    .trans (t := z) (by rw [hz]; cases n <;> rfl) (State.OnlyLedger.insertRetest _ z)
  have hheld := insertRetest_held ⟨v, k, w, b⟩ z
  rw [booked_pending h, ← hz]
  obtain ⟨y, hy⟩ : ∃ y, y = z.modUnits fun u => UnitTable.bump { u with retest := rest } := ⟨_, rfl⟩
  rw [← hy] at hinsert
  obtain ⟨haccounts, hevents⟩ := ledger_expire (s := z) (x := y) (t := z.insertRetest ⟨v, k, w, b⟩) (v := old.serial)
    (hy ▸ SameLedger.modUnits _ z) (hinsert ▸ SameLedger.modUnits _ _)
  have hunits : (z.insertRetest ⟨v, k, w, b⟩).units = UnitTable.bump { y.units with retest := y.units.retest ++ [⟨v, k, w, b⟩] } := by
    rw [hinsert]
    exact congrArg (fun u : UnitTable => UnitTable.bump { u with retest := u.retest ++ [⟨v, k, w, b⟩] }) (State.expire_units ..)
  have hyunits : y.units = UnitTable.bump { s.units.setHeld n none with retest := rest } := by rw [hy, ← hzunits]; rfl
  have hzacc : z.accounts = { s.accounts with counts := Counts.addVerdict (outcomeOf w k pend) w b s.accounts.counts } := by rw [hz]; rfl
  have hzheld := held_setHeld n s.units
  rw [hzacc] at haccounts
  refine ⟨?_, ?_, ⟨fun hp => ?_, fun _ hroom => ?_, fun old' rest' _ hl _ => ?_⟩, ?_, fun p => ?_, hframe⟩
  · rw [haccounts, if_pos ⟨h, hfull⟩, addVerdict_expired]
  · rw [haccounts]
  · rw [h] at hp; cases hp
  · omega
  · obtain ⟨rfl, rfl⟩ := List.cons.inj (hlist.symm.trans hl)
    refine ⟨?_, ?_, ?_, ?_⟩
    · rw [hunits, hyunits]
      rfl
    · rw [hunits, hyunits]
      change (s.units.setHeld n none).listSequence + 1 + 1 = _
      rw [hsequence, BitVec.add_assoc]
      rfl
    · rw [haccounts]
    · rw [haccounts]
  · rw [hheld, hheld, hzunits]
    exact hzheld
  · have halarm : z.yieldAlarm = s.yieldAlarm := by rw [hz]; rfl
    have hport : (z.port p).events = (s.port p).events := by rw [hz]; cases p <;> rfl
    rw [hevents, halarm, hport]

theorem booked_booked (n : NestId) (v k : Nat) (w : Verdict) (pend : Bool) (b : Nat) (s : State) :
    s.Booked n v k w pend b (s.booked n v k w pend b) := by
  cases h : pend with
  | false => exact booked_of_settled rfl
  | true =>
    by_cases hlen : s.units.retest.length < 32
    · exact booked_of_listed rfl hlen
    · cases hlist : s.units.retest with
      | nil => simp [hlist] at hlen
      | cons old rest =>
        rw [hlist, List.length_cons] at hlen
        exact booked_of_evicted rfl hlist (by omega)

end

end Sys2Proof.Machine
end

section
/-! PROOF. The consecutive fails and the label job of a verdict (R29, R130, R153 to R157). -/

namespace Sys2Proof.Machine
open Sys2Proof

/-! ### The consecutive fails (R130) -/

/-- The consecutive-fail count after a verdict (R130). -/
def failsAfter (limit : Nat) (suspect : Bool) (fails : Nat) : Verdict → Nat
  | .pass => 0
  | .retest => fails
  | .fail => if limit = 0 ∨ suspect = true then 0 else fails + 1

theorem countFails_eq {c : PlanContent} {s : State} (hplan : s.plan = some c) {w : Verdict} {suspect : Bool}
    (hsuspect : suspect = decide (w = .fail ∧ 0 < c.policy.failLimit ∧ c.policy.failLimit ≤ s.units.failCount + 1)) :
    s.countFails w = { s with
      units := { s.units with
        failCount := failsAfter c.policy.failLimit suspect s.units.failCount w
        remaining := if suspect then 0 else s.units.remaining
        qualifiedA := !suspect && s.units.qualifiedA, qualifiedB := !suspect && s.units.qualifiedB }
      station := { s.station with
        unverified := suspect || s.station.unverified, events := s.station.events ||| (if suspect then 0x0100 else 0) }
      line := { s.line with
        unverified := suspect || s.line.unverified, events := s.line.events ||| (if suspect then 0x0100 else 0) } } := by
  subst hsuspect
  cases w with
  | pass => simp [State.countFails, State.modUnits, failsAfter]
  | retest => simp [State.countFails, failsAfter]
  | fail =>
    by_cases hzero : c.policy.failLimit = 0
    · simp [State.countFails, hplan, hzero, State.modUnits, failsAfter]
    · by_cases hroom : s.units.failCount + 1 < c.policy.failLimit
      · have hno : ¬(0 < c.policy.failLimit ∧ c.policy.failLimit ≤ s.units.failCount + 1) := by omega
        simp [State.countFails, hplan, hzero, hroom, State.modUnits, hno, failsAfter]
      · have hyes : 0 < c.policy.failLimit ∧ c.policy.failLimit ≤ s.units.failCount + 1 := by omega
        simp [State.countFails, hplan, hzero, hroom, hyes, withdraw_eq, failsAfter]
        rfl

/-! ### The label job (R29, R155 to R157) -/

/-- What the offer of a label job leaves of the part (R29, R155, R163). -/
structure State.Offered (n : NestId) (c : PlanContent) (j : Job) (s t : State) : Prop where
  job   : s.JobOffered n c (s.nest n) j t
  nest  : t.nest n = { s.nest n with state := (t.nest n).state, ticket := (t.nest n).ticket }
  left  : (t.nest n).state = .done ∨ (t.nest n).state = .labelWait
  ports : ∀ p, t.port p = { s.port p with events := (s.port p).events |||
    (if s.marker.queue = [] ∧ ∀ y ∈ s.marker.devices, y.role ≠ j.role then 0x0200 else 0) }
  frame : t = State.modNest n (fun _ => t.nest n) { s with marker := t.marker, station := t.station, line := t.line }

section
variable {n : NestId} {c : PlanContent} {j : Job} {s : State}

/-- The nest record of a nest whose label job enters the queue (R29, R155). -/
def Nest.labelled (m : Marker) (x : Nest) : Nest := { x with state := .done, ticket := some (m.ticket + 1) }

theorem offerJob_room (h : s.marker.queue.length < 8) : s.offerJob n j = (s.modNest n (Nest.labelled s.marker)).enqueue j := if_pos h

theorem offerJob_full (h : 8 ≤ s.marker.queue.length) : s.offerJob n j =
    (s.modNest n fun x => { x with state := .labelWait }).modMarker fun m => { m with waitList := m.waitList ++ [⟨n, j⟩] } :=
  if_neg (by omega)

/-- Nothing but the nest and the marker changes. -/
theorem offered_of_marker {f : Marker → Marker} {g : Nest → Nest} (hg : ∀ x, g x = { x with state := (g x).state, ticket := (g x).ticket })
    (hleft : ∀ x, (g x).state = .done ∨ (g x).state = .labelWait)
    (hrole : ¬(s.marker.queue = [] ∧ ∀ y ∈ s.marker.devices, y.role ≠ j.role))
    (hjob : s.JobOffered n c (s.nest n) j ((s.modNest n g).modMarker f)) : s.Offered n c j ((s.modNest n g).modMarker f) := by
  have hnest : ((s.modNest n g).modMarker f).nest n = g (s.nest n) := by cases n <;> rfl
  refine ⟨hjob, ?_, ?_, fun p => ?_, ?_⟩
  · rw [hnest]
    exact hg _
  · rw [hnest]
    exact hleft _
  · rw [if_neg hrole]
    have hzero (x : BitVec 16) : x ||| 0 = x := BitVec.or_zero
    rw [hzero]
    cases n <;> cases p <;> rfl
  · rw [hnest]
    cases n <;> rfl

theorem marker_modNest (g : Nest → Nest) : (s.modNest n g).marker = s.marker := by cases n <;> rfl

theorem offered_full (h : 8 ≤ s.marker.queue.length) : s.Offered n c j (s.offerJob n j) := by
  have hne : s.marker.queue ≠ [] := fun e => by rw [e] at h; simp at h
  rw [offerJob_full h]
  refine offered_of_marker (fun _ => rfl) (fun _ => .inr rfl) (fun e => hne e.1) ⟨fun _ => ⟨?_, ?_, ?_⟩, fun hr => ?_, fun _ hr => ?_,
    fun e => absurd e hne, fun _ => ?_, fun d y e => absurd e hne, fun e => absurd e hne⟩
  · cases n <;> rfl
  · cases n <;> rfl
  · cases n <;> rfl
  · omega
  · omega
  · cases n <;> rfl

theorem offered_behind (h : s.marker.queue ≠ []) (hroom : s.marker.queue.length < 8) : s.Offered n c j (s.offerJob n j) := by
  rw [offerJob_room hroom, enqueue_behind j (by rw [marker_modNest]; exact h)]
  refine offered_of_marker (fun _ => rfl) (fun _ => .inl rfl) (fun e => h e.1) ⟨fun hf => ?_, fun _ => ⟨?_, ?_, ?_, ?_⟩, fun _ _ => ?_,
    fun e => absurd e h, fun hb => ?_, fun d y e => absurd e h, fun e => absurd e h⟩
  · omega
  · cases n <;> rfl
  · cases n <;> rfl
  · cases n <;> rfl
  · cases n <;> rfl
  · cases n <;> rfl
  · have := Marker.served_busy (m := s.marker.append j) hb
    cases n <;> exact this

theorem labelTimeout_plan (hplan : s.plan = some c) : s.labelTimeout = c.marker.map MarkerPlan.timeout := by
  rw [State.labelTimeout, hplan]

theorem offered_head (hplan : s.plan = some c) (h : s.marker.queue = []) (hrole : ∃ y ∈ s.marker.devices, y.role = j.role) :
    s.Offered n c j (s.offerJob n j) := by
  have htimeout : (s.modNest n (Nest.labelled s.marker)).labelTimeout = c.marker.map MarkerPlan.timeout := by
    rw [labelTimeout_plan (c := c) (by cases n <;> exact hplan)]
  rw [offerJob_room (by rw [h]; decide), enqueue_head (by rw [marker_modNest]; exact h) (by rw [marker_modNest]; exact hrole), htimeout]
  have hno : ¬∀ y ∈ s.marker.devices, y.role ≠ j.role := fun hn => by
    obtain ⟨y, hy, he⟩ := hrole
    exact hn y hy he
  obtain ⟨m, hm⟩ : ∃ m, m = { s.marker.append j with head := ⟨s.marker.readyDevice j.role, 0, false, c.marker.map MarkerPlan.timeout⟩ } := ⟨_, rfl⟩
  have hqueue : m.queue = [j.ticketed s.marker] := by
    rw [hm]
    change s.marker.queue ++ _ = _
    rw [h]
    rfl
  have hmarker : ((s.modNest n (Nest.labelled s.marker)).modMarker fun m => Marker.served { m.append j with
      head := ⟨m.readyDevice j.role, 0, false, c.marker.map MarkerPlan.timeout⟩ }).marker = m.served := by
    rw [hm]
    cases n <;> rfl
  refine offered_of_marker (fun _ => rfl) (fun _ => .inl rfl) (fun e => hno e.2) ⟨fun hf => ?_, fun _ => ⟨?_, ?_, ?_, ?_⟩,
    fun hne => absurd h hne, fun _ _ => ?_, fun hb => ?_, fun d y _ hb hnone hbound hy => ?_, fun _ hn => absurd hn hno⟩
  · rw [h] at hf
    simp at hf
  · cases n <;> rfl
  · cases n <;> rfl
  · cases n <;> rfl
  · cases n <;> rfl
  · rw [hmarker]
    have hserved : m.served = { m with bus := m.served.bus } := rfl
    refine hserved.trans ?_
    generalize m.served.bus = b
    rw [hm] at hqueue ⊢
    exact congrArg (fun q => ({ s.marker.append j with
      head := ⟨s.marker.readyDevice j.role, 0, false, c.marker.map MarkerPlan.timeout⟩, queue := q, bus := b } : Marker)) hqueue
  · rw [hmarker, Marker.served_busy (by rw [hm]; exact hb), hm]
    rfl
  · rw [hmarker] at hbound ⊢
    have hbound' : m.head.bound = some d := hbound
    have hfind : s.marker.readyDevice j.role = some d := by rw [hm] at hbound'; exact hbound'
    have hdev : m.devices = s.marker.devices := by rw [hm]; rfl
    rw [Marker.served_idle (by rw [hm]; exact hb),
      Marker.nextWork_page (fun z hz hneg => absurd hneg (hnone z (hdev ▸ hz))) hqueue hbound' (hdev.symm ▸ hy)
        (readyDevice_ready hfind hy) (by rw [hm])]
    rw [hm]
    rfl

theorem offered_lost (h : s.marker.queue = []) (hwait : s.marker.waitList = []) (hrole : ∀ y ∈ s.marker.devices, y.role ≠ j.role) :
    s.Offered n c j (s.offerJob n j) := by
  rw [offerJob_room (by rw [h]; decide), enqueue_lost (by rw [marker_modNest]; exact h) (by rw [marker_modNest]; exact hwait)
    (by rw [marker_modNest]; exact hrole)]
  obtain ⟨f, hf⟩ : ∃ f : Marker → Marker, f = fun m => (m.lost j []).served := ⟨_, rfl⟩
  have hmarker : f s.marker = { s.marker with
      ticket := s.marker.ticket + 1, enqueued := s.marker.enqueued + 1, failed := s.marker.failed + 1
      head := Head.clear, bus := (f s.marker).bus
      lastFailed := some ⟨{ j with ticket := some (s.marker.ticket + 1) }, .noDevice, none, 0⟩ } := by
    rw [hf]
    exact congrArg (fun q => ({ (s.marker.lost j []).served with queue := q } : Marker)) h.symm
  have hbus (hb : s.marker.bus ≠ none) : (f s.marker).bus = s.marker.bus := by
    rw [hf]
    exact Marker.served_busy (m := s.marker.lost j []) hb
  rw [← hf]
  obtain ⟨m, hm⟩ : ∃ m, m = f s.marker := ⟨_, rfl⟩
  rw [← hm] at hmarker hbus
  have htm : (((s.modNest n (Nest.labelled s.marker)).modMarker f).latchBoth .labelFailed).marker = m := by
    rw [hm]
    cases n <;> rfl
  have hexists : ¬∃ y ∈ s.marker.devices, y.role = j.role := fun ⟨y, hy, he⟩ => hrole y hy he
  refine ⟨⟨fun hfull => ?_, fun _ => ⟨?_, ?_, ?_, ?_⟩, fun hne => absurd h hne, fun _ he => absurd he hexists, fun hb => ?_,
    fun d y _ _ _ hbound => ?_, fun _ _ => ?_⟩, ?_, ?_, fun p => ?_, ?_⟩
  · rw [h] at hfull
    simp at hfull
  · cases n <;> rfl
  · cases n <;> rfl
  · rw [htm, hmarker]
  · rw [htm, hmarker]
  · rw [htm, hbus hb]
  · rw [htm, hmarker] at hbound
    cases hbound
  · rw [htm]
    exact hmarker
  · cases n <;> rfl
  · cases n <;> exact .inl rfl
  · rw [if_pos ⟨h, hrole⟩]
    cases n <;> cases p <;> rfl
  · cases n <;> rfl

/-- Every offer of a label job (R29, R155). -/
theorem offered (n : NestId) (j : Job) (hplan : s.plan = some c) (hwait : s.marker.queue ≠ [] ∨ s.marker.waitList = []) :
    s.Offered n c j (s.offerJob n j) := by
  by_cases hfull : 8 ≤ s.marker.queue.length
  · exact offered_full hfull
  by_cases hqueue : s.marker.queue = []
  · by_cases hrole : ∃ y ∈ s.marker.devices, y.role = j.role
    · exact offered_head hplan hqueue hrole
    · exact offered_lost hqueue (hwait.resolve_left (not_not_intro hqueue)) fun y hy he => hrole ⟨y, hy, he⟩
  · exact offered_behind hqueue (by omega)

end

end Sys2Proof.Machine
end

section
/-! PROOF. The verdict of a production unit (R29, R105, R107 to R110, R122, R130, R134, R153 to R155). -/

namespace Sys2Proof.Machine
open Sys2Proof

section
variable {n : NestId} {c : PlanContent} {x : Nest} {v k : Nat} {r w : Verdict} {last pend suspect : Bool} {s : State}

/-- The bin of a production verdict (R108). -/
def ruledBin (c : PlanContent) (w : Verdict) (x : Nest) : Nat := c.bins.binOf w (x.ruledAs c).detected

/-- The books of the part after a production verdict, before the consecutive fails are counted (R109, R122, R134). -/
def State.bookedAs (n : NestId) (c : PlanContent) (v k : Nat) (w : Verdict) (pend : Bool) (s : State) : State :=
  (s.modNest n (Nest.ruledAs c)).booked n v k w pend (ruledBin c w (s.nest n))

theorem ruled_eq (hx : s.nest n = x) (h : s.AtRuling n c x v k r w last pend suspect) :
    s.ruled n c = (s.bookedAs n c v k w pend).countFails w := by
  subst hx
  have hruled : s.ruled n c = (s.modNest n (Nest.ruledAs c)).takeOutcome n
      (attemptPolicy ((s.nest n).resolve c.limits) ((s.nest n).attempt.getD 0) c.policy.maxAttempts).2.1
      (attemptPolicy ((s.nest n).resolve c.limits) ((s.nest n).attempt.getD 0) c.policy.maxAttempts).1
      (c.bins.binOf (attemptPolicy ((s.nest n).resolve c.limits) ((s.nest n).attempt.getD 0) c.policy.maxAttempts).1
        ((s.nest n).ruledAs c).detected) := by
    cases n <;> rfl
  rw [hruled, policy_of_ruling h]
  have hself : (s.modNest n (Nest.ruledAs c)).nest n = (s.nest n).ruledAs c := State.modNest_nest ..
  obtain ⟨-, hserial, hattempt⟩ := State.UnitsLaw.ruledAs_unit c (s.nest n)
  exact takeOutcome_eq (by rw [hself, hserial, h.serial]) (by rw [hself, hattempt, h.attempt])

theorem bookedAs_booked (n : NestId) (c : PlanContent) (v k : Nat) (w : Verdict) (pend : Bool) (s : State) :
    (s.modNest n (Nest.ruledAs c)).Booked n v k w pend (ruledBin c w (s.nest n)) (s.bookedAs n c v k w pend) :=
  booked_booked ..

theorem bookedAs_frame (n : NestId) (c : PlanContent) (v k : Nat) (w : Verdict) (pend : Bool) (s : State) :
    (s.modNest n (Nest.ruledAs c)).OnlyLedger (s.bookedAs n c v k w pend) := (bookedAs_booked ..).frame

theorem bookedAs_plan (hplan : s.plan = some c) : (s.bookedAs n c v k w pend).plan = some c := by
  rw [show (s.bookedAs n c v k w pend) = _ from bookedAs_frame n c v k w pend s]
  cases n <;> exact hplan

theorem bookedAs_failCount : (s.bookedAs n c v k w pend).units.failCount = s.units.failCount := by
  rw [show (s.bookedAs n c v k w pend) = _ from bookedAs_frame n c v k w pend s]
  cases n <;> rfl

/-- The part after a production verdict, before its label job (R107 to R110, R130). -/
theorem ruled_whole (hplan : s.plan = some c) (hx : s.nest n = x) (h : s.AtRuling n c x v k r w last pend suspect) :
    s.ruled n c = { s.bookedAs n c v k w pend with
      units := { (s.bookedAs n c v k w pend).units with
        failCount := failsAfter c.policy.failLimit suspect s.units.failCount w
        remaining := if suspect then 0 else s.units.remaining
        qualifiedA := !suspect && s.units.qualifiedA, qualifiedB := !suspect && s.units.qualifiedB }
      station := { s.station with
        unverified := suspect || s.station.unverified
        events := (s.bookedAs n c v k w pend).station.events ||| (if suspect then 0x0100 else 0) }
      line := { s.line with
        unverified := suspect || s.line.unverified
        events := (s.bookedAs n c v k w pend).line.events ||| (if suspect then 0x0100 else 0) } } := by
  have hframe : s.bookedAs n c v k w pend = _ := bookedAs_frame n c v k w pend s
  have hcount := countFails_eq (bookedAs_plan (n := n) (v := v) (k := k) (w := w) (pend := pend) hplan) (w := w) (suspect := suspect)
    (by rw [bookedAs_failCount]; exact h.suspect)
  rw [ruled_eq hx h, hcount]
  obtain ⟨y, hy⟩ : ∃ y, y = s.bookedAs n c v k w pend := ⟨_, rfl⟩
  rw [← hy] at hframe ⊢
  clear hcount hy
  cases n
  · rw [hframe]; rfl
  · rw [hframe]; rfl

/-- What the last stage of a verdict does: the nest leaves the test, its label job is offered, NEST_x_DONE is latched (R29). -/
structure State.TestEnded (n : NestId) (lost : Prop) [Decidable lost] (s t : State) : Prop where
  nest  : t.nest n = { s.nest n with state := (t.nest n).state, ticket := (t.nest n).ticket }
  ports : ∀ p, t.port p = { s.port p with
    events := (s.port p).events ||| (if lost then 0x0200 else 0) ||| nestDoneBit n }
  frame : t = State.modNest n (fun _ => t.nest n) { s with marker := t.marker, station := t.station, line := t.line }

theorem nestDone_latch (n : NestId) (p : PortId) (s : State) : (s.latchBoth (.nestDone n)).port p = { s.port p with
    events := (s.port p).events ||| nestDoneBit n } := by
  cases n <;> cases p <;> rfl

/-- The label job of a production verdict (R153, R154). -/
def verdictJob (n : NestId) (c : PlanContent) (x : Nest) (v k : Nat) (w : Verdict) (b : Nat) (s : State) : Job :=
  ⟨none, v, n, decide (w ≠ .pass), b, k, s.accounts.shift, c.id, if w = .pass then .label else .reject, false, 0,
    (List.range 4).map fun i => ((x.worst[i]?).join).map (·.margin)⟩

/-- Whether the label job of a verdict fails as it is offered (R156, R163). -/
def State.jobLost (c : PlanContent) (w : Verdict) (pend : Bool) (s : State) : Prop :=
  c.marker ≠ none ∧ pend = false ∧ s.marker.queue = [] ∧ ∀ y ∈ s.marker.devices, y.role ≠ if w = .pass then .label else .reject

theorem ruled_self (hx : s.nest n = x) : (s.ruled n c).nest n = x.ruledAs c := by
  rw [ruled_nest, State.modNest_nest, hx]

theorem ruled_other : (s.ruled n c).nest (otherNest n) = s.nest (otherNest n) := by
  rw [ruled_nest]
  cases n <;> rfl

/-- What the books keep, field by field. -/
theorem bookedAs_fields (n : NestId) (c : PlanContent) (v k : Nat) (w : Verdict) (pend : Bool) (s : State) :
    (s.bookedAs n c v k w pend).units = { s.units with
      retest := (s.bookedAs n c v k w pend).units.retest, listSequence := (s.bookedAs n c v k w pend).units.listSequence
      heldA := (s.bookedAs n c v k w pend).units.heldA, heldB := (s.bookedAs n c v k w pend).units.heldB } ∧
    (s.bookedAs n c v k w pend).marker = s.marker ∧ (s.bookedAs n c v k w pend).loader = s.loader ∧
    (s.bookedAs n c v k w pend).lines = s.lines ∧ (s.bookedAs n c v k w pend).hold = s.hold ∧
    (s.bookedAs n c v k w pend).straps = s.straps ∧ (s.bookedAs n c v k w pend).freeCount = s.freeCount ∧
    (s.bookedAs n c v k w pend).pending = s.pending := by
  have hframe : s.bookedAs n c v k w pend = _ := bookedAs_frame n c v k w pend s
  generalize s.bookedAs n c v k w pend = y at hframe ⊢
  cases n
  · refine ⟨congrArg State.units hframe, ?_, ?_, ?_, ?_, ?_, ?_, ?_⟩ <;> rw [hframe] <;> rfl
  · refine ⟨congrArg State.units hframe, ?_, ?_, ?_, ?_, ?_, ?_, ?_⟩ <;> rw [hframe] <;> rfl

/-- What stands at the end of the test as the verdict left it. -/
theorem testEnded_fields {lost : Prop} [Decidable lost] {t : State} (hplan : s.plan = some c) (hx : s.nest n = x)
    (h : s.AtRuling n c x v k r w last pend suspect) (ht : (s.ruled n c).TestEnded n lost t) :
    t.accounts = (s.bookedAs n c v k w pend).accounts ∧
    t.units = { (s.bookedAs n c v k w pend).units with
        failCount := failsAfter c.policy.failLimit suspect s.units.failCount w
        remaining := if suspect then 0 else s.units.remaining
        qualifiedA := !suspect && s.units.qualifiedA, qualifiedB := !suspect && s.units.qualifiedB } ∧
    t.loader = s.loader ∧ t.lines = s.lines ∧ t.hold = s.hold ∧ t.straps = s.straps ∧ t.freeCount = s.freeCount ∧
    t.pending = s.pending ∧ t.nest (otherNest n) = s.nest (otherNest n) := by
  obtain ⟨-, -, hloader, hlines, hhold, hstraps, hfree, hpending⟩ := bookedAs_fields n c v k w pend s
  have hwhole := ruled_whole hplan hx h
  have hother := ruled_other (n := n) (c := c) (s := s)
  have hframe := ht.frame
  generalize t.nest n = m at hframe
  generalize s.ruled n c = y at hwhole hother hframe
  rw [hframe]
  refine ⟨?_, ?_, ?_, ?_, ?_, ?_, ?_, ?_, ?_⟩
  · rw [hwhole]; cases n <;> rfl
  · rw [hwhole]; cases n <;> rfl
  · rw [← hloader, hwhole]; cases n <;> rfl
  · rw [← hlines, hwhole]; cases n <;> rfl
  · rw [← hhold, hwhole]; cases n <;> rfl
  · rw [← hstraps, hwhole]; cases n <;> rfl
  · rw [← hfree, hwhole]; cases n <;> rfl
  · rw [← hpending, hwhole]; cases n <;> rfl
  · rw [← hother]; cases n <;> rfl

/-- The nest record at the end of the test (R105, R107 to R109). -/
theorem testEnded_nest {lost : Prop} [Decidable lost] {t : State} (hx : s.nest n = x)
    (h : s.AtRuling n c x v k r w last pend suspect) (ht : (s.ruled n c).TestEnded n lost t) :
    (t.nest n).detected = (x.ruledAs c).detected ∧ t.nest n = { x with
      state := (t.nest n).state, verdict := some w, bin := some (ruledBin c w x), detected := (t.nest n).detected
      failList := (t.nest n).failList, overflow := (t.nest n).overflow, ticket := (t.nest n).ticket
      causeOverload := x.causeOverload || decide (r = .retest ∧ x.hasStatus .overload = true)
      causeNoisy := x.causeNoisy || decide (r = .retest ∧ x.hasStatus .overload = false) } := by
  have hnest := ht.nest
  have hruled := ruledAs_eq h
  rw [ruled_self hx] at hnest
  generalize t.nest n = m at hnest ⊢
  refine ⟨by rw [hnest], ?_⟩
  rw [ruledBin]
  generalize x.ruledAs c = z at hnest hruled ⊢
  rw [hruled] at hnest
  rw [hnest]

/-- The events of the ports at the end of the test (R130, R139, R163, R174). -/
theorem testEnded_ports {lost : Prop} [Decidable lost] {t : State} (hplan : s.plan = some c) (hx : s.nest n = x)
    (h : s.AtRuling n c x v k r w last pend suspect) (ht : (s.ruled n c).TestEnded n lost t) (p : PortId) :
    t.port p = { s.port p with
      unverified := suspect || (s.port p).unverified
      events := (s.port p).events ||| nestDoneBit n ||| (if suspect then 0x0100 else 0) |||
        (if s.yieldAlarm = false ∧ t.yieldAlarm = true then 0x0800 else 0) ||| (if lost then 0x0200 else 0) } := by
  obtain ⟨haccounts, -, hloader, -⟩ := testEnded_fields hplan hx h ht
  have hbook := (bookedAs_booked n c v k w pend s).events p
  have hplanL := bookedAs_plan (n := n) (v := v) (k := k) (w := w) (pend := pend) hplan
  have halarm : t.yieldAlarm = (s.bookedAs n c v k w pend).yieldAlarm :=
    yieldAlarm_congr (by rw [hplanL, ← hplan]; exact congrArg (fun l : Loader => l.active.map (·.content)) hloader) haccounts
  rw [modNest_yieldAlarm, ← halarm] at hbook
  have hwhole := ruled_whole hplan hx h
  have hevents : ((s.ruled n c).port p) = { s.port p with
      unverified := suspect || (s.port p).unverified
      events := ((s.bookedAs n c v k w pend).port p).events ||| (if suspect then 0x0100 else 0) } := by
    generalize s.ruled n c = y at hwhole
    rw [hwhole]
    cases p <;> rfl
  have hold : (((s.modNest n (Nest.ruledAs c)).port p)).events = (s.port p).events := by cases n <;> cases p <;> rfl
  rw [ht.ports p, hevents, hbook, hold]
  generalize (s.port p).events = e0
  generalize nestDoneBit n = e1
  generalize (if suspect = true then (0x0100 : BitVec 16) else 0) = e2
  generalize (if s.yieldAlarm = false ∧ t.yieldAlarm = true then (0x0800 : BitVec 16) else 0) = e3
  generalize (if lost then (0x0200 : BitVec 16) else 0) = e4
  have hac : e0 ||| e3 ||| e2 ||| e4 ||| e1 = e0 ||| e1 ||| e2 ||| e3 ||| e4 := by ac_rfl
  rw [← hac]

/-- A production verdict whose last stage has ended the test and offered the label job (R29). -/
theorem verdictMade_of {t : State} [Decidable (s.jobLost c w pend)] (hplan : s.plan = some c) (hx : s.nest n = x)
    (h : s.AtRuling n c x v k r w last pend suspect) (ht : (s.ruled n c).TestEnded n (s.jobLost c w pend) t)
    (hunlabelled : c.marker = none ∨ pend = true → (t.nest n).state = .done ∧ (t.nest n).ticket = x.ticket ∧ t.marker = s.marker)
    (hlabelled : c.marker ≠ none → pend = false → s.JobOffered n c x (verdictJob n c x v k w (ruledBin c w x) s) t) :
    s.VerdictMade n c x v k r w last pend suspect (ruledBin c w x) t := by
  obtain ⟨haccounts, hunits, hloader, hlines, hhold, hstraps, hfree, hpending, hother⟩ := testEnded_fields hplan hx h ht
  obtain ⟨hdetected, hnest⟩ := testEnded_nest hx h ht
  obtain ⟨hcounts, hledger, hsettled, hheld, -, -⟩ := hx ▸ bookedAs_booked n c v k w pend s
  obtain ⟨hbooks, -⟩ := bookedAs_fields n c v k w pend s
  have hretest : w = .retest → last = false := fun hw => by
    have hrec := h.recorded
    rw [hw] at hrec
    by_cases hr : r = .retest ∧ last = true
    · rw [if_pos hr] at hrec; cases hrec
    · rw [if_neg hr] at hrec
      exact Bool.eq_false_iff.mpr fun hl => hr ⟨hrec.symm, hl⟩
  rw [addVerdict_eq w k _ h.pending hretest] at hcounts
  constructor
  case bin => rw [hdetected, ruledBin]
  case detected => rw [hdetected, ruledAs_detected h]
  case nest => exact hnest
  case other => exact hother
  case counts =>
    rw [haccounts, hcounts]
    cases n <;> rfl
  case bins =>
    intro i
    have hbin := addBin_get (ruledBin c w x) s.accounts.counts i
    rw [haccounts, hcounts]
    cases n <;> exact hbin
  case accounts =>
    rw [haccounts]
    refine hledger.trans ?_
    cases n <;> rfl
  case settled =>
    have hlist : t.units.retest = (s.bookedAs n c v k w pend).units.retest := by rw [hunits]
    have hsequence : t.units.listSequence = (s.bookedAs n c v k w pend).units.listSequence := by rw [hunits]
    obtain ⟨h1, h2, h3⟩ := hsettled
    constructor
    all_goals rw [hlist, hsequence, haccounts]
    · cases n <;> exact h1
    · cases n <;> exact h2
    · cases n <;> exact h3
  case units =>
    rw [hunits, hbooks]
    cases w <;> rfl
  case held =>
    obtain ⟨hself, hothers⟩ := hheld
    rw [hunits]
    cases n <;> exact ⟨hself, hothers⟩
  case ports =>
    intro p
    refine (testEnded_ports hplan hx h ht p).trans (congrArg (fun e : BitVec 16 => ({ s.port p with
      unverified := suspect || (s.port p).unverified
      events := (s.port p).events ||| nestDoneBit n ||| (if suspect then 0x0100 else 0) |||
        (if s.yieldAlarm = false ∧ t.yieldAlarm = true then 0x0800 else 0) ||| e } : Port)) ?_)
    exact if_congr Iff.rfl rfl rfl
  case unlabelled => exact hunlabelled
  case labelled => exact fun j hm hp hj => hj ▸ hlabelled hm hp
  case rest => exact ⟨hloader, hlines, hhold, hstraps, hfree, hpending⟩

/-! ### The label job of the verdict (R153 to R155) -/

theorem jobRole_outcomeOf (w : Verdict) (k : Nat) (pend : Bool) : (outcomeOf w k pend).jobRole =
    if pend then none else some (if w = .pass then .label else .reject) := by
  cases pend
  · by_cases hw : w = .pass
    · by_cases hk : k = 1 <;> simp [outcomeOf, hw, hk, OutcomeClass.jobRole]
    · simp [outcomeOf, hw, OutcomeClass.jobRole]
  · rfl

theorem outcomeClass_eq (hx : s.nest n = x) (h : s.AtRuling n c x v k r w last pend suspect) :
    s.outcomeClass n c = outcomeOf w k pend := by
  rw [State.outcomeClass, hx, policy_of_ruling h]

theorem productionVerdict_unlabelled (hx : s.nest n = x) (h : s.AtRuling n c x v k r w last pend suspect)
    (hno : c.marker = none ∨ pend = true) : s.productionVerdict n c = (s.ruled n c).modNest n fun x => { x with state := .done } := by
  rw [productionVerdict_eq, outcomeClass_eq hx h, jobRole_outcomeOf]
  rcases hno with hm | hp
  · rw [hm]
  · rw [hp]
    cases c.marker <;> rfl

theorem ruled_accounts_shift (hplan : s.plan = some c) (hx : s.nest n = x) (h : s.AtRuling n c x v k r w last pend suspect) :
    (s.ruled n c).accounts.shift = s.accounts.shift := by
  rw [ruled_whole hplan hx h]
  change (s.bookedAs n c v k w pend).accounts.shift = _
  rw [(bookedAs_booked n c v k w pend s).accounts]
  cases n <;> rfl

theorem labelJob_eq (hplan : s.plan = some c) (hx : s.nest n = x) (h : s.AtRuling n c x v k r w last pend suspect) :
    (s.ruled n c).labelJob n c (if w = .pass then .label else .reject) = verdictJob n c x v k w (ruledBin c w x) s := by
  have hruled := ruledAs_eq h
  have hself := ruled_self (c := c) hx
  have hserial := h.serial
  have hattempt := h.attempt
  rw [State.labelJob, ruled_accounts_shift hplan hx h, verdictJob, hself, hruled]
  simp [hserial, hattempt, ruledBin]

theorem productionVerdict_labelled (hplan : s.plan = some c) (hx : s.nest n = x) (h : s.AtRuling n c x v k r w last pend suspect)
    (hm : c.marker ≠ none) (hp : pend = false) :
    s.productionVerdict n c = (s.ruled n c).offerJob n (verdictJob n c x v k w (ruledBin c w x) s) := by
  obtain ⟨m, hm⟩ := Option.ne_none_iff_exists'.mp hm
  rw [productionVerdict_eq, outcomeClass_eq hx h, jobRole_outcomeOf, hm, hp, ← labelJob_eq hplan hx h]
  rfl

theorem ruled_marker (hplan : s.plan = some c) (hx : s.nest n = x) (h : s.AtRuling n c x v k r w last pend suspect) :
    (s.ruled n c).marker = s.marker := by
  rw [ruled_whole hplan hx h]
  exact (bookedAs_fields n c v k w pend s).2.1

theorem ruled_plan (hplan : s.plan = some c) (hx : s.nest n = x) (h : s.AtRuling n c x v k r w last pend suspect) :
    (s.ruled n c).plan = some c := by
  rw [ruled_whole hplan hx h]
  exact bookedAs_plan hplan

/-- What an offer says depends on the marker before it, on the ticket, and on the nest and the marker after it. -/
theorem State.JobOffered.transfer {y z : State} {j : Job} {a : Nest} {t : State} (hjob : y.JobOffered n c a j z)
    (hmarker : y.marker = s.marker) (hticket : a.ticket = x.ticket) (hnest : t.nest n = z.nest n) (ht : t.marker = z.marker) :
    s.JobOffered n c x j t := by
  obtain ⟨h1, h2, h3, h4, h5, h6, h7⟩ := hjob
  rw [hmarker] at h1 h2 h3 h4 h5 h6 h7
  rw [hticket, ← hnest, ← ht] at h1
  rw [← hnest, ← ht] at h2
  rw [← ht] at h3 h4 h5 h6 h7
  exact ⟨h1, h2, h3, h4, h5, h6, h7⟩

/-- The verdict of a production unit (R29, R107 to R110, R122, R130, R134, R153 to R155). -/
theorem verdictMade (hplan : s.plan = some c) (hx : s.nest n = x) (h : s.AtRuling n c x v k r w last pend suspect) :
    s.VerdictMade n c x v k r w last pend suspect (ruledBin c w x) (s.makeVerdict n) := by
  have hkind : (s.nest n).kind ≠ some .reference := by rw [hx, h.kind]; decide
  have hmake : s.makeVerdict n = (s.productionVerdict n c).latchBoth (.nestDone n) := by
    simp only [State.makeVerdict, hplan, if_neg hkind]
  have hzero (e : BitVec 16) : e ||| 0 = e := BitVec.or_zero
  have hmarker := ruled_marker hplan hx h
  have hself := ruled_self (c := c) hx
  by_cases hno : c.marker = none ∨ pend = true
  · have hlost : ¬s.jobLost c w pend := fun ⟨hm, hp, _⟩ => hno.elim hm fun hp' => by rw [hp] at hp'; cases hp'
    have : Decidable (s.jobLost c w pend) := isFalse hlost
    rw [hmake, productionVerdict_unlabelled hx h hno]
    refine verdictMade_of hplan hx h ⟨?_, fun p => ?_, ?_⟩ (fun _ => ⟨?_, ?_, ?_⟩) (fun hm hp => ?_)
    · cases n <;> rfl
    · rw [nestDone_latch, if_neg hlost, hzero]
      cases n <;> cases p <;> rfl
    · cases n <;> rfl
    · cases n <;> rfl
    · have hticket : (x.ruledAs c).ticket = x.ticket := by rw [ruledAs_eq h]
      rw [← hticket, ← hself]
      cases n <;> rfl
    · rw [← hmarker]
      cases n <;> rfl
    · rcases hno with h | h
      · exact absurd h hm
      · rw [hp] at h; cases h
  · obtain ⟨hm, hp⟩ := not_or.mp hno
    have hp : pend = false := Bool.eq_false_iff.mpr hp
    have hwait : (s.ruled n c).marker.queue ≠ [] ∨ (s.ruled n c).marker.waitList = [] := by
      rw [hmarker]
      exact h.label.resolve_left hm
    obtain ⟨hjob, hnest, -, hports, hframe⟩ := offered n (verdictJob n c x v k w (ruledBin c w x) s) (ruled_plan hplan hx h) hwait
    rw [hself] at hjob
    rw [hmake, productionVerdict_labelled hplan hx h hm hp]
    generalize (s.ruled n c).offerJob n (verdictJob n c x v k w (ruledBin c w x) s) = y at hjob hnest hports hframe
    have : Decidable (s.jobLost c w pend) := decidable_of_iff ((s.ruled n c).marker.queue = [] ∧
      ∀ z ∈ (s.ruled n c).marker.devices, z.role ≠ (verdictJob n c x v k w (ruledBin c w x) s).role) (by
        rw [hmarker]
        exact ⟨fun hl => ⟨hm, hp, hl.1, hl.2⟩, fun hl => ⟨hl.2.2.1, hl.2.2.2⟩⟩)
    refine verdictMade_of hplan hx h ⟨?_, fun p => ?_, ?_⟩ (fun hno' => absurd hno' hno) fun _ _ => ?_
    · refine Eq.trans ?_ (hnest.trans ?_)
      · cases n <;> rfl
      · cases n <;> rfl
    · rw [nestDone_latch, hports]
      refine congrArg (fun e : BitVec 16 => ({ (s.ruled n c).port p with
        events := ((s.ruled n c).port p).events ||| e ||| nestDoneBit n } : Port)) (if_congr ?_ rfl rfl)
      rw [hmarker]
      exact ⟨fun hl => ⟨hm, hp, hl.1, hl.2⟩, fun hl => ⟨hl.2.2.1, hl.2.2.2⟩⟩
    · refine (congrArg (State.latchBoth (.nestDone n)) hframe).trans ?_
      cases n <;> rfl
    · refine hjob.transfer hmarker ?_ ?_ rfl
      · rw [ruledAs_eq h]
      · cases n <;> rfl

end

end Sys2Proof.Machine
end

section
/-! PROOF. The completion that makes the verdict (R29, R79, R111, R128, R134). -/

namespace Sys2Proof.Machine
open Sys2Proof

section
variable {n : NestId} {h : HalfId} {c : PlanContent} {x : Nest} {s : State}

/-! ### The last outstanding window (R29, R82) -/

theorem outstandingFor_freed (k : Claimant) (g : BitVec 16) (a : Half) :
    ({ a with state := .free } : Half).outstandingFor k g = false := by
  simp [Half.outstandingFor]

/-- With its last outstanding window free the nest has none (R29, R82). -/
theorem recordTaken_outstanding (hat : s.AtLastCompletion n h c x) : (s.recordTaken n h x).outstanding n = 0 := by
  have htag : x.tag = (s.nest n).tag := by rw [hat.record, (take_grows ..).tag]
  have hout : (s.half h).outstandingFor (.nest n) (s.nest n).tag = true := by
    simp [Half.outstandingFor, hat.analysed, hat.owner, hat.tag]
  have hlast := hat.last
  have hhalf (g : HalfId) := recordTaken_half n h x s g
  have hself (u : State) : u.outstanding n = ((u.half .zero).outstandingFor (.nest n) (u.nest n).tag).toNat +
      ((u.half .one).outstandingFor (.nest n) (u.nest n).tag).toNat := rfl
  rw [hself] at hlast ⊢
  rw [recordTaken_nest, htag, hhalf, hhalf]
  cases h
  · rw [hout] at hlast
    rw [if_pos rfl, if_neg (by decide), outstandingFor_freed]
    simpa using hlast
  · rw [hout] at hlast
    rw [if_pos rfl, if_neg (by decide), outstandingFor_freed]
    simpa using hlast

/-- The last completion of an ANALYSING nest comes to the verdict (R29). -/
theorem exec_lastCompletion (hat : s.AtLastCompletion n h c x) : exec .analysisCompletion s =
    .next ((s.recordTaken n h x).makeVerdict n).settleActivation := by
  have hstate : x.state = .analysing := by rw [hat.record, (take_grows ..).state, hat.state]
  have hempty : ((s.recordTaken n h x).makeVerdict n).settleActivation.engine.queue = [] := by
    rw [State.settleActivation_engine, State.makeVerdict_engine, recordTaken_engine, analysed_empty hat.queue]
  rw [completion_taken hat.held hat.under hat.owner hat.tag hat.plan (.inl hat.state) hat.record,
    if_pos ⟨hstate, recordTaken_outstanding hat⟩, beginAnalysis_empty hempty]

/-- What the completion leaves of the engine, the halves, the chain and the generator (R79). -/
theorem lastCompletion_completed (hat : s.AtLastCompletion n h c x) {t : State} (hcapture : t.capture = (s.recordTaken n h x).capture)
    (hengine : t.engine = (s.recordTaken n h x).engine) (hchain : t.chain = (s.recordTaken n h x).chain)
    (hgen : t.gen = (s.recordTaken n h x).gen) : s.Completed h t := by
  have hhalf (g : HalfId) : t.half g = if g = h then { s.half h with state := .free } else s.half g := by
    rw [← recordTaken_half n h x s g]
    cases g
    · exact congrArg Capture.half0 hcapture
    · exact congrArg Capture.half1 hcapture
  obtain ⟨hunder, -⟩ := analysed_engine h s
  refine ⟨by rw [hhalf, if_pos rfl], fun g hg => by rw [hhalf, if_neg hg], ?_, ?_, ?_, ?_⟩
  · rw [hcapture, recordTaken_rest]
    cases n <;> rfl
  · rw [hengine, recordTaken_engine]
    exact ⟨hunder, analysed_empty hat.queue⟩
  · rw [hchain, recordTaken_rest]
    cases n <;> rfl
  · rw [hgen, recordTaken_rest]
    cases n <;> rfl

/-! ### A production unit (R29) -/

/-- What a verdict says of a state that differs in the record of the nest, the engine and the halves alone. -/
theorem State.VerdictMade.transfer {e : Engine} {k : Capture} {v a b : Nat} {r w : Verdict} {last pend suspect : Bool} {t : State}
    (hv : (State.modNest n (fun _ => x) { s with engine := e, capture := k }).VerdictMade n c x v a r w last pend suspect b t) :
    s.VerdictMade n c x v a r w last pend suspect b t := by
  obtain ⟨hbin, hdetected, hnest, hother, hcounts, hbins, haccounts, ⟨h1, h2, h3⟩, hunits, hheld, hports, hunlabelled, hlabelled, hrest⟩ := hv
  cases n
  all_goals exact ⟨hbin, hdetected, hnest, hother, hcounts, hbins, haccounts, ⟨h1, h2, h3⟩, hunits, hheld, hports, hunlabelled,
    fun j hm hp hj => (hlabelled j hm hp hj).transfer rfl rfl rfl rfl, hrest⟩

theorem lastCompletion_ruled {v k : Nat} {r w : Verdict} {last pend suspect : Bool} (hat : s.AtLastCompletion n h c x)
    (hload : s.loader.state ≠ .pending) (hrule : s.AtRuling n c x v k r w last pend suspect) :
    exec .analysisCompletion s = .next ((s.recordTaken n h x).makeVerdict n) ∧
    s.VerdictMade n c x v k r w last pend suspect (ruledBin c w x) ((s.recordTaken n h x).makeVerdict n) := by
  have hrest := recordTaken_rest n h x s
  have hnest := recordTaken_nest n h x s
  have hexec := exec_lastCompletion hat
  have hloader : ((s.recordTaken n h x).makeVerdict n).loader = s.loader := by
    rw [State.makeVerdict_loader, hrest]
    cases n <;> rfl
  rw [settleActivation_notPending (by rw [hloader]; exact hload)] at hexec
  refine ⟨hexec, ?_⟩
  generalize (s.recordTaken n h x).engine = e at hrest
  generalize (s.recordTaken n h x).capture.half0 = a at hrest
  generalize (s.recordTaken n h x).capture.half1 = b at hrest
  generalize s.recordTaken n h x = u at hrest hnest ⊢
  subst hrest
  refine (verdictMade ?_ hnest ?_).transfer
  · cases n <;> exact hat.plan
  · obtain ⟨h1, h2, h3, h4, h5, h6, h7, h8, h9⟩ := hrule
    cases n <;> exact ⟨h1, h2, h3, h4, h5, h6, h7, h8, h9⟩

end

end Sys2Proof.Machine
end

section
/-! PROOF. A reference verdict, the activation that follows a test, and where completions go (O44; R19, R79, R111). -/

namespace Sys2Proof.Machine
open Sys2Proof

section
variable {n : NestId} {h : HalfId} {c : PlanContent} {x : Nest} {s : State}

/-! ### A test that goes on (R79) -/

theorem recordTaken_whole (n : NestId) (h : HalfId) (x : Nest) (s : State) : s.recordTaken n h x = State.modNest n (fun _ => x) { s with
    engine := (s.recordTaken n h x).engine, capture := (s.recordTaken n h x).capture } := by
  cases n <;> cases h <;> rfl

theorem checkEnded_analysed (h : HalfId) (a b : Int) (pass : Bool) (s : State) : (s.analysed h).checkEnded a b pass =
    State.checkEnded a b pass { s with
      engine := ((s.analysed h).checkEnded a b pass).engine, capture := ((s.analysed h).checkEnded a b pass).capture } := by
  have hrest := analysed_rest h s
  obtain ⟨u, hu⟩ : ∃ u, u = s.analysed h := ⟨_, rfl⟩
  rw [← hu] at hrest ⊢
  have hengine : (u.checkEnded a b pass).engine = u.engine := rfl
  have hcapture : (u.checkEnded a b pass).capture = u.capture := rfl
  have hcap : u.capture = { s.capture with half0 := u.capture.half0, half1 := u.capture.half1 } := congrArg State.capture hrest
  rw [hengine, hcapture]
  rw [← hcap] at hrest
  exact congrArg (State.checkEnded a b pass) hrest

/-- The record of an ANALYSING nest with another of its windows outstanding (R78, R79). -/
theorem completion_begins {g : HalfId} (hs : s.held = false) (hunder : s.engine.under = some h) (hqueue : s.engine.queue = [h, g])
    (hne : h ≠ g) (howner : (s.half h).claimant = .nest n) (howner' : (s.half g).claimant = .nest n)
    (htag : (s.half h).tag = (s.nest n).tag) (htag' : (s.half g).tag = (s.nest n).tag) (hg : (s.half g).state = .queued)
    (hstate : (s.nest n).state = .analysing) (hplan : s.plan = some c)
    (hx : x = (s.nest n).take c (recordOf c.sweep.minResponse (s.half h) (analyse (s.half h)))) :
    exec .analysisCompletion s = .next (s.recordTaken n h x).beginAnalysis ∧
    (s.recordTaken n h x).beginAnalysis.half h = { s.half h with state := .free } ∧
    (s.recordTaken n h x).beginAnalysis.half g = { s.half g with state := .inAnalysis } ∧
    (s.recordTaken n h x).beginAnalysis.engine = { s.engine with
      under := some g, queue := [g], inPhase := List.replicate 12 0, quad := List.replicate 12 0, residual := 0 } ∧
    (s.recordTaken n h x).beginAnalysis.nest n = x ∧ x.state = .analysing ∧
    (s.recordTaken n h x).beginAnalysis = State.modNest n (fun _ => x) { s with
      engine := (s.recordTaken n h x).beginAnalysis.engine, capture := (s.recordTaken n h x).beginAnalysis.capture } := by
  have hxs : x.state = .analysing := by rw [hx, (take_grows ..).state, hstate]
  have hxt : x.tag = (s.nest n).tag := by rw [hx, (take_grows ..).tag]
  obtain ⟨u, hu⟩ : ∃ u, u = s.recordTaken n h x := ⟨_, rfl⟩
  have hhalf (i : HalfId) : u.half i = if i = h then { s.half h with state := .free } else s.half i := hu ▸ recordTaken_half n h x s i
  have huh := hhalf h
  have hug := hhalf g
  rw [if_pos rfl] at huh
  rw [if_neg hne.symm] at hug
  have hunest : u.nest n = x := hu ▸ recordTaken_nest n h x s
  have hout : u.outstanding n ≠ 0 := by
    have hone : (u.half g).outstandingFor (.nest n) (u.nest n).tag = true := by
      rw [hug, hunest, hxt]
      simp [Half.outstandingFor, hg, howner', htag']
    have hsum : u.outstanding n = ((u.half .zero).outstandingFor (.nest n) (u.nest n).tag).toNat +
      ((u.half .one).outstandingFor (.nest n) (u.nest n).tag).toNat := rfl
    rw [hsum]
    cases g <;> rw [hone] <;> simp
  have huengine : u.engine = (s.analysed h).engine := hu ▸ recordTaken_engine n h x s
  obtain ⟨hunder', hqueue'⟩ := analysed_engine h s
  have hq : u.engine.queue = [g] := by
    rw [huengine, hqueue', hqueue]
    simp [hne.symm]
  have hbegin := beginAnalysis_idle (huengine ▸ hunder') hq (hug ▸ hg)
  have hexec := completion_taken hs hunder howner htag hplan (.inl hstate) hx
  rw [← hu, if_neg fun hc => hout hc.2] at hexec
  have hwhole := hu.trans (recordTaken_whole n h x s)
  rw [← hu]
  refine ⟨hexec, ?_, ?_, ?_, ?_, hxs, ?_⟩
  · rw [hbegin, ← huh]
    cases h <;> cases g <;> first | rfl | exact absurd rfl hne
  · rw [hbegin, ← hug]
    cases g <;> rfl
  · rw [hbegin, ← hq, huengine]
  · rw [hbegin, ← hunest]
    cases g <;> cases n <;> rfl
  · rw [hbegin]
    rw [← hu] at hwhole
    generalize u.engine = e at hwhole
    generalize u.capture = k at hwhole
    rw [hwhole]
    cases g <;> cases n <;> rfl

/-! ### A reference unit (R111, R128, R134) -/

/-- The record of a reference unit at its verdict (R111). -/
def Nest.referenceRuled (c : PlanContent) (w : Verdict) (x : Nest) : Nest :=
  { x with
    state := .done, verdict := some w, bin := some (c.bins.binOf w x.detected)
    causeOverload := x.causeOverload || decide (w = .retest ∧ x.hasStatus .overload = true)
    causeNoisy := x.causeNoisy || decide (w = .retest ∧ x.hasStatus .overload = false) }

/-- The part after a reference verdict `w` (R111, R128, R134). -/
def State.referenceRuled (n : NestId) (c : PlanContent) (x : Nest) (w : Verdict) (s : State) : State :=
  State.modNest n (fun _ => x.referenceRuled c w)
    { s with
      accounts := { s.accounts with counts := { s.accounts.counts with
        refTests := s.accounts.counts.refTests + 1
        refPass := s.accounts.counts.refPass + (if w = .pass then 1 else 0) } }
      units := { s.units with
        remaining := if w = .pass ∧ s.units.qualified n = true then c.policy.windowLength else s.units.remaining
        lastReference := some (if w = .pass then (if s.units.qualified n then .granted else .notQualified) else .failed) }
      station := { s.station with
        events := s.station.events ||| nestDoneBit n ||| (if w = .pass then 0 else 0x0080) }
      line := { s.line with events := s.line.events ||| nestDoneBit n ||| (if w = .pass then 0 else 0x0080) } }

theorem referenceUnitVerdict_eq {w : Verdict} (hx : s.nest n = x) (hw : w = x.resolve c.limits) : s.referenceUnitVerdict n c =
    ((State.modNest n (fun _ => x.referenceRuled c w) (s.count (Counts.addReference (w = .pass)))).referenceVerdict n w) := by
  have hcommute (f : Nest → Nest) (u : State) : (u.referenceVerdict n w).modNest n f = (u.modNest n f).referenceVerdict n w := by
    unfold State.referenceVerdict
    cases w <;> dsimp only
    case pass => cases n <;> split <;> simp_all [State.modNest] <;> rfl
    all_goals cases n <;> rfl
  rw [State.referenceUnitVerdict, hx, ← hw]
  dsimp only
  rw [hcommute]
  refine congrArg (State.referenceVerdict n w) ?_
  have hrecord : ({ ({ x.noteCause c.limits with verdict := some w, bin := some (c.bins.binOf w x.detected) } : Nest) with
      state := .done } : Nest) = x.referenceRuled c w := by
    rw [noteCause_eq, ← hw]
    rfl
  subst hx
  rw [← hrecord]
  cases n <;> rfl

theorem latchBoth_bit (e : Event) {b : BitVec 16} (hb : 1#16 <<< eventBit e = b) (s : State) : s.latchBoth e = { s with
    station := { s.station with events := s.station.events ||| b }, line := { s.line with events := s.line.events ||| b } } := by
  subst hb
  rfl

theorem makeVerdict_reference {w : Verdict} (hplan : s.plan = some c) (hx : s.nest n = x) (hkind : x.kind = some .reference)
    (hw : w = x.resolve c.limits) : s.makeVerdict n = s.referenceRuled n c x w := by
  have hmake : s.makeVerdict n = (s.referenceUnitVerdict n c).latchBoth (.nestDone n) := by
    simp only [State.makeVerdict, hplan, hx, hkind, if_true]
  have hwindow : s.windowLength = c.policy.windowLength := by rw [State.windowLength, hplan]
  rw [hmake, referenceUnitVerdict_eq hx hw, State.referenceRuled]
  generalize x.referenceRuled c w = y
  have hqual : (State.modNest n (fun _ => y) (s.count (Counts.addReference (w = .pass)))).units = s.units := by cases n <;> rfl
  have hlength : (State.modNest n (fun _ => y) (s.count (Counts.addReference (w = .pass)))).windowLength = c.policy.windowLength := by
    rw [← hwindow]
    cases n <;> rfl
  have hzero (e : BitVec 16) : e ||| 0 = e := BitVec.or_zero
  have hadd (e : BitVec 32) : e + 0 = e := BitVec.add_zero e
  have hswap (e : BitVec 16) : e ||| nestDoneBit n ||| 0x0080 = e ||| 0x0080 ||| nestDoneBit n := by ac_rfl
  unfold State.referenceVerdict
  rw [hqual, hlength]
  cases w
  case pass =>
    by_cases hq : s.units.qualified n = true
    · simp only [hq, if_true, and_self, hzero]
      cases n <;> rfl
    · simp only [hq, if_true, Bool.false_eq_true, if_false, and_false, hzero]
      cases n <;> rfl
  all_goals
    rw [latchBoth_bit .referenceFailed (b := 0x0080) rfl, latchBoth_bit (.nestDone n) (b := nestDoneBit n) (by cases n <;> rfl)]
    simp only [reduceCtorEq, false_and, if_false, hadd, hswap, decide_false]
    cases n <;> rfl

/-- The last completion of a reference unit (R111). -/
theorem lastCompletion_reference {w : Verdict} (hat : s.AtLastCompletion n h c x) (hload : s.loader.state ≠ .pending)
    (hkind : x.kind = some .reference) (hw : w = x.resolve c.limits) :
    exec .analysisCompletion s = .next ((s.recordTaken n h x).makeVerdict n) ∧
    s.ReferenceVerdictMade n c x w ((s.recordTaken n h x).makeVerdict n) := by
  have hrest := recordTaken_rest n h x s
  have hexec := exec_lastCompletion hat
  have hplan : (s.recordTaken n h x).plan = some c := by
    rw [hrest]
    cases n <;> exact hat.plan
  have hloader : ((s.recordTaken n h x).makeVerdict n).loader = s.loader := by
    rw [State.makeVerdict_loader, hrest]
    cases n <;> rfl
  rw [settleActivation_notPending (by rw [hloader]; exact hload)] at hexec
  refine ⟨hexec, ?_⟩
  rw [makeVerdict_reference hplan (recordTaken_nest n h x s) hkind hw, State.referenceRuled]
  generalize (s.recordTaken n h x).engine = e at hrest
  generalize (s.recordTaken n h x).capture.half0 = a at hrest
  generalize (s.recordTaken n h x).capture.half1 = b at hrest
  rw [hrest]
  refine ⟨State.modNest_nest .., ?_⟩
  generalize x.referenceRuled c w = y
  cases n <;> rfl

/-! ### The activation that follows (R19) -/

/-- Nest `n` has a verdict, and neither nest is in test. -/
def State.outOfTest (n : NestId) (s : State) : Prop :=
  (s.nest n).verdict ≠ none ∧ (s.nest n).state.inTest = false ∧ (s.nest (otherNest n)).state.inTest = false

theorem outOfTest_congr {s t : State} (hnest : ∀ m, t.nest m = s.nest m) (hs : s.outOfTest n) : t.outOfTest n := by
  unfold State.outOfTest
  rw [hnest, hnest]
  exact hs

theorem outOfTest_modNest {s : State} {m : NestId} {f : Nest → Nest} (hv : (f (s.nest m)).verdict = (s.nest m).verdict)
    (hf : (f (s.nest m)).state.inTest = false) (hs : s.outOfTest n) : (s.modNest m f).outOfTest n := by
  obtain ⟨h1, h2, h3⟩ := hs
  cases n <;> cases m
  · exact ⟨fun e => h1 (hv.symm.trans e), hf, h3⟩
  · exact ⟨h1, h2, hf⟩
  · exact ⟨h1, h2, hf⟩
  · exact ⟨fun e => h1 (hv.symm.trans e), hf, h3⟩

/-- The marker link takes no nest back into a test. -/
theorem outOfTest_kept (n : NestId) : KeptByMarkerOps (State.outOfTest n) where
  marker _ _ _ hs := outOfTest_congr (fun m => by cases m <;> rfl) hs
  events _ _ hs := outOfTest_congr (fun m => by cases m <;> rfl) hs
  admits s hs := by
    unfold State.admitWaiting
    split
    · exact hs
    · exact outOfTest_modNest rfl rfl (outOfTest_congr (fun m => by cases m <;> rfl) hs)

theorem latched_or {p : PortId} {e : Event} {s t : State} {b : BitVec 16} (ht : (t.port p).events = (s.port p).events ||| b)
    (hs : s.latched p e = true) : t.latched p e = true := by
  rw [State.latched, ht, BitVec.getLsbD_or, Bool.or_eq_true_iff]
  exact .inl hs

/-- The marker link takes back no event. -/
theorem latched_kept (p : PortId) (e : Event) : KeptByMarkerOps fun s => s.latched p e = true where
  marker _ _ _ hs := by cases p <;> exact hs
  events s e' hs := latched_or (latchBoth_events e' s p) hs
  admits s hs := by
    unfold State.admitWaiting
    split
    · exact hs
    next w _ _ => cases w.nest <;> cases p <;> exact hs

theorem ruled_outOfTest {f : Nest → Nest} (hv : ∀ y, (f y).verdict = y.verdict) (hf : ∀ y, (f y).state.inTest = false)
    (hother : (s.nest (otherNest n)).state.inTest = false) : ((s.ruled n c).modNest n f).outOfTest n := by
  have hself : (((s.ruled n c).modNest n f).nest n).verdict = ((s.nest n).ruledAs c).verdict := by
    rw [State.modNest_nest, hv, ruled_self rfl]
  refine ⟨?_, ?_, ?_⟩
  · rw [hself, Nest.ruledAs]
    exact Option.some_ne_none _
  · rw [State.modNest_nest]
    exact hf _
  · rw [State.modNest_nest_other _ _ _ (by cases n <;> decide), ruled_other]
    exact hother

/-- A verdict leaves the nest out of the test (R29). -/
theorem makeVerdict_outOfTest (hplan : s.plan = some c) (hother : (s.nest (otherNest n)).state.inTest = false) :
    (s.makeVerdict n).outOfTest n := by
  by_cases hkind : (s.nest n).kind = some .reference
  · rw [makeVerdict_reference hplan rfl hkind rfl, State.referenceRuled]
    cases n
    · exact ⟨Option.some_ne_none _, rfl, hother⟩
    · exact ⟨Option.some_ne_none _, rfl, hother⟩
  · have hmake : s.makeVerdict n = (s.productionVerdict n c).latchBoth (.nestDone n) := by
      simp only [State.makeVerdict, hplan, if_neg hkind]
    rw [hmake]
    refine (outOfTest_kept n).events _ _ ?_
    rw [productionVerdict_eq]
    split
    · unfold State.offerJob
      split
      · refine (outOfTest_kept n).enqueue ?_ _
        refine ruled_outOfTest (fun _ => ?_) (fun _ => ?_) hother <;> rfl
      · refine outOfTest_congr (fun m => ?_) (ruled_outOfTest (c := c) (f := fun x => { x with state := .labelWait }) (fun _ => rfl)
          (fun _ => rfl) hother)
        cases n <;> cases m <;> rfl
    · exact ruled_outOfTest (f := fun x => { x with state := .done }) (fun _ => rfl) (fun _ => rfl) hother

/-- The plan that replaces the outgoing one takes no nest into a test and takes back no event (R20). -/
theorem replacedBy_kept (q : StagedPlan) {P : State → Prop} (hP : KeptByMarkerOps P)
    (hsame : ∀ u t : State, (∀ m, t.nest m = u.nest m) → (∀ p, (t.port p).events = (u.port p).events) → P u → P t)
    (hs : P s) : P (s.replacedBy q) := by
  refine hP.events _ _ (hP.remapMarker (hsame s _ (fun m => ?_) (fun p => ?_) hs))
  · cases m <;> simp [State.nest]
  · cases p <;> simp [State.port, withdraw_eq]

/-- The last completion with an activation pending (R19, R29). -/
theorem lastCompletion_activates {q : StagedPlan} (hat : s.AtLastCompletion n h c x) (hload : s.loader.state = .pending)
    (hstaged : s.loader.staged = some q) (hother : (s.nest (otherNest n)).state.inTest = false)
    (hholder : s.chain.holder ≠ some .check) :
    ∃ t, exec .analysisCompletion s = .next t ∧ (t.nest n).verdict ≠ none ∧ (t.nest n).state ≠ .analysing ∧
      s.Completed h t ∧ (∀ p, t.latched p (.nestDone n) = true ∧ t.latched p .planActivated = true) ∧
      t.loader = { s.loader with
        state := .idle, staging := [], staged := none, active := some ⟨s.loader.staging, q.content, q.points⟩ } := by
  obtain ⟨u, hu⟩ : ∃ u, u = s.recordTaken n h x := ⟨_, rfl⟩
  have hrest := hu.trans (recordTaken_rest n h x s)
  have hplan : u.plan = some c := by
    rw [hrest]
    cases n <;> exact hat.plan
  have hloader : (u.makeVerdict n).loader = s.loader := by
    rw [State.makeVerdict_loader, hrest]
    cases n <;> rfl
  have hchain : (u.makeVerdict n).chain = s.chain := by
    rw [State.makeVerdict_chain, hrest]
    cases n <;> rfl
  have hothers : (u.nest (otherNest n)).state.inTest = false := by
    rw [hrest]
    cases n <;> exact hother
  have hout := makeVerdict_outOfTest hplan hothers
  have hdone (p : PortId) : (u.makeVerdict n).latched p (.nestDone n) = true := by
    have hmake : ∃ y : State, u.makeVerdict n = y.latchBoth (.nestDone n) := by
      simp only [State.makeVerdict, hplan]
      exact ⟨_, rfl⟩
    obtain ⟨y, hy⟩ := hmake
    rw [hy, State.latched, latchBoth_events, BitVec.getLsbD_or]
    cases n <;> exact Bool.or_eq_true_iff.mpr (.inr rfl)
  have hexec := exec_lastCompletion hat
  rw [← hu] at hexec
  have hcompleted (t : State) (hc : t.capture = (u.makeVerdict n).capture) (he : t.engine = (u.makeVerdict n).engine)
      (hch : t.chain = (u.makeVerdict n).chain) (hg : t.gen = (u.makeVerdict n).gen) : s.Completed h t := by
    rw [State.makeVerdict_capture, hu] at hc
    rw [State.makeVerdict_engine, hu] at he
    rw [State.makeVerdict_chain, hu] at hch
    rw [State.makeVerdict_gen, hu] at hg
    exact lastCompletion_completed hat hc he hch hg
  generalize u.makeVerdict n = y at hexec hloader hchain hout hdone hcompleted
  have huse : y.planInUse = false := by
    obtain ⟨-, hself, hothers⟩ := hout
    rw [State.planInUse, hchain]
    cases n
    · simp only [State.nest, otherNest] at hself hothers
      simp [hself, hothers, hholder]
    · simp only [State.nest, otherNest] at hself hothers
      simp [hself, hothers, hholder]
  have hact := activate_staged (s := y) (hloader ▸ hstaged)
  have hlatched := activate_latched (s := y) (hloader ▸ hstaged)
  rw [State.settleActivation, hloader, if_pos ⟨hload, huse⟩] at hexec
  have hkept : (y.replacedBy q).outOfTest n := replacedBy_kept q (outOfTest_kept n) (fun u t hn _ => outOfTest_congr hn) hout
  obtain ⟨hverdict, hstate, -⟩ := hkept
  refine ⟨y.activate, hexec, ?_, ?_, hcompleted _ ?_ ?_ ?_ ?_, fun p => ⟨?_, hlatched p⟩, ?_⟩
  · rw [hact, settleMarkerStart_nest]
    exact hverdict
  · rw [hact, settleMarkerStart_nest]
    exact fun e => by rw [e] at hstate; cases hstate
  · rw [State.activate_capture]
  · rw [State.activate_engine]
  · rw [State.activate_chain]
  · rw [State.activate_gen]
  · rw [hact]
    refine settleMarkerStart_latched (replacedBy_kept q (latched_kept p (.nestDone n)) (fun u t _ he hl => ?_) (hdone p))
    rw [State.latched, he]
    exact hl
  · rw [hact, State.settleMarkerStart_loader, replacedBy_loader, hloader]

end

/-! ### Where completions go -/

/-- Settles O44: by what the claimant of the half is doing. -/
theorem completionGoesToItsClaimant : Obligations.CompletionGoesToItsClaimant := by
  refine ⟨fun h rest s hs hunder hqueue hnot hd => completion_discarded hs hunder hqueue hnot hd,
    fun n h c s hs hunder hqueue howner hstate htag hplan hstop => ?_,
    fun h s hs hunder hqueue howner hholder htag hwaits => ?_,
    fun h a b ps s hs hunder hqueue howner hholder htag hfaded hresult hnobody hload hrun => ?_,
    fun n h g c s hs hunder hqueue hne howner howner' htag htag' hg hstate hplan => ?_,
    fun n h c x v k r w last pend suspect s hat hload hrule => ?_, fun n h c x w s hat hload hkind hw => ?_,
    fun n h c x q s hat hload hstaged hother hholder => lastCompletion_activates hat hload hstaged hother hholder⟩
  · obtain ⟨hexec, hx⟩ := completion_measuring hs hunder hqueue howner hstate htag hplan hstop rfl
    refine ⟨_, hexec, ?_, ?_, ?_, recordTaken_nest .., fun href => ?_, ?_, ?_⟩
    · rw [recordTaken_half, if_pos rfl]
    · rw [recordTaken_engine]
      exact (analysed_engine h s).1
    · rw [recordTaken_engine]
      exact analysed_empty hqueue
    · rw [recordTaken_nest]
      exact take_slots_noReference (recordOf_measured ..) href _
    · rw [recordTaken_nest]
      exact hx
    · rw [recordTaken_nest]
      exact recordTaken_whole ..
  · have hexec := completion_checkWaits hs hunder hqueue howner hholder htag hwaits
    rw [takeCheckResult_chain] at hexec
    refine ⟨_, hexec, ?_, (analysed_engine h s).1, analysed_empty hqueue, ?_, ?_⟩
    · have hhalf := analysed_half h h s
      rw [if_pos rfl] at hhalf
      refine Eq.trans ?_ (congrArg Half.state hhalf)
      cases h <;> rfl
    · cases h <;> rfl
    · cases h <;> rfl
  · refine ⟨checkPasses a && checkPasses b, _,
      completion_checkEnds hs hunder hqueue howner hholder htag hfaded hresult hnobody hload hrun, checkPasses_both a b, ?_,
      (analysed_engine h s).1, analysed_empty hqueue, ?_⟩
    · have hhalf := analysed_half h h s
      rw [if_pos rfl] at hhalf
      refine Eq.trans ?_ (congrArg Half.state hhalf)
      cases h <;> rfl
    · exact checkEnded_analysed ..
  · obtain ⟨hexec, hfreed, hbegun, hengine, hnest, hst, hrest⟩ :=
      completion_begins hs hunder hqueue hne howner howner' htag htag' hg hstate hplan rfl
    exact ⟨_, hexec, hfreed, hbegun, hengine, hnest, by rw [hnest]; exact hst, by rw [hnest]; exact hrest⟩
  · obtain ⟨hexec, hmade⟩ := lastCompletion_ruled hat hload hrule
    exact ⟨_, _, hexec, hmade, lastCompletion_completed hat (by simp) (by simp) (by simp) (by simp)⟩
  · obtain ⟨hexec, hmade⟩ := lastCompletion_reference hat hload hkind hw
    exact ⟨_, hexec, hmade, lastCompletion_completed hat (by simp) (by simp) (by simp) (by simp)⟩

end Sys2Proof.Machine
end

section
/-! PROOF. The measurement values against the exact ones (O45; R83 to R91). -/

namespace Sys2Proof.Machine
open Sys2Proof

/-! ### Bounds (R87) -/

theorem clampLevel_bounds (v : Int) : -15000 ≤ clampLevel v ∧ clampLevel v ≤ 15000 := by
  rw [clampLevel_eq]
  omega

theorem log1000_bounds (p q : Nat) : -15000 ≤ log1000 p q ∧ log1000 p q ≤ 15000 := clampLevel_bounds _

theorem thdOf_bounds (d p : Nat) : -15000 ≤ thdOf d p ∧ thdOf d p ≤ 15000 := by
  unfold thdOf
  split
  · omega
  · exact log1000_bounds _ _

theorem rnbOf_bounds (k p : Nat) : -15000 ≤ rnbOf k p ∧ rnbOf k p ≤ 15000 := by
  unfold rnbOf
  split
  · omega
  · exact log1000_bounds _ _

/-! ### The record (R88 to R91) -/

/-- I_1² + Q_1² of an analysis. -/
def Analysed.fundamental (a : Analysed) : Nat := power (a.acc.getD 0 (0, 0))

/-- Whether the record of an analysis is NO_SIGNAL (R91). -/
def Analysed.silent (minResponse : Int) (h : Half) (a : Analysed) : Prop :=
  a.fundamental = 0 ∨ clampLevel (a.lfs + h.micOffset.getD 0) < minResponse

theorem recordOf_silent {m : Int} {h : Half} {a : Analysed} (hs : a.silent m h) : recordOf m h a =
    ⟨h.point, h.freq, .noSignal, h.attempt, some (clampLevel (a.lfs + h.micOffset.getD 0)), none, none, none⟩ := by
  have hd : decide (power (a.acc.getD 0 (0, 0)) = 0 ∨ clampLevel (a.lfs + h.micOffset.getD 0) < m) = true := decide_eq_true hs
  simp only [recordOf, hd, true_or, if_true]

theorem recordOf_heard {m : Int} {h : Half} {a : Analysed} (hs : ¬a.silent m h) : recordOf m h a =
    ⟨h.point, h.freq, .valid, h.attempt, some (clampLevel (a.lfs + h.micOffset.getD 0)),
      if a.acc.length < 2 then none else some (thdOf (((a.acc.drop 1).map power).sum) a.fundamental),
      some (rnbOf a.peak a.fundamental), none⟩ := by
  have hd : decide (power (a.acc.getD 0 (0, 0)) = 0 ∨ clampLevel (a.lfs + h.micOffset.getD 0) < m) = false := decide_eq_false hs
  simp only [recordOf, hd, Bool.false_eq_true, false_or, if_false]
  rfl

/-- Every measurement of a record is clamped, and a NO_SIGNAL record has SPL alone (R87, R91, R93). -/
theorem recordOf_clamped (m : Int) (h : Half) (a : Analysed) :
    (∀ v, (recordOf m h a).spl = some v ∨ (recordOf m h a).thd = some v ∨ (recordOf m h a).rnb = some v → -15000 ≤ v ∧ v ≤ 15000) ∧
    (recordOf m h a).rel = none ∧ ((recordOf m h a).status = .valid ∨ (recordOf m h a).status = .noSignal) ∧
    ((recordOf m h a).status = .noSignal → (recordOf m h a).thd = none ∧ (recordOf m h a).rnb = none) ∧
    (recordOf m h a).index = h.point ∧ (recordOf m h a).freq = h.freq ∧ (recordOf m h a).attempts = h.attempt := by
  by_cases hs : a.silent m h
  · rw [recordOf_silent hs]
    refine ⟨fun v hv => ?_, rfl, .inr rfl, fun _ => ⟨rfl, rfl⟩, rfl, rfl, rfl⟩
    rcases hv with hv | hv | hv
    · exact Option.some.inj hv ▸ clampLevel_bounds _
    · cases hv
    · cases hv
  · rw [recordOf_heard hs]
    refine ⟨fun v hv => ?_, rfl, .inl rfl, fun hn => (by cases hn), rfl, rfl, rfl⟩
    rcases hv with hv | hv | hv
    · exact Option.some.inj hv ▸ clampLevel_bounds _
    · dsimp only at hv
      split at hv
      · cases hv
      · exact Option.some.inj hv ▸ thdOf_bounds _ _
    · exact Option.some.inj hv ▸ rnbOf_bounds _ _

/-! ### The sums of the harmonics (R84 to R86) -/

theorem list_range_sum {M : Type} [AddCommMonoid M] (f : Nat → M) (n : Nat) :
    ((List.range n).map f).sum = ∑ i ∈ Finset.range n, f i := by
  induction n with
  | zero => rfl
  | succ n ih => rw [List.range_succ, List.map_append, List.sum_append, ih, Finset.sum_range_succ]; simp

theorem sum_Icc_range {M : Type} [AddCommMonoid M] (f : Nat → M) (a n : Nat) :
    ∑ k ∈ Finset.Icc a n, f k = ∑ i ∈ Finset.range (n + 1 - a), f (a + i) := by
  have hset : Finset.Icc a n = Finset.Ico a (n + 1) := by
    ext k
    simp only [Finset.mem_Icc, Finset.mem_Ico]
    omega
  rw [hset, Finset.sum_Ico_eq_sum_range]

section
variable {h : Half} {H : Nat} {I Q : Nat → Int} {A : Nat → ℝ} {D P : ℝ}

/-- The accumulators hold the exact sums (R84). -/
theorem acc_eq (hA : h.Analysis H I Q A D P) : (analyse h).acc = (List.range H).map fun i => (I (i + 1), Q (i + 1)) := by
  have heff : effectiveHarmonics h.harmonics h.freq = H := hA.harmonics.symm
  have hacc : (analyse h).acc = accumulate h.samples (effectiveHarmonics h.harmonics h.freq) := rfl
  rw [hacc, heff, accumulate]
  refine List.map_congr_left fun i _ => ?_
  rw [inPhaseSum_eq, quadSum_eq, hA.inPhase, hA.quad]

/-- The square of twice an amplitude times 32,767 × N over 2, as an integer (R85). -/
def powerAt (I Q : Nat → Int) (k : Nat) : Nat := power (I k, Q k)

theorem powerAt_cast (I Q : Nat → Int) (k : Nat) : (powerAt I Q k : ℝ) = (I k : ℝ) ^ 2 + (Q k : ℝ) ^ 2 := by
  have hnonneg : 0 ≤ I k * I k + Q k * Q k := add_nonneg (mul_self_nonneg _) (mul_self_nonneg _)
  have hint : ((powerAt I Q k : Int) : ℝ) = ((I k * I k + Q k * Q k : Int) : ℝ) := by
    rw [powerAt, power, Int.toNat_of_nonneg hnonneg]
  push_cast at hint
  rw [hint]
  ring

theorem fundamental_eq (hA : h.Analysis H I Q A D P) (hH : 1 ≤ H) : (analyse h).fundamental = powerAt I Q 1 := by
  rw [Analysed.fundamental, acc_eq hA, powerAt, List.getD_eq_getElem?_getD, List.getElem?_map, List.getElem?_range (by omega)]
  rfl

theorem overtones_eq (hA : h.Analysis H I Q A D P) :
    (((analyse h).acc.drop 1).map power).sum = ∑ k ∈ Finset.Icc 2 H, powerAt I Q k := by
  have hdrop : ((analyse h).acc.drop 1).map power = (List.range (H - 1)).map fun i => powerAt I Q (2 + i) := by
    rw [acc_eq hA]
    refine List.ext_getElem (by simp) fun i _ _ => ?_
    simp only [List.getElem_map, List.getElem_drop, List.getElem_range, powerAt]
    rw [show 1 + i + 1 = 2 + i by omega]
  rw [hdrop, list_range_sum, sum_Icc_range, show H + 1 - 2 = H - 1 by omega]

/-- The reconstruction is the sum of the harmonics (R86). -/
theorem reconstruction_eq (hA : h.Analysis H I Q A D P) (φ : Phase) : reconstruction (analyse h).acc φ =
    ∑ k ∈ Finset.Icc 1 H, 2 * (I k * cosineAt k φ + Q k * sineAt k φ) := by
  have hzip : (analyse h).acc.zipIdx.map (fun x => 2 * (x.1.1 * cosineOf (x.2 + 1) φ + x.1.2 * sineOf (x.2 + 1) φ)) =
      (List.range H).map fun i => 2 * (I (1 + i) * cosineAt (1 + i) φ + Q (1 + i) * sineAt (1 + i) φ) := by
    rw [acc_eq hA]
    refine List.ext_getElem (by simp) fun i _ _ => ?_
    simp only [List.getElem_map, List.getElem_zipIdx, List.getElem_range, Nat.zero_add, Nat.add_comm 1 i]
    rfl
  rw [reconstruction, foldl_add_eq, zero_add, hzip, list_range_sum, sum_Icc_range, Nat.add_sub_cancel]

end

end Sys2Proof.Machine
end

section
/-! PROOF. The exact amplitudes, power and residual peak as the engine's integers (O45; R85 to R91). -/

namespace Sys2Proof.Machine
open Sys2Proof

theorem logb_square (x : ℝ) : 2000 * Real.logb 10 x = 1000 * Real.logb 10 (x ^ 2) := by
  rw [Real.logb_pow]
  push_cast
  ring

section
variable {h : Half} {H : Nat} {I Q : Nat → Int} {A : Nat → ℝ} {D P : ℝ}

/-- The square of an amplitude (R85). -/
theorem amplitude_square (hA : h.Analysis H I Q A D P) (k : Nat) : A k ^ 2 = 4 * powerAt I Q k / (32767 * h.length : ℝ) ^ 2 := by
  rw [hA.amplitude, ← powerAt_cast, div_pow, mul_pow, Real.sq_sqrt (Nat.cast_nonneg _)]
  norm_num

theorem scale_pos (hlen : 1 ≤ h.length) : (0 : ℝ) < 32767 * h.length := by
  have : (0 : ℝ) < h.length := by exact_mod_cast hlen
  positivity

theorem amplitude_zero_iff (hA : h.Analysis H I Q A D P) (hlen : 1 ≤ h.length) (k : Nat) : A k = 0 ↔ powerAt I Q k = 0 := by
  have hpos := scale_pos hlen
  rw [← pow_eq_zero_iff (two_ne_zero), amplitude_square hA, div_eq_zero_iff]
  constructor
  · rintro (h0 | h0)
    · exact_mod_cast (mul_eq_zero.mp h0).resolve_left (by norm_num)
    · exact absurd h0 (by positivity)
  · intro h0
    rw [h0]
    simp

/-- D is the power of the overtones (R89). -/
theorem power_eq (hA : h.Analysis H I Q A D P) :
    D = 4 * ((∑ k ∈ Finset.Icc 2 H, powerAt I Q k : Nat) : ℝ) / (32767 * h.length : ℝ) ^ 2 := by
  rw [hA.power, Nat.cast_sum, Finset.mul_sum, Finset.sum_div]
  exact Finset.sum_congr rfl fun k _ => amplitude_square hA k

/-! ### The residual peak (R86) -/

theorem foldl_max_spec {α : Type} (f : α → Nat) (l : List α) (a : Nat) :
    a ≤ l.foldl (fun p x => max p (f x)) a ∧ (∀ x ∈ l, f x ≤ l.foldl (fun p x => max p (f x)) a) ∧
    (l.foldl (fun p x => max p (f x)) a = a ∨ ∃ x ∈ l, l.foldl (fun p x => max p (f x)) a = f x) := by
  induction l generalizing a with
  | nil => exact ⟨le_rfl, by simp, .inl rfl⟩
  | cons y l ih =>
    obtain ⟨hlow, hall, hreach⟩ := ih (max a (f y))
    rw [List.foldl_cons]
    refine ⟨le_trans (le_max_left _ _) hlow, fun x hx => ?_, ?_⟩
    · rcases List.mem_cons.mp hx with rfl | hx
      · exact le_trans (le_max_right _ _) hlow
      · exact hall x hx
    · rcases hreach with he | ⟨x, hx, he⟩
      · rcases max_choice a (f y) with hm | hm
        · exact .inl (he.trans hm)
        · exact .inr ⟨y, by simp, he.trans hm⟩
      · exact .inr ⟨x, by simp [hx], he⟩

/-- A sample's residual, scaled (R86). -/
def residualAt (h : Half) (x : Int × Phase) : Nat :=
  (x.1 * (32767 * 32767 * h.length : Nat) - reconstruction (analyse h).acc x.2).natAbs

theorem peak_eq {n : NestId} (hc : h.claimant = .nest n) : (analyse h).peak = h.samples.foldl (fun p x => max p (residualAt h x)) 0 := by
  simp only [analyse, hc]
  rfl

theorem residualAt_cast (hA : h.Analysis H I Q A D P) (hlen : 1 ≤ h.length) (x : Int × Phase) :
    |(x.1 : ℝ) - ∑ k ∈ Finset.Icc 1 H, 2 * ((I k : ℝ) * cosineAt k x.2 + (Q k : ℝ) * sineAt k x.2) / (32767 ^ 2 * h.length)| =
      residualAt h x / (32767 ^ 2 * h.length) := by
  have hn : (0 : ℝ) < h.length := by exact_mod_cast hlen
  have hpos : (0 : ℝ) < 32767 ^ 2 * h.length := by positivity
  have hcast : (residualAt h x : ℝ) = |(x.1 : ℝ) * (32767 ^ 2 * h.length) -
      ∑ k ∈ Finset.Icc 1 H, 2 * ((I k : ℝ) * cosineAt k x.2 + (Q k : ℝ) * sineAt k x.2)| := by
    have habs : ((residualAt h x : Int) : ℝ) = |((x.1 * (32767 * 32767 * h.length : Nat) - reconstruction (analyse h).acc x.2 : Int) : ℝ)| := by
      rw [residualAt, Int.natCast_natAbs, Int.cast_abs]
    rw [Int.cast_natCast] at habs
    rw [habs, reconstruction_eq hA]
    push_cast
    ring_nf
  rw [hcast, ← Finset.sum_div, eq_div_iff hpos.ne', ← abs_of_pos hpos, ← abs_mul, abs_of_pos hpos, sub_mul, div_mul_cancel₀ _ hpos.ne']

/-- P is the greatest residual (R86). -/
theorem residualPeak_eq {n : NestId} (hA : h.Analysis H I Q A D P) (hlen : 1 ≤ h.length) (hc : h.claimant = .nest n) :
    P = (analyse h).peak / (32767 ^ 2 * h.length) := by
  have hn : (0 : ℝ) < h.length := by exact_mod_cast hlen
  have hpos : (0 : ℝ) < 32767 ^ 2 * h.length := by positivity
  obtain ⟨-, hall, hreach⟩ := foldl_max_spec (residualAt h) h.samples 0
  rw [← peak_eq hc] at hall hreach
  have hbound (x : Int × Phase) (hx : x ∈ h.samples) : (residualAt h x : ℝ) / (32767 ^ 2 * h.length) ≤ P := by
    rw [← residualAt_cast hA hlen]
    exact hA.residual x hx
  rcases hA.peak with ⟨rfl, hnil⟩ | ⟨y, hy, hP⟩
  · rw [peak_eq hc, hnil]
    simp
  · rw [residualAt_cast hA hlen] at hP
    refine le_antisymm ?_ ?_
    · rw [hP]
      exact div_le_div_of_nonneg_right (by exact_mod_cast hall y hy) hpos.le
    · rcases hreach with h0 | ⟨z, hz, he⟩
      · rw [h0, hP]
        simp only [Nat.cast_zero, zero_div]
        positivity
      · rw [he]
        exact hbound z hz

end

end Sys2Proof.Machine
end

section
/-! PROOF. Every measurement value is that of the exact sums (O45; R87 to R91). -/

namespace Sys2Proof.Machine
open Sys2Proof

/-- The logarithm of a square that is a quotient of naturals. -/
theorem measures_of_square {y : ℝ} {p q : Nat} (hp : 0 < p) (hq : 0 < q) (h : y ^ 2 = p / q) :
    Measures (2000 * Real.logb 10 y) (log1000 p q) := by
  rw [logb_square, h]
  exact log1000_measures hp hq

section
variable {h : Half} {H : Nat} {I Q : Nat → Int} {A : Nat → ℝ} {D P : ℝ}

/-- The level of the fundamental (R88). -/
theorem lfs_measures (hA : h.Analysis H I Q A D P) (hH : 1 ≤ H) (hlen : 1 ≤ h.length) :
    (A 1 = 0 → (analyse h).lfs = -15000) ∧
    (A 1 ≠ 0 → Measures (2000 * Real.logb 10 (A 1 / 8388607)) (analyse h).lfs) := by
  have hlfs : (analyse h).lfs = levelFs (powerAt I Q 1) h.length := congrArg (levelFs · h.length) (fundamental_eq hA hH)
  rw [ne_eq, amplitude_zero_iff hA hlen, hlfs, levelFs]
  refine ⟨fun h0 => by rw [if_pos h0], fun h0 => ?_⟩
  have hpos := scale_pos hlen
  rw [if_neg h0]
  refine measures_of_square (by omega) (by simp only [Config.fullScale]; positivity) ?_
  rw [div_pow, amplitude_square hA]
  simp only [Config.fullScale]
  push_cast
  field_simp
  norm_num

/-- The distortion of a heard record (R89). -/
theorem thd_measures (hA : h.Analysis H I Q A D P) (hlen : 1 ≤ h.length) (hone : powerAt I Q 1 ≠ 0) :
    (D = 0 → thdOf (∑ k ∈ Finset.Icc 2 H, powerAt I Q k) (powerAt I Q 1) = -15000) ∧
    (D ≠ 0 → Measures (1000 * Real.logb 10 (D / A 1 ^ 2)) (thdOf (∑ k ∈ Finset.Icc 2 H, powerAt I Q k) (powerAt I Q 1))) := by
  have hpos := scale_pos hlen
  have hD := power_eq hA
  have hzero : D = 0 ↔ ∑ k ∈ Finset.Icc 2 H, powerAt I Q k = 0 := by
    rw [hD, div_eq_zero_iff]
    constructor
    · rintro (h0 | h0)
      · exact_mod_cast (mul_eq_zero.mp h0).resolve_left (by norm_num)
      · exact absurd h0 (by positivity)
    · intro h0
      rw [h0]
      simp
  rw [ne_eq, hzero, thdOf]
  refine ⟨fun h0 => by rw [if_pos h0], fun h0 => ?_⟩
  rw [if_neg h0]
  have hratio : D / A 1 ^ 2 = ((∑ k ∈ Finset.Icc 2 H, powerAt I Q k : Nat) : ℝ) / powerAt I Q 1 := by
    have hp : (powerAt I Q 1 : ℝ) ≠ 0 := by exact_mod_cast hone
    rw [hD, amplitude_square hA]
    field_simp
  rw [hratio]
  exact log1000_measures (Nat.pos_of_ne_zero h0) (Nat.pos_of_ne_zero hone)

/-- The rub-and-buzz level of a heard record of a nest (R90). -/
theorem rnb_measures {n : NestId} (hA : h.Analysis H I Q A D P) (hlen : 1 ≤ h.length) (hc : h.claimant = .nest n)
    (hone : powerAt I Q 1 ≠ 0) :
    (P = 0 → rnbOf (analyse h).peak (powerAt I Q 1) = -15000) ∧
    (P ≠ 0 → Measures (2000 * Real.logb 10 (P / A 1)) (rnbOf (analyse h).peak (powerAt I Q 1))) := by
  have hn : (0 : ℝ) < h.length := by exact_mod_cast hlen
  have hP := residualPeak_eq hA hlen hc
  have hzero : P = 0 ↔ (analyse h).peak = 0 := by
    rw [hP, div_eq_zero_iff]
    constructor
    · rintro (h0 | h0)
      · exact_mod_cast h0
      · exact absurd h0 (by positivity)
    · intro h0
      rw [h0]
      simp
  rw [ne_eq, hzero, rnbOf]
  refine ⟨fun h0 => by rw [if_pos h0], fun h0 => ?_⟩
  rw [if_neg h0]
  refine measures_of_square (Nat.pow_pos (Nat.pos_of_ne_zero h0)) (Nat.mul_pos (by norm_num) (Nat.pos_of_ne_zero hone)) ?_
  have hp : (powerAt I Q 1 : ℝ) ≠ 0 := by exact_mod_cast hone
  rw [div_pow, amplitude_square hA, hP]
  push_cast
  field_simp
  norm_num

end

/-- Settles O45: the integers of the engine are the exact values times known scales. -/
theorem measurementsAreClamped : Obligations.MeasurementsAreClamped := by
  refine ⟨fun m h => recordOf_clamped m h (analyse h), fun m offset h H I Q A D P hA hH hlen hoffset => ?_⟩
  have hfund := fundamental_eq hA hH
  have hzero := amplitude_zero_iff hA hlen 1
  have hspl : clampLevel ((analyse h).lfs + h.micOffset.getD 0) = max (-15000) (min 15000 ((analyse h).lfs + offset)) := by
    rw [clampLevel_eq, hoffset, Option.getD_some]
  obtain ⟨hlfs0, hlfs⟩ := lfs_measures hA hH hlen
  have hsilent : (analyse h).silent m h ↔ A 1 = 0 ∨ max (-15000) (min 15000 ((analyse h).lfs + offset)) < m := by
    rw [Analysed.silent, hfund, hspl, hzero]
  refine ⟨hlfs0, hlfs, ?_⟩
  by_cases hs : (analyse h).silent m h
  · rw [recordOf_silent hs]
    refine ⟨congrArg some hspl, ⟨fun _ => hsilent.mp hs, fun _ => rfl⟩, fun hv => (by cases hv), fun hv => (by cases hv)⟩
  · have hone : powerAt I Q 1 ≠ 0 := fun h0 => hs (.inl (hfund.trans h0))
    rw [recordOf_heard hs]
    refine ⟨congrArg some hspl, ⟨fun hv => (by cases hv), fun hq => absurd (hsilent.mpr hq) hs⟩, fun _ h2 => ⟨_, ?_, thd_measures hA hlen hone⟩,
      fun _ n hn => ⟨_, ?_, rnb_measures hA hlen hn hone⟩⟩
    · have hlength : (analyse h).acc.length = H := by rw [acc_eq hA]; simp
      dsimp only
      rw [hlength, if_neg (by omega), overtones_eq hA, hfund]
    · rw [hfund]

end Sys2Proof.Machine
end
